-- ==== Sys2Proof/Word.lean ====
section
/-!
DEFINITION. The word types of the TJS-128 and their plainest arithmetic.
R16: every multi-byte value is little-endian and bit 0 is the least significant bit.
-/
namespace Sys2Proof

/-- One byte. -/
abbrev Byte := BitVec 8

/-- A run of bytes, lowest address first. -/
abbrev Bytes := List (BitVec 8)

/-- A sparse array: (index, value) pairs with rising indexes, none equal to the array's default.
`Machine/Ops.lean` holds its one reader and its one writer. -/
abbrev SMap (α : Type) := List (Nat × α)

/-- The little-endian number a run of bytes spells (R16). -/
def leNat : Bytes → Nat
  | [] => 0
  | b :: bs => b.toNat + 256 * leNat bs

/-- The `n` little-endian bytes of a number (R16); higher bits are cut. -/
def leBytes : Nat → Nat → Bytes
  | 0, _ => []
  | n + 1, v => BitVec.ofNat 8 v :: leBytes n (v / 256)

/-- Bits `[lo + w - 1 : lo]` of a number. -/
def bits (v lo w : Nat) : Nat := v / 2 ^ lo % 2 ^ w

/-- Bit `i` of a number. -/
def bit (v i : Nat) : Bool := v / 2 ^ i % 2 == 1

/-- A truth value as a bit. -/
def b2n (b : Bool) : Nat := if b then 1 else 0

/-- The two's complement reading of an `n`-bit number. -/
def signed (n v : Nat) : Int :=
  let u := v % 2 ^ n
  if u < 2 ^ (n - 1) then (u : Int) else (u : Int) - (2 : Int) ^ n

/-- The `n`-bit two's complement pattern of an integer. -/
def unsigned (n : Nat) (v : Int) : Nat := (v % ((2 : Int) ^ n)).toNat

/-- `⌈a / b⌉`. -/
def ceilDiv (a b : Nat) : Nat := (a + b - 1) / b

/-- A number rounded up to a multiple of `m`. -/
def roundUp (a m : Nat) : Nat := ceilDiv a m * m

/-- The `n` bytes of `bs` from byte `off` on; bytes past the end read as zero. -/
def byteSlice (bs : Bytes) (off n : Nat) : Bytes :=
  ((bs.drop off).take n) ++ List.replicate (n - ((bs.drop off).take n).length) 0

/-- Little-endian field of `n` bytes at byte `off` of a block. -/
def fieldLE (bs : Bytes) (off n : Nat) : Nat := leNat (byteSlice bs off n)

/-- All bytes of a block are zero. -/
def allZero (bs : Bytes) : Bool := bs.all (· == 0)

end Sys2Proof
end

