-- ==== Sys2Proof/Syntax.lean ====
section
/-!
DEFINITION. The commands of the TJS-128 block: one constructor of `Instr` for each row of
spec/opcode_table.json, in the table's order. A command is one whole and indivisible step of the
part (95_what_each_step_holds.md). What the outside world supplies with a step (a register write's
bytes, a frame's bytes, data read from host memory, the errors a memory array shows) is an operand.
Rows that say a time has passed carry no clock: the command states that it has.
-/
namespace Sys2Proof

/-- An error that a memory array shows when it is read: the 64 B line it lies in (a span address,
or with bit 63 set a shelf offset, as in R255), whether it is uncorrectable, and whether it is one of three or more bits
that nothing detects, so that wrong data are returned (R351). -/
structure Upset where
  line : Nat
  ue : Bool
  silent : Bool
deriving DecidableEq, Repr

/-- What the world outside gives an operator while it runs: the bytes its host reads return,
whether a host transfer met a PCIe error, which 64 B lines of the host data came with EP set
(Table 15-2), and the memory errors that its reads meet. -/
structure OpIo where
  host : Bytes
  hostOk : Bool
  hostPoison : List Nat
  upsets : List Upset
deriving DecidableEq, Repr

/-- One firmware slot as Lapis reads it from flash and the key store (R112, R113). -/
structure ImageInfo where
  readable : Bool
  gen : Nat
  version : Nat
  svn : Nat
  bodyLen : Nat
  keyKnown : Bool
  keyRevoked : Bool
  sigOk : Bool
deriving DecidableEq, Repr

/-- What start-up work finds outside the digital state: the two flash slots, and the channels that
failed training twice (R129). -/
structure StageReport where
  slotA : ImageInfo
  slotB : ImageInfo
  trainFail : List Nat
deriving DecidableEq, Repr

/-- An item that Topaz charges outside the floor (Table 4-1). -/
inductive Item where
  | facet (f : Nat)
  | facetMem (f : Nat)
  | beryl (i : Nat)
  | spinel (i : Nat)
  | agate (i : Nat)
  | zirconNoPort (c : Nat)
  | zirconExtra (c : Nat)
  | segPair (i : Nat)
  | scrubber (c : Nat)
  | spanPort (p : Nat)
  | core (k : Nat)
  | shelf (k : Nat)
  | debug
  | pipeline (g : Nat)
  | linkUp (p : Nat)
  | podl (p : Nat)
deriving DecidableEq, Repr

/-- The cause of a wake (Table 3-4), and a scrubber behind its schedule (R359). -/
inductive WakeSource where
  | packet | floor | hint | peridot | deepPoll | pcie | linkEnergy | span | debug | eventRing | scrub
deriving DecidableEq, Repr

/-- A fabric packet: a number that names it, and the device tag of the operation that sent it. -/
structure Pkt where
  id : Nat
  tag : Option Nat
deriving DecidableEq, Repr

/-- The arbiters of Table 7-2. -/
inductive Arbiter where
  | segment (d : Nat) | pipeline (g : Nat) | zircon (c : Nat) | workList | berylLock (t : Nat)
  | spinelCommit | agateCombine | spanTransmit (p : Nat) | peridotFetch | topazQueue
deriving DecidableEq, Repr

/-- Who asks an arbiter (Table 7-1): Jade at P0; Garnet's ingest stage (R24) and the DRAM's refresh and retraining at
P1; the firmware's own work (scrub, PREFETCH and HOTSET_LOAD of its own, self-test) at P7; an operation, the motion
stage's MOTION_COMP and VOXELISE among them, at its effective priority; a queue pair, at Peridot's fetch. -/
inductive ArbOwner where
  | jade | ingest | dram | firmware
  | op (tag : Nat)
  | qp (q : Nat)
deriving DecidableEq, Repr

/-- A request that has reached an arbiter: its name, who asks, how many ns ago it came, and whether it is shared
(R263). -/
structure ArbReq where
  id : Nat
  owner : ArbOwner
  agoNs : Nat
  shared : Bool
deriving DecidableEq, Repr

/-- What a configuration request is for (R131, R109): the identity and the capabilities that it reads, or VF Enable,
which PF 0's writes. -/
inductive CfgReq where
  | deviceId | classCode | totalVfs | firstVfOffset | vfStride | maxPayload | maxReadRequest
  | aer | flr | l0s | l1 | l11 | l12 | ats | pri | peerToPeer | multicast
  | vfEnable (on : Bool)
deriving DecidableEq, Repr

/-- The payload of HELLO and JOIN (R336), with the module that each port of the sender has as its peer (R335;
4: none), whose place in the payload the manual does not state. -/
structure Hello where
  serial : Nat
  digest : Nat
  version : Nat
  epoch : Nat
  module : Nat
  state : Nat
  spanId : Nat
  t1 : Nat
  corr : Nat
  peers : List Nat
deriving DecidableEq, Repr

/-- The timing content of HELLO_RSP with the member's own times (R341). -/
structure Exchange where
  t1 : Nat
  t2 : Nat
  t3 : Nat
  t4 : Nat
  corrFwd : Nat
  corrRev : Nat
  stepped : Bool
deriving DecidableEq, Repr

/-- The part of a Span frame's header that every receiver uses (Table 14-1). -/
structure FrameHdr where
  vc : Nat
  prio : Nat
  src : Nat
  dst : Nat
  epoch : Nat
  seq : Nat
  ackSeq : Nat
  credit : List Nat
  tag : Nat
deriving DecidableEq, Repr

/-- The work of a REQ frame: a read or a write of the destination module's memory (R343). -/
inductive RemoteWork where
  | read (addr len : Nat)
  | write (addr : Nat) (data : Bytes) (poison : List Nat)
deriving DecidableEq, Repr

/-- The content of a CTRL frame: the routes with the head's epoch (R335, R340), a Jasper message, a catalogue
copy, a commit record (R333), a READY report (R338), an epoch confirmation (R345), or a member's offset in
ns with TIME_SUSPECT, which the head shows (Table 14-8). -/
inductive CtrlWork where
  | routes (epoch : Nat) (r : List Nat)
  | mailbox (chan : Nat) (words : List Nat)
  | catalogue (table : Nat) (entry : Bytes)
  | commitRecord (table : Nat) (rec : Bytes)
  | ready
  | confirm (epoch : Nat)
  | time (ns : Int) (suspect : Bool)
deriving DecidableEq, Repr

/-- What a self-test or calibration measured: whether the unit failed, the first failing pattern,
the failing line addresses, the lane mask, and the retraining time in ns. -/
structure TestRes where
  failed : Bool
  pattern : Nat
  lines : List Nat
  lanes : Nat
  ns : Nat
deriving DecidableEq, Repr

/-- A read of up to eight bytes of a BAR, and the GCLK cycle since the last tick at which it comes (R11, R15, R65). -/
structure ReadAccess where
  bar : Nat
  off : Nat
  len : Nat
  gclk : Nat
deriving DecidableEq, Repr

/-- How an operation's CQE ends: whether PCIe takes it, and the tags whose signals fall in the same GCLK cycle (R173). -/
structure CqeWrite where
  ok : Bool
  same : List Nat
deriving DecidableEq, Repr

/-- What a flush reads from host memory: the doorbell's tail, and whether PCIe answers its reads (R154, R156). -/
structure FlushRead where
  tail : Nat
  ok : Bool
deriving DecidableEq, Repr

/-- One round of an arbiter: the requests that arrived since the last one, the owners that released, and the GCLK cycle
since the last tick (R167). -/
structure ArbRound where
  arrived : List ArbReq
  released : List ArbOwner
  gclk : Nat
deriving DecidableEq, Repr

/-- A write of OPL_FENCE_CTRL, and the tags whose signals fall in the same GCLK cycle (R173, R178). -/
structure FenceWrite where
  val : Nat
  same : List Nat
deriving DecidableEq, Repr

/-- The commands, one constructor for each row of the table of operations and events. -/
inductive Instr where
  | registerWrite (inst bar off : Nat) (data : Bytes)
  | lowWordRead (req : Nat) (acc : ReadAccess)
  | thresholdWrite (val : Nat)
  | bulkChargeComplete
  | inputQualified
  | vinUndervoltage
  | vinBelow12v
  | drawOver28w
  | vinOvervoltage
  | overvoltageRecovery
  | holdTimeExpiry
  | dieTemperatureSample (a b c d : Int)
  | thermalStepExit
  | supplyMeasurement (vinMv : Int) (stopvsDv iinMa : Nat)
  | drawComparison
  | smbusBlockRead (addr cmd : Nat)
  | mresetNReset (lowNs : Nat)
  | gblResetModule (val : Nat)
  | gblResetWarm (val : Nat)
  | watchdogTimeout
  | coreFault (core : Nat)
  | warmQuiesceComplete
  | startupStageComplete (rep : StageReport)
  | stageOverrun
  | configRequest (fn : Nat) (req : CfgReq)
  | perstNFall
  | perstNRise
  | pcieL1Exit
  | hostLinkDown
  | svnCommit
  | debugNonce (level : Nat) (nonce : Bytes)
  | debugGo (level : Nat)
  | debugEnd
  | qclkTick
  | dtimeStep (hi : Nat)
  | qclkLoss
  | domainIdle (n : Nat)
  | powerDownStart (n : Nat)
  | drainComplete (n : Nat)
  | powerDownComplete (n : Nat)
  | retainHoldExpiry (n : Nat)
  | floorWrite (n val : Nat)
  | packetArrival (n seg : Nat) (pkt : Pkt)
  | wake (n : Nat) (src : WakeSource)
  | wakeComplete (n : Nat)
  | drainTimeout (n : Nat)
  | wakeTimeout (n : Nat)
  | powerCycleComplete (n : Nat)
  | deepSleepPoll
  | linkEnergyDetect (p : Nat)
  | grantRequest (item : Item) (prio : Nat)
  | budgetRisingEdge (period high : Nat)
  | budgetEvaluation
  | budgetLos
  | fclkRaiseComplete
  | zirconChargeRelease (c : Nat)
  | tpzCapWrite (val : Nat)
  | tpzLimitsWrite (val : Nat)
  | setBudget (tag : Nat) (io : OpIo)
  | stopVsLow (dv : Nat)
  | stopOvercurrent (out : Nat)
  | testPulse (out : Nat) (stuck : Bool)
  | testPulseEnd (out : Nat)
  | feedbackSample (a b : Bool)
  | podlClassification (p cls mw : Nat) (volts12 : Bool)
  | podlFault (p : Nat)
  | podlRetry (p : Nat)
  | podlFaultClear (p : Nat)
  | spresNChange (p : Nat) (high : Bool)
  | doorbellPoll
  | doorbellReadComplete (inst : Nat) (data : Bytes) (ok : Bool)
  | sqeFetched (qp tag : Nat) (entries : List Bytes) (ok : Bool)
  | peridotIdle
  | peridotDeep
  | instKick (by_ win qp : Nat)
  | operationComplete (tag : Nat) (cqe : CqeWrite)
  | interruptCoalesceTimeout (qp : Nat)
  | msixUnmask (inst vec : Nat)
  | eventsLost (inst : Nat)
  | qpEnable (q : Nat)
  | qpDisable (q : Nat)
  | qpFlush (q : Nat) (fenceErr : Bool) (tail : FlushRead) (entries : List Bytes)
  | qpPrioWrite (q prio : Nat)
  | functionLevelReset (fn : Nat)
  | instanceResetWrite (by_ win : Nat)
  | vfDisable
  | instanceResetComplete (inst : Nat)
  | arbiterGrant (arb : Arbiter) (round : ArbRound)
  | deadlockWalk (tag : Nat)
  | oplFenceSignal (w : FenceWrite)
  | oplFenceSetErr (w : FenceWrite)
  | oplFenceClearErr (w : FenceWrite)
  | setMode (tag : Nat) (io : OpIo)
  | modeStagedApply (n : Nat)
  | handoffReply (inst : Nat) (entry data : Bytes) (ok : Bool)
  | handoffTimeout (inst id : Nat)
  | handoffDisable (inst : Nat) (fault : Option Nat)
  | jspDataWrite (by_ chan word val : Nat)
  | jspGo (by_ chan : Nat)
  | jspRelease (by_ chan : Nat)
  | jspD15Read (by_ chan : Nat)
  | portLinkUp (p rate : Nat)
  | lldpduReceived (p : Nat) (lldpdu : Bytes)
  | discoveryTimeout (p : Nat)
  | lldpTransmit (p : Nat)
  | frameReceived (p : Nat) (frame : Bytes) (fcsOk laneUpset stall : Bool)
  | sliceCloseTimeout (p : Nat)
  | sweepStalled (p : Nat)
  | poseFrameReceived (p : Nat) (payload : Bytes)
  | gptpSync (offset : Int) (pdelay gm : Nat)
  | gptpAnnounceTimeout
  | syncInEdge
  | hotDetach (p : Nat)
  | bindPort (tag : Nat) (io : OpIo)
  | unbind (tag : Nat) (io : OpIo)
  | sliceConsume (tag : Nat) (io : OpIo)
  | cableTest (p : Nat)
  | cableTestDone (p result dist : Nat)
  | motionComp (tag : Nat) (io : OpIo)
  | poseWaitTimeout (tag : Nat) (io : OpIo)
  | voxelise (tag : Nat) (io : OpIo)
  | fieldStepDown
  | velStale
  | portSilent (p : Nat)
  | armWrite (arm : Bool)
  | guardRun
  | restartRequest (by_ : Nat)
  | gpio0RestartPulse (ms : Nat)
  | storeCrcCheck (crcA crcB : Nat)
  | guardFieldLoad (tag : Nat) (io : OpIo)
  | hashBuild (tag : Nat) (io : OpIo)
  | hashQuery (tag : Nat) (io : OpIo)
  | rulebook (tag : Nat) (io : OpIo)
  | neighbourRadius (tag : Nat) (io : OpIo)
  | downsample (tag : Nat) (io : OpIo)
  | brlTableEnable (t : Nat)
  | tableZeroingComplete (t : Nat)
  | spconv (tag : Nat) (io : OpIo)
  | gemm (tag : Nat) (io : OpIo)
  | groupedGemm (tag : Nat) (io : OpIo)
  | elementwise (tag : Nat) (io : OpIo)
  | norm (tag : Nat) (io : OpIo)
  | poolVoxel (tag : Nat) (io : OpIo)
  | windowAttn (tag : Nat) (io : OpIo)
  | softmax (tag : Nat) (io : OpIo)
  | tileComplete (f : Nat) (io : OpIo)
  | tableEnable
  | tableLookup (tag : Nat) (io : OpIo)
  | tableUpdateStage (tag : Nat) (io : OpIo)
  | tableUpdateCommit (tag : Nat) (io : OpIo)
  | tableUpdateAssign (tag : Nat) (io : OpIo)
  | tableSwitch (tag : Nat) (io : OpIo)
  | tableMigrate (tag : Nat) (io : OpIo)
  | hotsetLoad (tag : Nat) (io : OpIo)
  | prefetch (tag : Nat) (io : OpIo)
  | rowReclass (tag : Nat) (io : OpIo)
  | route (tag : Nat) (io : OpIo)
  | scatter (tag : Nat) (io : OpIo)
  | combine (tag : Nat) (io : OpIo)
  | expertStats (tag : Nat) (io : OpIo)
  | hqPush (m q : Nat) (item : Bytes) (withPop : Bool)
  | hqPop (m q : Nat)
  | hqFlush
  | layerEnable
  | spanLinkTrained (p lanes : Nat)
  | spanTrainingTimeout (p : Nat)
  | spanRetrain (p : Nat)
  | spanRetrainTimeout (p : Nat)
  | nak (p : Nat) (hdr : FrameHdr) (seq : Nat)
  | helloTransmit
  | hello (p : Nat) (hdr : FrameHdr) (h : Hello)
  | helloRsp (p : Nat) (hdr : FrameHdr) (x : Exchange)
  | joinTransmit
  | join (p : Nat) (hdr : FrameHdr) (h : Hello)
  | joinAck (p : Nat) (hdr : FrameHdr) (module epoch : Nat) (admitted : Bool) (routes : List Nat)
  | leave (p : Nat) (hdr : FrameHdr)
  | req (p : Nat) (hdr : FrameHdr) (work : RemoteWork) (suppressed : Bool) (io : OpIo)
  | rsp (p : Nat) (hdr : FrameHdr) (data : Bytes) (poison : Bool)
  | ctrl (p : Nat) (hdr : FrameHdr) (work : CtrlWork)
  | spanForm
  | spanRemove (m : Nat)
  | spanCtrlLeave
  | spanDigestWrite (val : Nat)
  | spanLeaveReset
  | headLost
  | holdExpired
  | memberLost (m : Nat)
  | remoteTimeout (tag m : Nat)
  | spanSync (tag : Nat) (io : OpIo)
  | spanAllreduce (tag : Nat) (io : OpIo)
  | ceWriteback (c : Nat)
  | scrubBurst (c : Nat) (upsets : List Upset)
  | scrubBehind (c : Nat)
  | directorySearch (line : Nat)
  | dramRetraining (c ns : Nat) (ok retryOk : Bool)
  | scrubRegion (tag : Nat) (io : OpIo)
  | copy (tag : Nat) (io : OpIo)
  | fill (tag : Nat) (io : OpIo)
  | snapshot
  | telemetrySample
  | waitMaxClr
  | selftest (tag : Nat) (io : OpIo) (res : TestRes)
  | calibrate (tag : Nat) (io : OpIo) (res : TestRes)
  | autoSelftest (facet bank : TestRes)
  | nop (tag : Nat) (io : OpIo)
  | fenceSignal (tag : Nat) (io : OpIo)
  | fenceWait (tag : Nat) (io : OpIo)
  | domainHint (tag : Nat) (io : OpIo)
  | domainHintHoldExpiry (n k : Nat)
  | portLinkDown (p : Nat)
  | pcieLinkUp
  | spanFrameError (p : Nat)
  | spanIdleFrame (p : Nat) (hdr : FrameHdr)
  | tapAccess (ir : Nat) (data : Bytes)
  | uartRxCommand (cmd : Bytes)
  | pcieL1Entry (sub : Nat)
deriving DecidableEq, Repr

end Sys2Proof
end

