-- ==== Sys2Proof/Decode.lean ====
section
/-!
DEFINITION. The command that a word of the table of operations and events spells. The commands reach the block
as events and bus operations; the table gives none of its rows any bits.
-/
namespace Sys2Proof

/-- No row of the table has bits, so no word spells a command. -/
def decodeTableWord (_ _ : Nat) : Option Instr := none

end Sys2Proof
end

