-- ==== Sys2Proof/Config.lean ====
section
/-!
DEFINITION. What one TJS-128 fixes and the manual does not state: fused values, values that the
manual calls undefined, and functions whose last bit it does not give. Every constant is opaque:
no proof can see its value, so a claim holds whatever it is. The assumption log names each.
-/
namespace Sys2Proof

/-- GBL_SERIAL (Table 5-7, "fused"). -/
opaque Config.serial : BitVec 64
/-- LPS_STATUS.FUSED_SVN as fused at manufacture (Table 5-9, "fused"). -/
opaque Config.fusedSvn : BitVec 8
/-- The fused base MAC address (R203); port p has this address plus p. -/
opaque Config.macBase : BitVec 48
/-- The 32-bit IDCODE of the TAP (R54): the manual names the instruction and gives no value. -/
opaque Config.idcode : BitVec 32
/-- Free bytes: the n-th byte the manual leaves undefined, drawn in order by `State.free`. -/
opaque Config.freeByte : Nat → BitVec 8
/-- Free choices: the n-th outcome the manual lets either way (R47). -/
opaque Config.freeBool : Nat → Bool
/-- The sign (bit 63) and payload of a NaN that arithmetic produces, which the manual does not state. -/
opaque Config.nanPayload : BitVec 64
/-- The FP32 neighbour, above or below in magnitude, that the hardware gives for a value which is no FP32 number and whose
rounding the manual does not state: trigonometry in R208 and R233, the exponential in R318 and R390. Arguments: which
function, and its operands. -/
opaque Config.roundsUp : Nat → List Int → Bool
/-- The verdict of ECDSA P-384 over SHA-384 for a debug request (R123): the signature words, the
nonce bytes and the level give the key that verifies, 0 none, 1 Warel service key, 2 integrator
key. -/
opaque Config.debugKey : List Nat → List (BitVec 8) → Nat → Nat
/-- CRC-64 of the Span frame (Table 14-1) over bytes 4 to 311: its polynomial is not stated. -/
opaque Config.crc64 : List (BitVec 8) → BitVec 64
/-- SYNC of a Span frame (Table 14-1): its value is not stated. -/
opaque Config.spanSync : BitVec 32
/-- PRIO of a Span frame on VC0 and of a NAK, by TYPE (Table 14-1): not stated. -/
opaque Config.spanPrio : Nat → Nat
/-- The payload of a Span frame whose layout the manual does not give, by TYPE and its values. -/
opaque Config.spanPayload : Nat → List Nat → List (BitVec 8)
/-- The gPTP servo's rate for an offset in ns (R218, "steers"): its gains are not stated. -/
opaque Config.servoRate : Int → Int → Int
/-- Bytes that a row of this many local columns takes in a staging area (R300): not stated. -/
opaque Config.stageRowBytes : Nat → Nat
/-- Free numbers: the n-th choice among several that the manual leaves open (a free slot, a segment). -/
opaque Config.freeNat : Nat → Nat
/-- The integer that an FP32 or FP64 value which is no finite number gives where one is formed from it
(R272, R292, R299): not stated. The argument is the pattern. -/
opaque Config.nanInt : BitVec 64 → Int
/-- The payload of an F9 request, "load counters" (Table 8-4), from the table and its modules' loads: its
layout is not stated. -/
opaque Config.f9Counters : Nat → List Nat → List (BitVec 8)
/-- An F9 reply's reclassification and migration list (Table 8-4) as (row, class) pairs and a proposal
(shard, source, destination): its layout is not stated. -/
opaque Config.f9List : List (BitVec 8) → List (Nat × Nat) × Option (Nat × Nat × Nat)
/-- The sign of a zero that a facet's FP32 accumulation gives, which may differ between the dense (true) and
the sparse datapath (R276), by the products summed. -/
opaque Config.zeroSign : Bool → List (BitVec 32) → Bool
/-- The capacity in items of hardware queue q (0 to 511) of module m, which the firmware sets (R315). -/
opaque Config.hqCap : Nat → Nat → Nat
/-- RESULT[15:0] of an operator that met a bad weight nibble (R285): it holds the output-channel block and the tile, whose
places are not stated. -/
opaque Config.badWeight : Nat → Nat → BitVec 16
/-- JDE_CRC over the blocks in force, by scope × 16 + index (R254): the manual does not say how they are
laid out for the CRC-32. -/
opaque Config.guardCrc : List (Nat × List (BitVec 8)) → BitVec 32

end Sys2Proof
end

