-- ==== Sys2Proof/Machine/Regs.lean ====
section
/-!
DEFINITION. The register tables of the manual (Tables 2-15 to 16-6): every register of BAR0, with its
offset, its fields, their access codes and their reset values. Names are the manual's. A register of
an array is named once, by its first element's offset; a byte displacement picks the element. The
windows (a QP slot, a Jasper view, a table descriptor, a pool, a layer) are views of these registers,
which `regHome` in Machine/RegRead.lean maps to their homes.
-/
namespace Sys2Proof.Machine

/-- The access codes of Table 0-3, and how the read-only fields hold their value: `ro` is a status
that hardware writes and the register file holds, `calc` is read from other state, and the last four
are the counter classes of Table 0-4 (a `mono` counter is held whole at its low word). -/
inductive Acc where
  | ro | rw | rws | rwd | rwl | w1c | w1s | wo | calc | sat | wrap | mono | thresh
deriving DecidableEq, Repr

/-- The blocks of Table 6-2, in the order of the bits of GBL_ERR_SUMMARY.CFG_ERR; `win` is the
instance windows, whose dropped writes PDT reports. -/
inductive Blk where
  | gbl | qtz | tpz | lps | pdt | qp | opl | mode | amb | jsp | gnt | jde | brl | fct | spn | agt
  | zrc | span | win
deriving DecidableEq, Repr

/-- One field: the register's byte offset in BAR0, the field's low bit and width, its access code,
its reset value in the first element of an array and in the others, and how much the reset value
grows with each byte of displacement. -/
structure Fld where
  off : Nat
  lo : Nat
  w : Nat
  acc : Acc
  rst0 : Nat
  rstN : Nat
  grow : Nat
deriving DecidableEq, Repr

/-- How a register's two 32-bit words read (R15): `plain` is one word; `latch` and `high` are the low
and the high word of a register that latches; `wide` is a 64-bit counter, both words, that latches. -/
inductive Width where
  | plain | latch | high | wide | wideRo
deriving DecidableEq, Repr

/-- One register, or an array of them with (stride, count) per dimension. -/
structure Reg where
  off : Nat
  dims : List (Nat × Nat)
  width : Width
  flds : List Fld
deriving DecidableEq, Repr

/-- A field that is the same in every element of its array. -/
def fld (off lo w : Nat) (acc : Acc) (rst : Nat) : Fld := ⟨off, lo, w, acc, rst, rst, 0⟩


/-! Fields of GBL. -/

def GBL_ID.STEPPING : Fld := fld 0x0000 0 8 .ro 0xB1
def GBL_ID.PART : Fld := fld 0x0000 8 16 .ro 0x0128
def GBL_ID.FAMILY : Fld := fld 0x0000 24 8 .ro 1
def GBL_FW_VERSION.PATCH : Fld := fld 0x0004 0 8 .ro 0
def GBL_FW_VERSION.MINOR : Fld := fld 0x0004 8 8 .ro 0
def GBL_FW_VERSION.MAJOR : Fld := fld 0x0004 16 8 .ro 0
def GBL_FW_VERSION.SVN : Fld := fld 0x0004 24 8 .ro 0
def GBL_BOOT_STATUS.STAGE : Fld := fld 0x0008 0 4 .ro 1
def GBL_BOOT_STATUS.SLOT : Fld := fld 0x0008 4 1 .ro 0
def GBL_BOOT_STATUS.RECOVERY : Fld := fld 0x0008 5 1 .ro 0
def GBL_BOOT_STATUS.MEM_RETAINED : Fld := fld 0x0008 6 1 .ro 0
def GBL_BOOT_STATUS.FAIL_CODE : Fld := fld 0x0008 8 8 .ro 0
def GBL_RESET_CAUSE.CAUSE : Fld := fld 0x000C 0 3 .ro 0
def GBL_RESET_CAUSE.WARM_COUNT : Fld := fld 0x000C 8 8 .ro 0
def GBL_RESET.WARM : Fld := fld 0x0010 0 1 .wo 0
def GBL_RESET.MODULE : Fld := fld 0x0010 1 1 .wo 0
def GBL_RESET.KEY : Fld := fld 0x0010 16 16 .wo 0
def GBL_RESET_CTRL.CLEAR_ON_MRESET : Fld := fld 0x0014 0 1 .rwl 0
def GBL_RESET_CTRL.WDOG_EN : Fld := fld 0x0014 1 1 .rwl 1
def GBL_RESET_CTRL.LOCK : Fld := fld 0x0014 31 1 .w1s 0
def GBL_WDOG.TIMEOUT_MS : Fld := fld 0x0018 0 16 .rwl 100
def GBL_ERR_SUMMARY.CFG_ERR : Fld := fld 0x0020 0 18 .w1c 0
def GBL_SERIAL_LO.SERIAL : Fld := fld 0x0024 0 32 .calc 0
def GBL_SERIAL_HI.SERIAL : Fld := fld 0x0028 0 32 .calc 0
def GBL_SUPPLY.VIN_MV : Fld := fld 0x0080 0 16 .ro 0
def GBL_SUPPLY.STOPVS_DV : Fld := fld 0x0080 16 12 .ro 0
def GBL_SUPPLY.STOPVS_OK : Fld := fld 0x0080 28 1 .ro 0
def GBL_THERMAL.DIE_C : Fld := fld 0x0084 0 12 .ro 0
def GBL_THERMAL.STEP : Fld := fld 0x0084 12 2 .ro 0
def GBL_THERMAL.TRIPPED : Fld := fld 0x0084 14 1 .w1c 0
def GBL_PWR_EVENTS.STOP_OC : Fld := fld 0x0088 0 1 .w1c 0
def GBL_PWR_EVENTS.STOPVS_LOW : Fld := fld 0x0088 1 1 .w1c 0
def GBL_PWR_EVENTS.THERM : Fld := fld 0x0088 2 1 .w1c 0
def GBL_PWR_EVENTS.PODL : Fld := fld 0x0088 3 1 .w1c 0
def GBL_INPUT.IIN_MA : Fld := fld 0x008C 0 16 .ro 0
def GBL_INPUT.PIN_DW : Fld := fld 0x008C 16 16 .ro 0

/-! Fields of QTZ. -/

def QTZ_STATUS.DEPTH : Fld := fld 0x0400 0 2 .ro 0
def QTZ_STATUS.QCLK_COMP : Fld := fld 0x0400 2 1 .ro 0
def QTZ_STATUS.FAILED_ANY : Fld := fld 0x0400 3 1 .calc 0
def QTZ_DTIME_LO.DTIME : Fld := fld 0x0408 0 32 .calc 0
def QTZ_DTIME_HI.DTIME : Fld := fld 0x040C 0 32 .calc 0
def QTZ_DTIME_RATE.RATE : Fld := fld 0x0410 0 32 .rw 0
def QTZ_DTIME_STEP_LO.STEP : Fld := fld 0x0418 0 32 .rw 0
def QTZ_DTIME_STEP_HI.STEP : Fld := fld 0x041C 0 32 .wo 0
def QTZ_FAILED_LO.FAILED : Fld := fld 0x0420 0 32 .calc 0
def QTZ_FAILED_HI.FAILED : Fld := fld 0x0424 0 32 .calc 0

/-! Fields of TPZ. -/

def TPZ_CTRL.SRC : Fld := fld 0x0800 0 1 .rws 0
def TPZ_CTRL.RISE_PERIODS : Fld := fld 0x0800 1 3 .rw 4
def TPZ_CTRL.EVT_CHANGED_EN : Fld := fld 0x0800 4 1 .rw 0
def TPZ_FALLBACK.BU : Fld := fld 0x0804 0 10 .rw 256
def TPZ_FALLBACK.MODE : Fld := fld 0x0804 16 1 .rw 1
def TPZ_CAP.CAP : Fld := fld 0x0808 0 10 .rw 768
def TPZ_LOS_US.LOS_US : Fld := fld 0x080C 0 16 .rw 2500
def TPZ_LIMITS.FCLK_MIN : Fld := fld 0x0810 0 4 .rw 0
def TPZ_LIMITS.FCLK_MAX : Fld := fld 0x0810 4 4 .rw 10
def TPZ_LIMITS.FACET_MIN : Fld := fld 0x0810 8 7 .rw 0
def TPZ_STATUS.EFFECTIVE : Fld := fld 0x0814 0 10 .ro 0
def TPZ_STATUS.SIGNALLED : Fld := fld 0x0814 10 10 .ro 0
def TPZ_STATUS.LOS : Fld := fld 0x0814 20 1 .ro 1
def TPZ_STATUS.BELOW_FLOOR : Fld := fld 0x0814 21 1 .ro 0
def TPZ_STATUS.OVER : Fld := fld 0x0814 22 1 .calc 0
def TPZ_STATUS.FCLK_CODE : Fld := fld 0x0814 23 4 .ro 0
def TPZ_FLOOR.FLOOR : Fld := fld 0x0818 0 10 .calc 24
def TPZ_CHARGED.CHARGED : Fld := fld 0x081C 0 10 .calc 24
def TPZ_DUTY.DUTY : Fld := fld 0x0820 0 10 .ro 0
def TPZ_DUTY.PERIOD : Fld := fld 0x0820 16 16 .ro 0
def TPZ_FACETS.ACTIVE : Fld := fld 0x0824 0 7 .calc 0
def TPZ_FACETS.HELD : Fld := fld 0x0824 8 7 .calc 0
def TPZ_DEFER_CNT.COUNT : Fld := fld 0x0828 0 32 .sat 0
def TPZ_INVALID_CNT.COUNT : Fld := fld 0x082C 0 32 .sat 0

/-! Fields of LPS. -/

def LPS_STATUS.DBG_LEVEL : Fld := fld 0x0C00 0 2 .ro 0
def LPS_STATUS.DBG_LOCKED : Fld := fld 0x0C00 2 1 .ro 0
def LPS_STATUS.SLOT_A_OK : Fld := fld 0x0C00 3 1 .ro 0
def LPS_STATUS.SLOT_B_OK : Fld := fld 0x0C00 4 1 .ro 0
def LPS_STATUS.FUSED_SVN : Fld := fld 0x0C00 8 8 .calc 0
def LPS_CTRL.DBG_DISABLE : Fld := fld 0x0C04 0 1 .rwl 0
def LPS_CTRL.SVN_COMMIT : Fld := fld 0x0C04 1 1 .wo 0
def LPS_CTRL.LOCK : Fld := fld 0x0C04 31 1 .w1s 0
def LPS_DBG_REQ.LEVEL : Fld := fld 0x0C08 0 2 .rw 0
def LPS_DBG_REQ.NONCE : Fld := fld 0x0C08 2 1 .wo 0
def LPS_DBG_REQ.GO : Fld := fld 0x0C08 3 1 .wo 0
def LPS_DBG_REQ.END : Fld := fld 0x0C08 4 1 .wo 0
def LPS_DBG_STATE.STATE : Fld := fld 0x0C10 0 2 .ro 0
def LPS_DBG_STATE.FAILS : Fld := fld 0x0C10 2 2 .ro 0
def LPS_DBG_NONCE.NONCE : Fld := fld 0x0C20 0 32 .ro 0
def LPS_DBG_SIG.SIG : Fld := fld 0x0C40 0 32 .rw 0

/-! Fields of PDT. -/

def PDT_IDLE_POLL.POLL_US : Fld := fld 0x1000 0 8 .rw 50
def PDT_ACTIVE_HOLD.US : Fld := fld 0x1004 0 16 .rw 100
def PDT_IDLE_HOLD.MS : Fld := fld 0x1008 0 16 .rw 10
def PDT_STATUS.TAGS_USED : Fld := fld 0x100C 0 16 .calc 0
def PDT_STATUS.DEPTH : Fld := fld 0x100C 16 2 .calc 0
def PDT_STATUS.CFG_ERR : Fld := fld 0x100C 18 1 .w1c 0
def PDT_FETCH_CNT.COUNT : Fld := fld 0x1010 0 64 .mono 0
def PDT_TAG_STALL_CNT.COUNT : Fld := fld 0x1018 0 32 .sat 0
def PDT_CQE_DROP_CNT.COUNT : Fld := fld 0x101C 0 32 .sat 0
def PDT_INST0.FENCE_BASE : Fld := ⟨0x1100, 0, 14, .rwd, 0, 0, 128⟩
def PDT_INST0.FENCE_COUNT : Fld := fld 0x1100 16 15 .rwd 1024
def PDT_INST1.TAG_RESERVE : Fld := fld 0x1104 0 16 .rwd 0

/-! Fields of OPL. -/

def OPL_CTRL.DL_EN : Fld := fld 0x1400 0 1 .rw 1
def OPL_CTRL.STALE_EVT_EN : Fld := fld 0x1400 1 1 .rw 0
def OPL_DL_AGE.AGE_US : Fld := fld 0x1404 0 16 .rw 100
def OPL_STATUS.WALK_BUSY : Fld := fld 0x1408 0 1 .ro 0
def OPL_STATUS.CFG_ERR : Fld := fld 0x1408 1 1 .w1c 0
def OPL_DL_CNT.COUNT : Fld := fld 0x140C 0 32 .sat 0
def OPL_DL_LIMIT_CNT.COUNT : Fld := fld 0x1410 0 32 .sat 0
def OPL_REGRESS_CNT.COUNT : Fld := fld 0x1414 0 32 .sat 0
def OPL_WAITERS.COUNT : Fld := fld 0x1418 0 16 .calc 0
def OPL_FENCE_SEL.INDEX : Fld := fld 0x1420 0 14 .rw 0
def OPL_FENCE_CTRL.ERROR : Fld := fld 0x1424 0 1 .calc 0
def OPL_FENCE_CTRL.SIGNAL : Fld := fld 0x1424 1 1 .wo 0
def OPL_FENCE_CTRL.SET_ERR : Fld := fld 0x1424 2 1 .wo 0
def OPL_FENCE_CTRL.CLEAR_ERR : Fld := fld 0x1424 3 1 .wo 0
def OPL_FENCE_CTRL.WAITERS : Fld := fld 0x1424 16 16 .calc 0
def OPL_FENCE_VAL_LO.VALUE : Fld := fld 0x1428 0 32 .calc 0
def OPL_FENCE_VAL_HI.VALUE : Fld := fld 0x142C 0 32 .calc 0
def OPL_FENCE_ARG_LO.ARG : Fld := fld 0x1430 0 32 .rw 0
def OPL_FENCE_ARG_HI.ARG : Fld := fld 0x1434 0 32 .rw 0

/-! Fields of MODE. -/

def MODE_HOST_TMO.TMO_US : Fld := fld 0x1800 0 16 .rw 2000
def MODE_STATUS.ASSISTED : Fld := fld 0x1804 0 13 .calc 0
def MODE_STATUS.CFG_ERR : Fld := fld 0x1804 16 1 .w1c 0
def MODE_F.MODE : Fld := fld 0x1810 0 1 .rws 0
def MODE_F.HANDLER : Fld := fld 0x1810 4 4 .rws 0
def MODE_F.MODE_IN_FORCE : Fld := fld 0x1810 8 1 .calc 0
def MODE_F.HANDLER_IN_FORCE : Fld := fld 0x1810 12 4 .calc 0
def MODE_F.STAGED : Fld := fld 0x1810 16 1 .calc 0
def MODE_TMO_CNT.COUNT : Fld := fld 0x1850 0 32 .sat 0

/-! Fields of AMB. -/

def AMB_CTRL.SAT_EVT_EN : Fld := fld 0x1C00 0 1 .rw 1
def AMB_CTRL.WAIT_MAX_CLR : Fld := fld 0x1C00 1 1 .wo 0
def AMB_STATUS.CFG_ERR : Fld := fld 0x1C04 0 1 .w1c 0
def AMB_STATUS.SNAP_BUSY : Fld := fld 0x1C04 1 1 .ro 0
def AMB_SNAP.GO : Fld := fld 0x1C08 0 1 .wo 0
def AMB_SNAP_BASE_LO.ADDR : Fld := fld 0x1C10 0 32 .rw 0
def AMB_SNAP_BASE_HI.ADDR : Fld := fld 0x1C14 0 32 .rw 0
def AMB_SNAP_SEQ.SEQ : Fld := fld 0x1C18 0 32 .ro 0
def AMB_TEL_CTRL.EN : Fld := fld 0x1C20 0 1 .rw 0
def AMB_TEL_CTRL.INST : Fld := fld 0x1C20 8 4 .rwd 0
def AMB_TEL_CTRL.LOG2 : Fld := fld 0x1C20 16 5 .rwd 6
def AMB_TEL_PERIOD.P10US : Fld := fld 0x1C24 0 16 .rws 100
def AMB_TEL_BASE_LO.ADDR : Fld := fld 0x1C28 0 32 .rwd 0
def AMB_TEL_BASE_HI.ADDR : Fld := fld 0x1C2C 0 32 .rwd 0
def AMB_TEL_TAIL.TAIL : Fld := fld 0x1C30 0 32 .ro 0
def AMB_TEL_HEAD.HEAD : Fld := fld 0x1C34 0 32 .rw 0
def AMB_TEL_LOST.COUNT : Fld := fld 0x1C38 0 32 .sat 0
def AMB_WAIT_NS.NS : Fld := fld 0x1C40 0 64 .mono 0
def AMB_WAIT_MAX.NS : Fld := fld 0x1C80 0 32 .ro 0
def AMB_SAT_SEL.BLOCK : Fld := fld 0x1CA0 0 5 .rw 0
def AMB_SAT_SEL.INST : Fld := fld 0x1CA0 8 4 .rw 0
def AMB_SAT_ANY.BLOCKS : Fld := fld 0x1CA4 0 19 .calc 0
def AMB_SAT_MAP.SAT : Fld := fld 0x1CC0 0 32 .calc 0
def AMB_ST_CTRL.AUTO_EN : Fld := fld 0x1D40 0 1 .rw 0
def AMB_ST_CTRL.AUTO_PERIOD_S : Fld := fld 0x1D40 8 8 .rw 60
def AMB_ST_RUNS.COUNT : Fld := fld 0x1D44 0 32 .sat 0
def AMB_ST_FAILS.COUNT : Fld := fld 0x1D48 0 32 .sat 0
def AMB_TEL_LIST.ENTRY : Fld := fld 0x1E00 0 32 .rwd 0

/-! Fields of QP. -/

def QP_CTRL.EN : Fld := fld 0x2000 0 1 .rw 0
def QP_CTRL.INSTANCE : Fld := fld 0x2000 8 4 .rwd 0
def QP_CTRL.PRIO : Fld := fld 0x2000 16 3 .rw 7
def QP_STATUS.STATE : Fld := fld 0x2004 0 2 .ro 0
def QP_STATUS.FLUSH_BUSY : Fld := fld 0x2004 2 1 .ro 0
def QP_STATUS.CFG_ERR : Fld := fld 0x2004 3 1 .w1c 0
def QP_STATUS.EPOCH : Fld := fld 0x2004 16 16 .ro 0
def QP_SQ_BASE_LO.ADDR : Fld := fld 0x2008 0 32 .rwd 0
def QP_SQ_BASE_HI.ADDR : Fld := fld 0x200C 0 32 .rwd 0
def QP_CQ_BASE_LO.ADDR : Fld := fld 0x2010 0 32 .rwd 0
def QP_CQ_BASE_HI.ADDR : Fld := fld 0x2014 0 32 .rwd 0
def QP_SIZES.SQ_LOG2 : Fld := fld 0x2018 0 5 .rwd 4
def QP_SIZES.CQ_LOG2 : Fld := fld 0x2018 8 5 .rwd 4
def QP_TAG_QUOTA.QUOTA : Fld := fld 0x201C 0 16 .rw 512
def QP_COAL.COUNT : Fld := fld 0x2020 0 8 .rw 1
def QP_COAL.TIME_US : Fld := fld 0x2020 8 16 .rw 0
def QP_FLUSH.GO : Fld := fld 0x2024 0 1 .wo 0
def QP_FLUSH.FENCE_ERR : Fld := fld 0x2024 1 1 .wo 0
def QP_SQ_HEAD.HEAD : Fld := fld 0x2028 0 32 .ro 0
def QP_CQ_TAIL.TAIL : Fld := fld 0x202C 0 32 .ro 0
def QP_INFLIGHT.TAGS : Fld := fld 0x2030 0 16 .calc 0
def QP_VEC.VEC : Fld := fld 0x2034 0 7 .rw 0

/-! Fields of JSP. -/

def JSP_D.DATA : Fld := fld 0x3000 0 32 .rw 0
def JSP_CTRL.GO : Fld := fld 0x3040 0 1 .w1s 0
def JSP_CTRL.FULL : Fld := fld 0x3040 1 1 .ro 0
def JSP_CTRL.ABORTED : Fld := fld 0x3040 2 1 .w1c 0
def JSP_CTRL.MODE : Fld := ⟨0x3040, 3, 1, .rwl, 1, 0, 0⟩
def JSP_CTRL.RELEASE : Fld := fld 0x3040 4 1 .wo 0
def JSP_CTRL.CLAIMED : Fld := fld 0x3040 5 1 .ro 0
def JSP_CTRL.SRC : Fld := fld 0x3040 8 8 .ro 0xFF
def JSP_BIND.MASTER_A : Fld := ⟨0x3044, 0, 8, .rwl, 0, 0xFF, 0⟩
def JSP_BIND.MASTER_B : Fld := ⟨0x3044, 8, 8, .rwl, 0x10, 0xFF, 0⟩
def JSP_BIND.LOCK : Fld := fld 0x3044 31 1 .w1s 0
def JSP_STATUS.CFG_ERR : Fld := fld 0x3048 0 1 .w1c 0
def JSP_MSG_CNT.COUNT : Fld := fld 0x304C 0 32 .wrap 0
def JSP_DROP_CNT.COUNT : Fld := fld 0x3050 0 32 .sat 0

/-! Fields of GNT. -/

def GNT_CTRL.LLDP_TX_EN : Fld := fld 0x4000 0 1 .rw 1
def GNT_CTRL.LLDP_TX_S : Fld := fld 0x4000 8 8 .rw 30
def GNT_DISC_TMO.MS : Fld := fld 0x4004 0 16 .rw 2000
def GNT_STATUS.CFG_ERR : Fld := fld 0x4008 0 1 .w1c 0
def GNT_STATUS.KPPS_BOUND : Fld := fld 0x4008 8 24 .calc 0
def GNT_GPTP_CTRL.EN : Fld := fld 0x4010 0 1 .rws 0
def GNT_GPTP_CTRL.PORT : Fld := fld 0x4010 1 4 .rws 0
def GNT_GPTP_CTRL.ALT_PORT : Fld := fld 0x4010 5 4 .rws 0xF
def GNT_GPTP_CTRL.SRC : Fld := fld 0x4010 9 1 .rws 0
def GNT_GPTP_CTRL.STEP_THRESH_US : Fld := fld 0x4010 16 16 .rw 100
def GNT_GPTP_STATUS.STATE : Fld := fld 0x4014 0 2 .ro 0
def GNT_GPTP_STATUS.PORT : Fld := fld 0x4014 4 4 .ro 0
def GNT_GPTP_OFFSET.NS : Fld := fld 0x4018 0 32 .ro 0
def GNT_GPTP_PDELAY.NS : Fld := fld 0x401C 0 32 .ro 0
def GNT_GPTP_GM_LO.ID : Fld := fld 0x4020 0 32 .ro 0
def GNT_GPTP_GM_HI.ID : Fld := fld 0x4024 0 32 .ro 0
def GNT_GPTP_STEPS.COUNT : Fld := fld 0x4028 0 32 .sat 0
def GNT_POSE_CTRL.EN : Fld := fld 0x4030 0 1 .rw 0
def GNT_POSE_CTRL.PORT : Fld := fld 0x4030 1 4 .rwd 0
def GNT_POSE_CTRL.UDP_PORT : Fld := fld 0x4030 16 16 .rwd 0
def GNT_POSE_SIZE.LOG2 : Fld := fld 0x4034 0 5 .rwd 10
def GNT_POSE_BASE_LO.ADDR : Fld := fld 0x4038 0 32 .rwd 0
def GNT_POSE_BASE_HI.ADDR : Fld := fld 0x403C 0 32 .rwd 0
def GNT_POSE_WR.COUNT : Fld := fld 0x4040 0 64 .mono 0
def GNT_POSE_DROP.COUNT : Fld := fld 0x4048 0 32 .sat 0
def GNT_P_CTRL.CABLE_DETECT : Fld := fld 0x4100 0 1 .rw 0
def GNT_P_CTRL.ROLE : Fld := fld 0x4100 1 1 .rwd 0
def GNT_P_CTRL.RATE : Fld := fld 0x4100 2 2 .rwd 3
def GNT_P_CTRL.PODL_EN : Fld := fld 0x4100 4 1 .rw 0
def GNT_P_CTRL.CABLE_TEST : Fld := fld 0x4100 5 1 .wo 0
def GNT_P_CTRL.MAC_FILTER : Fld := fld 0x4100 6 1 .rwd 0
def GNT_P_CTRL.OWNER : Fld := fld 0x4100 8 4 .rwd 0
def GNT_P_CTRL.DEFAULT_DESC : Fld := fld 0x4100 16 8 .rw 0xFF
def GNT_P_STATUS.STATE : Fld := fld 0x4104 0 3 .ro 0
def GNT_P_STATUS.LINK : Fld := fld 0x4104 3 1 .ro 0
def GNT_P_STATUS.PODL_ON : Fld := fld 0x4104 4 1 .ro 0
def GNT_P_STATUS.PODL_FAULT : Fld := fld 0x4104 5 1 .w1c 0
def GNT_P_STATUS.CFG_ERR : Fld := fld 0x4104 6 1 .w1c 0
def GNT_P_STATUS.PIPELINE : Fld := fld 0x4104 8 4 .ro 0xF
def GNT_P_STATUS.DESC : Fld := fld 0x4104 16 8 .ro 0xFF
def GNT_P_STATUS.PODL_CLASS : Fld := fld 0x4104 24 8 .ro 0
def GNT_P_PODL_LIMIT.MW : Fld := fld 0x4108 0 13 .rw 7000
def GNT_P_PODL_MW.MW : Fld := fld 0x410C 0 13 .ro 0
def GNT_P_CABLE.RESULT : Fld := fld 0x4110 0 2 .ro 0
def GNT_P_CABLE.DIST : Fld := fld 0x4110 4 12 .ro 0
def GNT_P_CABLE.BUSY : Fld := fld 0x4110 16 1 .ro 0
def GNT_P_MAC_LO.MAC : Fld := fld 0x4114 0 32 .calc 0
def GNT_P_MAC_HI.MAC : Fld := fld 0x4118 0 32 .calc 0
def GNT_P_SEQ.SEQ : Fld := fld 0x4120 0 64 .mono 0
def GNT_P_HEAD.HEAD : Fld := fld 0x4128 0 64 .mono 0
def GNT_P_FRAMES_OK.COUNT : Fld := fld 0x4130 0 32 .wrap 0
def GNT_P_FCS_ERR.COUNT : Fld := fld 0x4134 0 32 .sat 0
def GNT_P_NONPOINT.COUNT : Fld := fld 0x4138 0 32 .sat 0
def GNT_P_FRAG_DROP.COUNT : Fld := fld 0x413C 0 32 .sat 0
def GNT_P_OVERSIZE.COUNT : Fld := fld 0x4140 0 32 .sat 0
def GNT_P_MALFORMED.COUNT : Fld := fld 0x4144 0 32 .sat 0
def GNT_P_SLICES_LOST.COUNT : Fld := fld 0x4148 0 32 .sat 0
def GNT_P_CAPPED_PTS.COUNT : Fld := fld 0x414C 0 32 .sat 0
def GNT_P_TIME_FALLBACK.COUNT : Fld := fld 0x4150 0 32 .sat 0
def GNT_P_LLDP_RX.COUNT : Fld := fld 0x4154 0 32 .wrap 0
def GNT_ELEV.WORD : Fld := fld 0x4600 0 32 .rwd 0
def GNT_DESC.WORD : Fld := fld 0x4C00 0 32 .rwd 0
def GNT_DESC7.MAX_KPPS : Fld := fld 0x4C1C 0 16 .rwd 0
def GNT_DESC7.VALID : Fld := fld 0x4C1C 31 1 .rwd 0

/-! Fields of JDE. -/

def JDE_CTRL.ARM : Fld := fld 0x5000 0 1 .rw 0
def JDE_CTRL.STALE_STOP : Fld := fld 0x5000 1 1 .rwd 0
def JDE_CTRL.STEP_EVT_EN : Fld := fld 0x5000 2 1 .rw 0
def JDE_CTRL.LOAD_LOCK : Fld := fld 0x5000 3 1 .rwl 0
def JDE_CTRL.LOCK : Fld := fld 0x5000 31 1 .w1s 0
def JDE_STATUS.STATE : Fld := fld 0x5004 0 3 .ro 0
def JDE_STATUS.OUT_A : Fld := fld 0x5004 3 1 .ro 0
def JDE_STATUS.OUT_B : Fld := fld 0x5004 4 1 .ro 0
def JDE_STATUS.FB_A : Fld := fld 0x5004 5 1 .ro 0
def JDE_STATUS.FB_B : Fld := fld 0x5004 6 1 .ro 0
def JDE_STATUS.VEL_STALE : Fld := fld 0x5004 7 1 .ro 1
def JDE_STATUS.SET : Fld := fld 0x5004 8 3 .ro 0
def JDE_STATUS.STEP : Fld := fld 0x5004 12 4 .ro 15
def JDE_STATUS.CFG_ERR : Fld := fld 0x5004 16 1 .w1c 0
def JDE_CAUSE.CAUSE : Fld := fld 0x5008 0 8 .ro 0
def JDE_CAUSE.PORT : Fld := fld 0x5008 8 4 .ro 0
def JDE_CAUSE.PRISM : Fld := fld 0x5008 16 5 .ro 0
def JDE_FAULT.FB_A : Fld := fld 0x500C 0 1 .w1c 0
def JDE_FAULT.FB_B : Fld := fld 0x500C 1 1 .w1c 0
def JDE_FAULT.STUCK_A : Fld := fld 0x500C 2 1 .w1c 0
def JDE_FAULT.STUCK_B : Fld := fld 0x500C 3 1 .w1c 0
def JDE_FAULT.LANE : Fld := fld 0x500C 4 1 .w1c 0
def JDE_FAULT.STORE_CRC : Fld := fld 0x500C 5 1 .w1c 0
def JDE_TEST.EN : Fld := fld 0x5010 0 1 .rws 1
def JDE_TEST.PERIOD_MS : Fld := fld 0x5010 4 12 .rws 20
def JDE_TEST.PULSE_US : Fld := fld 0x5010 16 9 .rws 200
def JDE_FB.EN_A : Fld := fld 0x5014 0 1 .rwd 0
def JDE_FB.EN_B : Fld := fld 0x5014 1 1 .rwd 0
def JDE_FB.POL_A : Fld := fld 0x5014 2 1 .rwd 0
def JDE_FB.POL_B : Fld := fld 0x5014 3 1 .rwd 0
def JDE_FB.TMAX_MS : Fld := fld 0x5014 8 8 .rwd 30
def JDE_RESTART.MANUAL : Fld := fld 0x5018 0 1 .rwd 1
def JDE_RESTART.SRC : Fld := fld 0x5018 1 1 .rwd 0
def JDE_RESTART.GO : Fld := fld 0x5018 2 1 .wo 0
def JDE_RESTART.CLEAR_MS : Fld := fld 0x5018 16 16 .rwd 2000
def JDE_VEL.ROT_RADIUS_MM : Fld := fld 0x501C 0 16 .rwd 0
def JDE_VEL.VEL_TMO_MS : Fld := fld 0x501C 16 8 .rwd 50
def JDE_SEL.HYST_MMS : Fld := fld 0x5020 0 16 .rw 50
def JDE_SEL.DOWN_MS : Fld := fld 0x5020 16 16 .rw 200
def JDE_REQ_PORTS.MASK : Fld := fld 0x5024 0 10 .rwd 0
def JDE_REQ_PORTS.PORT_TMO_MS : Fld := fld 0x5024 16 16 .rwd 100
def JDE_SPEED.SPEED_MMS : Fld := fld 0x5028 0 16 .ro 0
def JDE_SPEED.VEL_AGE_MS : Fld := fld 0x5028 16 16 .calc 0xFFFF
def JDE_CRC.CRC : Fld := fld 0x502C 0 32 .ro 0
def JDE_STOP_CNT.COUNT : Fld := fld 0x5030 0 32 .sat 0
def JDE_HIT_PTS.COUNT : Fld := fld 0x5034 0 32 .sat 0
def JDE_FRAMES.COUNT : Fld := fld 0x5038 0 32 .wrap 0
def JDE_VTAB.ENTRY : Fld := fld 0x5040 0 19 .calc 0
def JDE_SET_INFO.PRISMS : Fld := fld 0x5080 0 6 .calc 0
def JDE_SET_INFO.LOADED : Fld := fld 0x5080 8 1 .calc 0
def JDE_XFORM_LOADED.MASK : Fld := fld 0x50A0 0 10 .calc 0

/-! Fields of BRL. -/

def BRL_STATUS.CFG_ERR : Fld := fld 0x5400 0 1 .w1c 0
def BRL_STATUS.ENG_BUSY : Fld := fld 0x5400 8 8 .calc 0
def BRL_INSERTS.COUNT : Fld := fld 0x5408 0 64 .mono 0
def BRL_LOOKUPS.COUNT : Fld := fld 0x5410 0 64 .mono 0
def BRL_LOCK_WAIT_CNT.COUNT : Fld := fld 0x5418 0 32 .sat 0
def BRL_T_CTRL.EN : Fld := fld 0x5500 0 1 .rw 0
def BRL_T_CTRL.LOC : Fld := fld 0x5500 1 1 .rwd 0
def BRL_T_CTRL.LOG2_SLOTS : Fld := fld 0x5500 2 5 .rwd 16
def BRL_T_CTRL.PROBE_MAX : Fld := fld 0x5500 8 4 .rwd 8
def BRL_T_CTRL.LOST : Fld := fld 0x5500 12 1 .ro 0
def BRL_T_CTRL.FULL : Fld := fld 0x5500 13 1 .ro 0
def BRL_T_CTRL.ZEROING : Fld := fld 0x5500 14 1 .ro 0
def BRL_T_CTRL.EPOCH : Fld := fld 0x5500 16 16 .ro 1
def BRL_T_BASE_LO.ADDR : Fld := fld 0x5504 0 32 .rwd 0
def BRL_T_BASE_HI.ADDR : Fld := fld 0x5508 0 32 .rwd 0
def BRL_T_COUNT.COUNT : Fld := fld 0x550C 0 32 .ro 0
def BRL_T_EDGE_UM.EDGE : Fld := fld 0x5510 0 32 .rw 0
def BRL_T_DROPS.COUNT : Fld := fld 0x5514 0 32 .sat 0

/-! Fields of FCT. -/

def FCT_CTRL.DENSE_PCT : Fld := fld 0x5800 0 7 .rws 40
def FCT_STATUS.ACTIVE : Fld := fld 0x5804 0 7 .calc 0
def FCT_STATUS.WITHDRAWN : Fld := fld 0x5804 8 7 .calc 0
def FCT_STATUS.FAILED : Fld := fld 0x5804 16 7 .calc 0
def FCT_STATUS.CFG_ERR : Fld := fld 0x5804 24 1 .w1c 0
def FCT_WL_TILES.COUNT : Fld := fld 0x5808 0 32 .calc 0
def FCT_TILES_DENSE.COUNT : Fld := fld 0x5810 0 64 .mono 0
def FCT_TILES_SPARSE.COUNT : Fld := fld 0x5818 0 64 .mono 0
def FCT_RLZ_ERR.COUNT : Fld := fld 0x5820 0 32 .sat 0
def FCT_DISPLACED.COUNT : Fld := fld 0x5824 0 32 .sat 0
def FCT_BAD_WEIGHT_CNT.COUNT : Fld := fld 0x5828 0 32 .sat 0
def FCT_WEIGHT_LOADS.COUNT : Fld := fld 0x582C 0 32 .sat 0
def FCT_F.STATE : Fld := fld 0x5900 0 3 .calc 0
def FCT_F.PRIO : Fld := fld 0x5900 4 3 .calc 0
def FCT_F.PIN_VALID : Fld := fld 0x5900 8 1 .calc 0
def FCT_F.TILE_CYCLES : Fld := fld 0x5900 16 16 .ro 0

/-! Fields of SPN. -/

def SPN_CTRL.LANES_MAX : Fld := fld 0x5C00 0 5 .rw 16
def SPN_STATUS.CFG_ERR : Fld := fld 0x5C04 0 1 .w1c 0
def SPN_STATUS.LANES_BUSY : Fld := fld 0x5C04 16 16 .calc 0
def SPN_LOOKUPS.COUNT : Fld := fld 0x5C08 0 64 .mono 0
def SPN_ROWS_READ.COUNT : Fld := fld 0x5C10 0 64 .mono 0
def SPN_PF_STALE.COUNT : Fld := fld 0x5C18 0 32 .sat 0
def SPN_RECLASS_FULL.COUNT : Fld := fld 0x5C1C 0 32 .sat 0
def SPN_TD_SEL.TABLE : Fld := fld 0x5C20 0 8 .rw 0
def SPN_MOD_LOAD.COUNT : Fld := fld 0x5C40 0 32 .wrap 0
def TD_CTRL.EN : Fld := fld 0x5D00 0 1 .rw 0
def TD_CTRL.PLACEMENT : Fld := fld 0x5D00 1 2 .rwd 0
def TD_CTRL.OPTIM : Fld := fld 0x5D00 3 2 .rwd 0
def TD_CTRL.HOTSET_EN : Fld := fld 0x5D00 5 1 .rwd 0
def TD_CTRL.OWNER : Fld := fld 0x5D00 8 4 .rwd 0
def TD_CTRL.MODULES : Fld := fld 0x5D00 12 4 .rwd 0
def TD_CTRL.SHARD_LOG2 : Fld := fld 0x5D00 16 4 .rwd 0
def TD_CTRL.VERSIONS_VALID : Fld := fld 0x5D00 20 4 .rwd 0
def TD_CTRL.ACTIVE_VER : Fld := fld 0x5D00 24 2 .ro 0
def TD_CTRL.STEP_OPEN : Fld := fld 0x5D00 26 1 .ro 0
def TD_CTRL.BUSY : Fld := fld 0x5D00 27 1 .ro 0
def TD_CTRL.POP_SAT : Fld := fld 0x5D00 28 1 .w1c 0
def TD_ROWS_M1.ROWS_M1 : Fld := fld 0x5D04 0 32 .rwd 0
def TD_DIM.DIM : Fld := fld 0x5D08 0 11 .rwd 0
def TD_CAP.CAP : Fld := fld 0x5D0C 0 32 .rwd 0
def TD_STAGE_ROWS.ROWS : Fld := fld 0x5D1C 0 32 .rwd 0
def TD_SEG_BASE_LO.ADDR : Fld := fld 0x5D20 0 32 .rwd 0
def TD_SEG_BASE_HI.ADDR : Fld := fld 0x5D24 0 32 .rwd 0
def TD_HOST_BACK_LO.ADDR : Fld := fld 0x5D40 0 32 .rwd 0
def TD_HOST_BACK_HI.ADDR : Fld := fld 0x5D44 0 32 .rwd 0
def TD_STAGE_BASE_LO.ADDR : Fld := fld 0x5D60 0 32 .rwd 0
def TD_STAGE_BASE_HI.ADDR : Fld := fld 0x5D64 0 32 .rwd 0
def TD_HOT_BASE.OFFSET : Fld := fld 0x5D68 0 25 .rwd 0
def TD_HOT_SLOTS.SLOTS : Fld := fld 0x5D6C 0 24 .rwd 0
def TD_STEP.STEP : Fld := fld 0x5D70 0 32 .ro 0
def TD_COMMIT_GEN.GEN : Fld := fld 0x5D74 0 32 .wrap 0
def TD_INVALID_DROP.COUNT : Fld := fld 0x5D80 0 32 .sat 0
def TD_POISON_DROP.COUNT : Fld := fld 0x5D84 0 32 .sat 0
def TD_CLAMP.COUNT : Fld := fld 0x5D88 0 32 .sat 0
def TD_UNREADABLE.ROWS : Fld := fld 0x5D8C 0 32 .ro 0
def TD_STAGED.ROWS : Fld := fld 0x5D90 0 32 .ro 0
def TD_CONTRIB.COUNT : Fld := fld 0x5D94 0 24 .ro 0
def TD_CONTRIB.OVERFLOW : Fld := fld 0x5D94 31 1 .ro 0
def TD_PROPOSE.SHARD : Fld := fld 0x5D98 0 32 .ro 0
def TD_PROPOSE_MOD.SRC : Fld := fld 0x5D9C 0 2 .ro 0
def TD_PROPOSE_MOD.DEST : Fld := fld 0x5D9C 4 2 .ro 0
def TD_PROPOSE_MOD.VALID : Fld := fld 0x5D9C 8 1 .ro 0

/-! Fields of AGT. -/

def AGT_CTRL.EN : Fld := fld 0x6000 0 1 .rw 0
def AGT_STATUS.CFG_ERR : Fld := fld 0x6004 0 1 .w1c 0
def AGT_STATUS.BUSY : Fld := fld 0x6004 4 4 .calc 0
def AGT_POOL_BASE_LO.ADDR : Fld := fld 0x6008 0 32 .rwd 0
def AGT_POOL_BASE_HI.ADDR : Fld := fld 0x600C 0 32 .rwd 0
def AGT_POOL_SEGS.SEGS : Fld := fld 0x6010 0 24 .rwd 0
def AGT_POOL_FREE.FREE : Fld := fld 0x6014 0 24 .calc 0
def AGT_POOL_SEL.MODULE : Fld := fld 0x6018 0 2 .rw 0
def AGT_POOL_LOW.LOW : Fld := fld 0x601C 0 24 .rw 0
def AGT_HQ_SEL.HQ : Fld := fld 0x6020 0 11 .rw 0
def AGT_HQ_SEL.MODULE : Fld := fld 0x6020 12 2 .rw 0
def AGT_HQ_STATUS.DEPTH : Fld := fld 0x6024 0 24 .calc 0
def AGT_HQ_STATUS.OPEN : Fld := fld 0x6024 24 1 .calc 0
def AGT_HQ_STATUS.FULL : Fld := fld 0x6024 25 1 .calc 0
def AGT_HQ_INFO.EPOCH : Fld := fld 0x6028 0 16 .calc 0
def AGT_HQ_INFO.SEGS : Fld := fld 0x6028 16 16 .calc 0
def AGT_HQ_FLUSH.GO : Fld := fld 0x602C 0 1 .wo 0
def AGT_HQ_DISCARD.COUNT : Fld := fld 0x6030 0 32 .sat 0
def AGT_POOL_EMPTY_CNT.COUNT : Fld := fld 0x6034 0 32 .sat 0
def AGT_HQ_CAP.CAP : Fld := fld 0x6038 0 24 .calc 0
def AGT_LAYER_SEL.LAYER : Fld := fld 0x6040 0 4 .rw 0
def AGT_EXP_SEL.EXPERT : Fld := fld 0x6044 0 8 .rw 0
def AGT_EXP_ROUTED.COUNT : Fld := fld 0x6048 0 32 .sat 0
def AGT_EXP_ACCEPTED.COUNT : Fld := fld 0x604C 0 32 .sat 0
def AGT_EXP_DROPPED.COUNT : Fld := fld 0x6050 0 32 .sat 0
def AGT_EXP_TOTAL.ACCEPTED : Fld := fld 0x6058 0 64 .mono 0
def LY_CTRL.EN : Fld := fld 0x6100 0 1 .rw 0
def LY_CTRL.MODE : Fld := fld 0x6100 1 1 .rwd 0
def LY_CTRL.OWNER : Fld := fld 0x6100 4 4 .rwd 0
def LY_CTRL.NUM_EXPERTS : Fld := fld 0x6100 16 9 .rwd 1
def LY_HQ_BASE.BASE : Fld := fld 0x6104 0 11 .rwd 512
def LY_ITEM.ITEM_BYTES : Fld := fld 0x6108 0 12 .rwd 16
def LY_CAP.CAP : Fld := fld 0x610C 0 24 .rwd 1
def LY_STEP.STEP : Fld := fld 0x6110 0 32 .ro 0
def LY_BIAS_LO.ADDR : Fld := fld 0x6118 0 32 .rwd 0
def LY_BIAS_HI.ADDR : Fld := fld 0x611C 0 32 .rwd 0
def LY_MAP.MAP : Fld := fld 0x6140 0 32 .rwd 0

/-! Fields of ZRC. -/

def ZRC_CTRL.SCRUB_EN : Fld := fld 0x6400 0 1 .rw 1
def ZRC_CTRL.SCRUB_WAKE : Fld := fld 0x6400 1 1 .rw 1
def ZRC_CTRL.HOST_EP : Fld := fld 0x6400 2 1 .rw 1
def ZRC_CTRL.PASS_EVT_EN : Fld := fld 0x6400 3 1 .rw 0
def ZRC_CTRL.CE_WRITEBACK : Fld := fld 0x6400 4 1 .rw 1
def ZRC_STATUS.DEGRADED : Fld := fld 0x6404 0 8 .calc 0
def ZRC_STATUS.FAILED : Fld := fld 0x6404 8 8 .calc 0
def ZRC_STATUS.CFG_ERR : Fld := fld 0x6404 16 1 .w1c 0
def ZRC_SCRUB_PERIOD.HOURS : Fld := fld 0x6408 0 8 .rw 24
def ZRC_CE_THRESH.COUNT : Fld := fld 0x640C 0 32 .rw 1000
def ZRC_PLOG_SEL.ENTRY : Fld := fld 0x6410 0 6 .rw 0
def ZRC_PLOG_ADDR_LO.ADDR : Fld := fld 0x6414 0 32 .calc 0
def ZRC_PLOG_ADDR_HI.ADDR : Fld := fld 0x6418 0 32 .calc 0
def ZRC_PLOG_INFO.SOURCE : Fld := fld 0x641C 0 3 .calc 0
def ZRC_PLOG_INFO.CLASS : Fld := fld 0x641C 8 8 .calc 0
def ZRC_PLOG_INFO.ID : Fld := fld 0x641C 16 8 .calc 0
def ZRC_PLOG_INFO.VALID : Fld := fld 0x641C 31 1 .calc 0
def ZRC_PLOG_WR.COUNT : Fld := fld 0x6420 0 32 .wrap 0
def ZRC_SRAM_CE_CNT.COUNT : Fld := fld 0x6424 0 32 .sat 0
def ZRC_SRAM_UE_CNT.COUNT : Fld := fld 0x6428 0 32 .sat 0
def ZRC_C_CE_CNT.COUNT : Fld := fld 0x6500 0 32 .thresh 0
def ZRC_C_UE_CNT.COUNT : Fld := fld 0x6504 0 32 .sat 0
def ZRC_C_SCRUB_POS.LINES : Fld := fld 0x6508 0 32 .ro 0
def ZRC_C_PASSES.COUNT : Fld := fld 0x650C 0 32 .wrap 0
def ZRC_C_RETRAIN_FAIL.COUNT : Fld := fld 0x6510 0 32 .sat 0
def ZRC_C_STATE.STATE : Fld := fld 0x6514 0 2 .ro 0
def ZRC_C_STATE.RETRAIN_NS : Fld := fld 0x6514 4 12 .ro 0

/-! Fields of SPAN. -/

def SPAN_CTRL.EN : Fld := fld 0x6800 0 1 .rw 0
def SPAN_CTRL.ROLE : Fld := fld 0x6800 1 2 .rwd 0
def SPAN_CTRL.FORM : Fld := fld 0x6800 3 1 .wo 0
def SPAN_CTRL.REMOVE : Fld := fld 0x6800 4 1 .wo 0
def SPAN_CTRL.LEAVE : Fld := fld 0x6800 5 1 .wo 0
def SPAN_CTRL.TIME_FOLLOW : Fld := fld 0x6800 6 1 .rw 0
def SPAN_CTRL.PORT_EN : Fld := fld 0x6800 8 4 .rwd 0xF
def SPAN_CTRL.REMOVE_MOD : Fld := fld 0x6800 12 2 .rw 0
def SPAN_STATUS.STATE : Fld := fld 0x6804 0 3 .ro 0
def SPAN_STATUS.MODULE : Fld := fld 0x6804 4 2 .ro 0
def SPAN_STATUS.TIME_SUSPECT : Fld := fld 0x6804 6 1 .ro 0
def SPAN_STATUS.CFG_ERR : Fld := fld 0x6804 7 1 .w1c 0
def SPAN_STATUS.ACTIVE : Fld := fld 0x6804 8 4 .calc 0
def SPAN_STATUS.PORT_UP : Fld := fld 0x6804 12 4 .calc 0
def SPAN_EPOCH.EPOCH : Fld := fld 0x6808 0 32 .ro 0
def SPAN_TIME_TOL.NS : Fld := fld 0x680C 0 16 .rw 1000
def SPAN_DIGEST_LO.DIGEST : Fld := fld 0x6810 0 32 .rws 0
def SPAN_DIGEST_HI.DIGEST : Fld := fld 0x6814 0 32 .rws 0
def SPAN_ID.ID : Fld := fld 0x6818 0 32 .rwd 0
def SPAN_TMO.LOSS_US : Fld := fld 0x681C 0 16 .rw 500
def SPAN_TMO.RTMO_US : Fld := fld 0x681C 16 16 .rw 1000
def SPAN_HELLO_US.US : Fld := fld 0x6820 0 16 .rw 100
def SPAN_ROUTE.ROUTE : Fld := fld 0x6824 0 16 .ro 0
def SPAN_MEMBER_LO.SERIAL : Fld := fld 0x6848 0 32 .rwd 0
def SPAN_MEMBER_HI.SERIAL : Fld := fld 0x684C 0 32 .rwd 0
def SPAN_MEMBER_STATUS.STATE : Fld := fld 0x6860 0 3 .ro 0
def SPAN_MEMBER_STATUS.TIME_SUSPECT : Fld := fld 0x6860 3 1 .ro 0
def SPAN_MEMBER_STATUS.REASON : Fld := fld 0x6860 8 8 .ro 0
def SPAN_OFFSET.NS : Fld := fld 0x6870 0 32 .ro 0
def SPAN_P_STATUS.STATE : Fld := fld 0x6880 0 2 .ro 0
def SPAN_P_STATUS.LANES : Fld := fld 0x6880 2 3 .ro 0
def SPAN_P_STATUS.PEER : Fld := fld 0x6880 6 2 .ro 0
def SPAN_P_CRC_ERR.COUNT : Fld := fld 0x6884 0 32 .sat 0
def SPAN_P_RETRY.COUNT : Fld := fld 0x6888 0 32 .sat 0
def SPAN_P_RETRAIN.COUNT : Fld := fld 0x688C 0 32 .sat 0
def SPAN_P_FRAMES.COUNT : Fld := fld 0x6890 0 64 .mono 0

/-! Fields of QTZDOM. -/

def QTZ_DOM.STATE : Fld := fld 0x6C00 0 2 .calc 0
def QTZ_DOM.HW_FLOOR : Fld := fld 0x6C00 2 2 .calc 0
def QTZ_DOM.FLOOR : Fld := fld 0x6C00 4 2 .rw 0
def QTZ_DOM.PD_PHASE : Fld := fld 0x6C00 6 2 .calc 0
def QTZ_DOM.IDLE_HOLD : Fld := fld 0x6C00 8 8 .rw 5
def QTZ_DOM.RETAIN_HOLD : Fld := fld 0x6C00 16 8 .rw 8
def QTZ_DOM.PARKED : Fld := fld 0x6C00 24 3 .calc 0
def QTZ_DOM.WAKE_PEND : Fld := fld 0x6C00 27 1 .calc 0
def QTZ_DOM.CANCEL : Fld := fld 0x6C00 28 1 .w1c 0
def QTZ_DOM.FAILED : Fld := fld 0x6C00 29 1 .calc 0

/-! Fields of WIN. -/

def INST_CTRL.EN : Fld := fld 0x8000 0 1 .rw 0
def INST_CTRL.RESET : Fld := fld 0x8000 1 1 .wo 0
def INST_STATUS.RESET_BUSY : Fld := fld 0x8004 0 1 .ro 0
def INST_STATUS.QP_COUNT : Fld := fld 0x8004 8 5 .calc 0
def INST_DB_BASE_LO.ADDR : Fld := fld 0x8008 0 32 .rwd 0
def INST_DB_BASE_HI.ADDR : Fld := fld 0x800C 0 32 .rwd 0
def INST_SB_BASE_LO.ADDR : Fld := fld 0x8010 0 32 .rwd 0
def INST_SB_BASE_HI.ADDR : Fld := fld 0x8014 0 32 .rwd 0
def INST_EVT_BASE_LO.ADDR : Fld := fld 0x8018 0 32 .rwd 0
def INST_EVT_BASE_HI.ADDR : Fld := fld 0x801C 0 32 .rwd 0
def INST_EVT_SIZE.LOG2 : Fld := fld 0x8020 0 5 .rwd 6
def INST_EVT_HEAD.HEAD : Fld := fld 0x8024 0 32 .rw 0
def INST_EVT_LOST.COUNT : Fld := fld 0x8028 0 32 .sat 0
def INST_KICK.QP : Fld := fld 0x802C 0 6 .wo 0
def INST_RES_FENCE.VALUE : Fld := fld 0x8030 0 32 .calc 0
def INST_RES_TAG.VALUE : Fld := fld 0x8034 0 32 .calc 0
def HO_CTRL.EN : Fld := fld 0x8100 0 1 .rw 0
def HO_CTRL.VEC : Fld := fld 0x8100 8 7 .rw 0
def HO_SIZES.REQ_LOG2 : Fld := fld 0x8104 0 4 .rwd 4
def HO_SIZES.RPL_LOG2 : Fld := fld 0x8104 8 4 .rwd 4
def HO_SIZES.STAGE_LOG2 : Fld := fld 0x8104 16 4 .rwd 6
def HO_REQ_BASE_LO.ADDR : Fld := fld 0x8108 0 32 .rwd 0
def HO_REQ_BASE_HI.ADDR : Fld := fld 0x810C 0 32 .rwd 0
def HO_RPL_BASE_LO.ADDR : Fld := fld 0x8110 0 32 .rwd 0
def HO_RPL_BASE_HI.ADDR : Fld := fld 0x8114 0 32 .rwd 0
def HO_STAGE_BASE_LO.ADDR : Fld := fld 0x8118 0 32 .rwd 0
def HO_STAGE_BASE_HI.ADDR : Fld := fld 0x811C 0 32 .rwd 0
def HO_REQ_TAIL.TAIL : Fld := fld 0x8120 0 32 .ro 0
def HO_REQ_HEAD.HEAD : Fld := fld 0x8124 0 32 .rw 0
def HO_RPL_TAIL.TAIL : Fld := fld 0x8128 0 32 .rw 0
def HO_RPL_HEAD.HEAD : Fld := fld 0x812C 0 32 .ro 0
def HO_STATUS.PENDING : Fld := fld 0x8130 0 13 .calc 0
def HO_LATE_CNT.COUNT : Fld := fld 0x8134 0 32 .sat 0
def HO_BAD_CNT.COUNT : Fld := fld 0x8138 0 32 .sat 0
def HO_FULL_CNT.COUNT : Fld := fld 0x813C 0 32 .sat 0
def INST_MBX_SEL.CHAN : Fld := fld 0x817C 0 5 .rw 0
def INST_CQ_HEAD.HEAD : Fld := fld 0x8200 0 32 .rw 0

/-! ## The register tables, block by block -/

/-- The registers of GBL. -/
def regsGbl : List Reg := [
  ⟨0x0000, [], .plain, [GBL_ID.STEPPING, GBL_ID.PART, GBL_ID.FAMILY]⟩,
  ⟨0x0004, [], .plain, [GBL_FW_VERSION.PATCH, GBL_FW_VERSION.MINOR, GBL_FW_VERSION.MAJOR, GBL_FW_VERSION.SVN]⟩,
  ⟨0x0008, [], .plain, [GBL_BOOT_STATUS.STAGE, GBL_BOOT_STATUS.SLOT, GBL_BOOT_STATUS.RECOVERY, GBL_BOOT_STATUS.MEM_RETAINED, GBL_BOOT_STATUS.FAIL_CODE]⟩,
  ⟨0x000C, [], .plain, [GBL_RESET_CAUSE.CAUSE, GBL_RESET_CAUSE.WARM_COUNT]⟩,
  ⟨0x0010, [], .plain, [GBL_RESET.WARM, GBL_RESET.MODULE, GBL_RESET.KEY]⟩,
  ⟨0x0014, [], .plain, [GBL_RESET_CTRL.CLEAR_ON_MRESET, GBL_RESET_CTRL.WDOG_EN, GBL_RESET_CTRL.LOCK]⟩,
  ⟨0x0018, [], .plain, [GBL_WDOG.TIMEOUT_MS]⟩,
  ⟨0x0020, [], .plain, [GBL_ERR_SUMMARY.CFG_ERR]⟩,
  ⟨0x0024, [], .plain, [GBL_SERIAL_LO.SERIAL]⟩,
  ⟨0x0028, [], .plain, [GBL_SERIAL_HI.SERIAL]⟩,
  ⟨0x0080, [], .plain, [GBL_SUPPLY.VIN_MV, GBL_SUPPLY.STOPVS_DV, GBL_SUPPLY.STOPVS_OK]⟩,
  ⟨0x0084, [], .plain, [GBL_THERMAL.DIE_C, GBL_THERMAL.STEP, GBL_THERMAL.TRIPPED]⟩,
  ⟨0x0088, [], .plain, [GBL_PWR_EVENTS.STOP_OC, GBL_PWR_EVENTS.STOPVS_LOW, GBL_PWR_EVENTS.THERM, GBL_PWR_EVENTS.PODL]⟩,
  ⟨0x008C, [], .plain, [GBL_INPUT.IIN_MA, GBL_INPUT.PIN_DW]⟩]

/-- The registers of QTZ. -/
def regsQtz : List Reg := [
  ⟨0x0400, [], .plain, [QTZ_STATUS.DEPTH, QTZ_STATUS.QCLK_COMP, QTZ_STATUS.FAILED_ANY]⟩,
  ⟨0x0408, [], .latch, [QTZ_DTIME_LO.DTIME]⟩,
  ⟨0x040C, [], .high, [QTZ_DTIME_HI.DTIME]⟩,
  ⟨0x0410, [], .plain, [QTZ_DTIME_RATE.RATE]⟩,
  ⟨0x0418, [], .plain, [QTZ_DTIME_STEP_LO.STEP]⟩,
  ⟨0x041C, [], .plain, [QTZ_DTIME_STEP_HI.STEP]⟩,
  ⟨0x0420, [], .plain, [QTZ_FAILED_LO.FAILED]⟩,
  ⟨0x0424, [], .plain, [QTZ_FAILED_HI.FAILED]⟩]

/-- The registers of TPZ. -/
def regsTpz : List Reg := [
  ⟨0x0800, [], .plain, [TPZ_CTRL.SRC, TPZ_CTRL.RISE_PERIODS, TPZ_CTRL.EVT_CHANGED_EN]⟩,
  ⟨0x0804, [], .plain, [TPZ_FALLBACK.BU, TPZ_FALLBACK.MODE]⟩,
  ⟨0x0808, [], .plain, [TPZ_CAP.CAP]⟩,
  ⟨0x080C, [], .plain, [TPZ_LOS_US.LOS_US]⟩,
  ⟨0x0810, [], .plain, [TPZ_LIMITS.FCLK_MIN, TPZ_LIMITS.FCLK_MAX, TPZ_LIMITS.FACET_MIN]⟩,
  ⟨0x0814, [], .plain, [TPZ_STATUS.EFFECTIVE, TPZ_STATUS.SIGNALLED, TPZ_STATUS.LOS, TPZ_STATUS.BELOW_FLOOR, TPZ_STATUS.OVER, TPZ_STATUS.FCLK_CODE]⟩,
  ⟨0x0818, [], .plain, [TPZ_FLOOR.FLOOR]⟩,
  ⟨0x081C, [], .plain, [TPZ_CHARGED.CHARGED]⟩,
  ⟨0x0820, [], .plain, [TPZ_DUTY.DUTY, TPZ_DUTY.PERIOD]⟩,
  ⟨0x0824, [], .plain, [TPZ_FACETS.ACTIVE, TPZ_FACETS.HELD]⟩,
  ⟨0x0828, [], .plain, [TPZ_DEFER_CNT.COUNT]⟩,
  ⟨0x082C, [], .plain, [TPZ_INVALID_CNT.COUNT]⟩]

/-- The registers of LPS. -/
def regsLps : List Reg := [
  ⟨0x0C00, [], .plain, [LPS_STATUS.DBG_LEVEL, LPS_STATUS.DBG_LOCKED, LPS_STATUS.SLOT_A_OK, LPS_STATUS.SLOT_B_OK, LPS_STATUS.FUSED_SVN]⟩,
  ⟨0x0C04, [], .plain, [LPS_CTRL.DBG_DISABLE, LPS_CTRL.SVN_COMMIT, LPS_CTRL.LOCK]⟩,
  ⟨0x0C08, [], .plain, [LPS_DBG_REQ.LEVEL, LPS_DBG_REQ.NONCE, LPS_DBG_REQ.GO, LPS_DBG_REQ.END]⟩,
  ⟨0x0C10, [], .plain, [LPS_DBG_STATE.STATE, LPS_DBG_STATE.FAILS]⟩,
  ⟨0x0C20, [(4, 8)], .plain, [LPS_DBG_NONCE.NONCE]⟩,
  ⟨0x0C40, [(4, 24)], .plain, [LPS_DBG_SIG.SIG]⟩]

/-- The registers of PDT. -/
def regsPdt : List Reg := [
  ⟨0x1000, [], .plain, [PDT_IDLE_POLL.POLL_US]⟩,
  ⟨0x1004, [], .plain, [PDT_ACTIVE_HOLD.US]⟩,
  ⟨0x1008, [], .plain, [PDT_IDLE_HOLD.MS]⟩,
  ⟨0x100C, [], .plain, [PDT_STATUS.TAGS_USED, PDT_STATUS.DEPTH, PDT_STATUS.CFG_ERR]⟩,
  ⟨0x1010, [], .wide, [PDT_FETCH_CNT.COUNT]⟩,
  ⟨0x1018, [], .plain, [PDT_TAG_STALL_CNT.COUNT]⟩,
  ⟨0x101C, [], .plain, [PDT_CQE_DROP_CNT.COUNT]⟩,
  ⟨0x1100, [(8, 16)], .plain, [PDT_INST0.FENCE_BASE, PDT_INST0.FENCE_COUNT]⟩,
  ⟨0x1104, [(8, 16)], .plain, [PDT_INST1.TAG_RESERVE]⟩]

/-- The registers of OPL. -/
def regsOpl : List Reg := [
  ⟨0x1400, [], .plain, [OPL_CTRL.DL_EN, OPL_CTRL.STALE_EVT_EN]⟩,
  ⟨0x1404, [], .plain, [OPL_DL_AGE.AGE_US]⟩,
  ⟨0x1408, [], .plain, [OPL_STATUS.WALK_BUSY, OPL_STATUS.CFG_ERR]⟩,
  ⟨0x140C, [], .plain, [OPL_DL_CNT.COUNT]⟩,
  ⟨0x1410, [], .plain, [OPL_DL_LIMIT_CNT.COUNT]⟩,
  ⟨0x1414, [], .plain, [OPL_REGRESS_CNT.COUNT]⟩,
  ⟨0x1418, [], .plain, [OPL_WAITERS.COUNT]⟩,
  ⟨0x1420, [], .plain, [OPL_FENCE_SEL.INDEX]⟩,
  ⟨0x1424, [], .plain, [OPL_FENCE_CTRL.ERROR, OPL_FENCE_CTRL.SIGNAL, OPL_FENCE_CTRL.SET_ERR, OPL_FENCE_CTRL.CLEAR_ERR, OPL_FENCE_CTRL.WAITERS]⟩,
  ⟨0x1428, [], .latch, [OPL_FENCE_VAL_LO.VALUE]⟩,
  ⟨0x142C, [], .high, [OPL_FENCE_VAL_HI.VALUE]⟩,
  ⟨0x1430, [], .plain, [OPL_FENCE_ARG_LO.ARG]⟩,
  ⟨0x1434, [], .plain, [OPL_FENCE_ARG_HI.ARG]⟩]

/-- The registers of MODE. -/
def regsMode : List Reg := [
  ⟨0x1800, [], .plain, [ MODE_HOST_TMO.TMO_US]⟩,
  ⟨0x1804, [], .plain, [ MODE_STATUS.ASSISTED, MODE_STATUS.CFG_ERR]⟩,
  ⟨0x1810, [(4, 13)], .plain, [ MODE_F.MODE, MODE_F.HANDLER, MODE_F.MODE_IN_FORCE, MODE_F.HANDLER_IN_FORCE, MODE_F.STAGED]⟩,
  ⟨0x1850, [(4, 13)], .plain, [ MODE_TMO_CNT.COUNT]⟩]

/-- The registers of AMB. -/
def regsAmb : List Reg := [
  ⟨0x1C00, [], .plain, [AMB_CTRL.SAT_EVT_EN, AMB_CTRL.WAIT_MAX_CLR]⟩,
  ⟨0x1C04, [], .plain, [AMB_STATUS.CFG_ERR, AMB_STATUS.SNAP_BUSY]⟩,
  ⟨0x1C08, [], .plain, [AMB_SNAP.GO]⟩,
  ⟨0x1C10, [], .plain, [AMB_SNAP_BASE_LO.ADDR]⟩,
  ⟨0x1C14, [], .plain, [AMB_SNAP_BASE_HI.ADDR]⟩,
  ⟨0x1C18, [], .plain, [AMB_SNAP_SEQ.SEQ]⟩,
  ⟨0x1C20, [], .plain, [AMB_TEL_CTRL.EN, AMB_TEL_CTRL.INST, AMB_TEL_CTRL.LOG2]⟩,
  ⟨0x1C24, [], .plain, [AMB_TEL_PERIOD.P10US]⟩,
  ⟨0x1C28, [], .plain, [AMB_TEL_BASE_LO.ADDR]⟩,
  ⟨0x1C2C, [], .plain, [AMB_TEL_BASE_HI.ADDR]⟩,
  ⟨0x1C30, [], .plain, [AMB_TEL_TAIL.TAIL]⟩,
  ⟨0x1C34, [], .plain, [AMB_TEL_HEAD.HEAD]⟩,
  ⟨0x1C38, [], .plain, [AMB_TEL_LOST.COUNT]⟩,
  ⟨0x1C40, [(8, 8)], .wide, [AMB_WAIT_NS.NS]⟩,
  ⟨0x1C80, [(4, 8)], .plain, [AMB_WAIT_MAX.NS]⟩,
  ⟨0x1CA0, [], .plain, [AMB_SAT_SEL.BLOCK, AMB_SAT_SEL.INST]⟩,
  ⟨0x1CA4, [], .plain, [AMB_SAT_ANY.BLOCKS]⟩,
  ⟨0x1CC0, [(4, 32)], .plain, [AMB_SAT_MAP.SAT]⟩,
  ⟨0x1D40, [], .plain, [AMB_ST_CTRL.AUTO_EN, AMB_ST_CTRL.AUTO_PERIOD_S]⟩,
  ⟨0x1D44, [], .plain, [AMB_ST_RUNS.COUNT]⟩,
  ⟨0x1D48, [], .plain, [AMB_ST_FAILS.COUNT]⟩,
  ⟨0x1E00, [(4, 64)], .plain, [AMB_TEL_LIST.ENTRY]⟩]

/-- The registers of QP. -/
def regsQp : List Reg := [
  ⟨0x2000, [(64, 64)], .plain, [QP_CTRL.EN, QP_CTRL.INSTANCE, QP_CTRL.PRIO]⟩,
  ⟨0x2004, [(64, 64)], .plain, [QP_STATUS.STATE, QP_STATUS.FLUSH_BUSY, QP_STATUS.CFG_ERR, QP_STATUS.EPOCH]⟩,
  ⟨0x2008, [(64, 64)], .plain, [QP_SQ_BASE_LO.ADDR]⟩,
  ⟨0x200C, [(64, 64)], .plain, [QP_SQ_BASE_HI.ADDR]⟩,
  ⟨0x2010, [(64, 64)], .plain, [QP_CQ_BASE_LO.ADDR]⟩,
  ⟨0x2014, [(64, 64)], .plain, [QP_CQ_BASE_HI.ADDR]⟩,
  ⟨0x2018, [(64, 64)], .plain, [QP_SIZES.SQ_LOG2, QP_SIZES.CQ_LOG2]⟩,
  ⟨0x201C, [(64, 64)], .plain, [QP_TAG_QUOTA.QUOTA]⟩,
  ⟨0x2020, [(64, 64)], .plain, [QP_COAL.COUNT, QP_COAL.TIME_US]⟩,
  ⟨0x2024, [(64, 64)], .plain, [QP_FLUSH.GO, QP_FLUSH.FENCE_ERR]⟩,
  ⟨0x2028, [(64, 64)], .plain, [QP_SQ_HEAD.HEAD]⟩,
  ⟨0x202C, [(64, 64)], .plain, [QP_CQ_TAIL.TAIL]⟩,
  ⟨0x2030, [(64, 64)], .plain, [QP_INFLIGHT.TAGS]⟩,
  ⟨0x2034, [(64, 64)], .plain, [QP_VEC.VEC]⟩]

/-- The registers of JSP. -/
def regsJsp : List Reg := [
  ⟨0x3000, [(128, 32), (4, 16)], .plain, [JSP_D.DATA]⟩,
  ⟨0x3040, [(128, 32)], .plain, [JSP_CTRL.GO, JSP_CTRL.FULL, JSP_CTRL.ABORTED, JSP_CTRL.MODE, JSP_CTRL.RELEASE, JSP_CTRL.CLAIMED, JSP_CTRL.SRC]⟩,
  ⟨0x3044, [(128, 32)], .plain, [JSP_BIND.MASTER_A, JSP_BIND.MASTER_B, JSP_BIND.LOCK]⟩,
  ⟨0x3048, [(128, 32)], .plain, [JSP_STATUS.CFG_ERR]⟩,
  ⟨0x304C, [(128, 32)], .plain, [JSP_MSG_CNT.COUNT]⟩,
  ⟨0x3050, [(128, 32)], .plain, [JSP_DROP_CNT.COUNT]⟩]

/-- The registers of GNT. -/
def regsGnt : List Reg := [
  ⟨0x4000, [], .plain, [GNT_CTRL.LLDP_TX_EN, GNT_CTRL.LLDP_TX_S]⟩,
  ⟨0x4004, [], .plain, [GNT_DISC_TMO.MS]⟩,
  ⟨0x4008, [], .plain, [GNT_STATUS.CFG_ERR, GNT_STATUS.KPPS_BOUND]⟩,
  ⟨0x4010, [], .plain, [GNT_GPTP_CTRL.EN, GNT_GPTP_CTRL.PORT, GNT_GPTP_CTRL.ALT_PORT, GNT_GPTP_CTRL.SRC, GNT_GPTP_CTRL.STEP_THRESH_US]⟩,
  ⟨0x4014, [], .plain, [GNT_GPTP_STATUS.STATE, GNT_GPTP_STATUS.PORT]⟩,
  ⟨0x4018, [], .plain, [GNT_GPTP_OFFSET.NS]⟩,
  ⟨0x401C, [], .plain, [GNT_GPTP_PDELAY.NS]⟩,
  ⟨0x4020, [], .plain, [GNT_GPTP_GM_LO.ID]⟩,
  ⟨0x4024, [], .plain, [GNT_GPTP_GM_HI.ID]⟩,
  ⟨0x4028, [], .plain, [GNT_GPTP_STEPS.COUNT]⟩,
  ⟨0x4030, [], .plain, [GNT_POSE_CTRL.EN, GNT_POSE_CTRL.PORT, GNT_POSE_CTRL.UDP_PORT]⟩,
  ⟨0x4034, [], .plain, [GNT_POSE_SIZE.LOG2]⟩,
  ⟨0x4038, [], .plain, [GNT_POSE_BASE_LO.ADDR]⟩,
  ⟨0x403C, [], .plain, [GNT_POSE_BASE_HI.ADDR]⟩,
  ⟨0x4040, [], .wide, [GNT_POSE_WR.COUNT]⟩,
  ⟨0x4048, [], .plain, [GNT_POSE_DROP.COUNT]⟩,
  ⟨0x4100, [(128, 10)], .plain, [GNT_P_CTRL.CABLE_DETECT, GNT_P_CTRL.ROLE, GNT_P_CTRL.RATE, GNT_P_CTRL.PODL_EN, GNT_P_CTRL.CABLE_TEST, GNT_P_CTRL.MAC_FILTER, GNT_P_CTRL.OWNER, GNT_P_CTRL.DEFAULT_DESC]⟩,
  ⟨0x4104, [(128, 10)], .plain, [GNT_P_STATUS.STATE, GNT_P_STATUS.LINK, GNT_P_STATUS.PODL_ON, GNT_P_STATUS.PODL_FAULT, GNT_P_STATUS.CFG_ERR, GNT_P_STATUS.PIPELINE, GNT_P_STATUS.DESC, GNT_P_STATUS.PODL_CLASS]⟩,
  ⟨0x4108, [(128, 10)], .plain, [GNT_P_PODL_LIMIT.MW]⟩,
  ⟨0x410C, [(128, 10)], .plain, [GNT_P_PODL_MW.MW]⟩,
  ⟨0x4110, [(128, 10)], .plain, [GNT_P_CABLE.RESULT, GNT_P_CABLE.DIST, GNT_P_CABLE.BUSY]⟩,
  ⟨0x4114, [(128, 10)], .plain, [GNT_P_MAC_LO.MAC]⟩,
  ⟨0x4118, [(128, 10)], .plain, [GNT_P_MAC_HI.MAC]⟩,
  ⟨0x4120, [(128, 10)], .wide, [GNT_P_SEQ.SEQ]⟩,
  ⟨0x4128, [(128, 10)], .wideRo, [GNT_P_HEAD.HEAD]⟩,
  ⟨0x4130, [(128, 10)], .plain, [GNT_P_FRAMES_OK.COUNT]⟩,
  ⟨0x4134, [(128, 10)], .plain, [GNT_P_FCS_ERR.COUNT]⟩,
  ⟨0x4138, [(128, 10)], .plain, [GNT_P_NONPOINT.COUNT]⟩,
  ⟨0x413C, [(128, 10)], .plain, [GNT_P_FRAG_DROP.COUNT]⟩,
  ⟨0x4140, [(128, 10)], .plain, [GNT_P_OVERSIZE.COUNT]⟩,
  ⟨0x4144, [(128, 10)], .plain, [GNT_P_MALFORMED.COUNT]⟩,
  ⟨0x4148, [(128, 10)], .plain, [GNT_P_SLICES_LOST.COUNT]⟩,
  ⟨0x414C, [(128, 10)], .plain, [GNT_P_CAPPED_PTS.COUNT]⟩,
  ⟨0x4150, [(128, 10)], .plain, [GNT_P_TIME_FALLBACK.COUNT]⟩,
  ⟨0x4154, [(128, 10)], .plain, [GNT_P_LLDP_RX.COUNT]⟩,
  ⟨0x4600, [(128, 4), (4, 32)], .plain, [GNT_ELEV.WORD]⟩,
  ⟨0x4C00, [(32, 32), (4, 7)], .plain, [GNT_DESC.WORD]⟩,
  ⟨0x4C1C, [(32, 32)], .plain, [GNT_DESC7.MAX_KPPS, GNT_DESC7.VALID]⟩]

/-- The registers of JDE. -/
def regsJde : List Reg := [
  ⟨0x5000, [], .plain, [JDE_CTRL.ARM, JDE_CTRL.STALE_STOP, JDE_CTRL.STEP_EVT_EN, JDE_CTRL.LOAD_LOCK, JDE_CTRL.LOCK]⟩,
  ⟨0x5004, [], .plain, [JDE_STATUS.STATE, JDE_STATUS.OUT_A, JDE_STATUS.OUT_B, JDE_STATUS.FB_A, JDE_STATUS.FB_B, JDE_STATUS.VEL_STALE, JDE_STATUS.SET, JDE_STATUS.STEP, JDE_STATUS.CFG_ERR]⟩,
  ⟨0x5008, [], .plain, [JDE_CAUSE.CAUSE, JDE_CAUSE.PORT, JDE_CAUSE.PRISM]⟩,
  ⟨0x500C, [], .plain, [JDE_FAULT.FB_A, JDE_FAULT.FB_B, JDE_FAULT.STUCK_A, JDE_FAULT.STUCK_B, JDE_FAULT.LANE, JDE_FAULT.STORE_CRC]⟩,
  ⟨0x5010, [], .plain, [JDE_TEST.EN, JDE_TEST.PERIOD_MS, JDE_TEST.PULSE_US]⟩,
  ⟨0x5014, [], .plain, [JDE_FB.EN_A, JDE_FB.EN_B, JDE_FB.POL_A, JDE_FB.POL_B, JDE_FB.TMAX_MS]⟩,
  ⟨0x5018, [], .plain, [JDE_RESTART.MANUAL, JDE_RESTART.SRC, JDE_RESTART.GO, JDE_RESTART.CLEAR_MS]⟩,
  ⟨0x501C, [], .plain, [JDE_VEL.ROT_RADIUS_MM, JDE_VEL.VEL_TMO_MS]⟩,
  ⟨0x5020, [], .plain, [JDE_SEL.HYST_MMS, JDE_SEL.DOWN_MS]⟩,
  ⟨0x5024, [], .plain, [JDE_REQ_PORTS.MASK, JDE_REQ_PORTS.PORT_TMO_MS]⟩,
  ⟨0x5028, [], .plain, [JDE_SPEED.SPEED_MMS, JDE_SPEED.VEL_AGE_MS]⟩,
  ⟨0x502C, [], .plain, [JDE_CRC.CRC]⟩,
  ⟨0x5030, [], .plain, [JDE_STOP_CNT.COUNT]⟩,
  ⟨0x5034, [], .plain, [JDE_HIT_PTS.COUNT]⟩,
  ⟨0x5038, [], .plain, [JDE_FRAMES.COUNT]⟩,
  ⟨0x5040, [(4, 16)], .plain, [JDE_VTAB.ENTRY]⟩,
  ⟨0x5080, [(4, 8)], .plain, [JDE_SET_INFO.PRISMS, JDE_SET_INFO.LOADED]⟩,
  ⟨0x50A0, [], .plain, [JDE_XFORM_LOADED.MASK]⟩]

/-- The registers of BRL. -/
def regsBrl : List Reg := [
  ⟨0x5400, [], .plain, [BRL_STATUS.CFG_ERR, BRL_STATUS.ENG_BUSY]⟩,
  ⟨0x5408, [], .wide, [BRL_INSERTS.COUNT]⟩,
  ⟨0x5410, [], .wide, [BRL_LOOKUPS.COUNT]⟩,
  ⟨0x5418, [], .plain, [BRL_LOCK_WAIT_CNT.COUNT]⟩,
  ⟨0x5500, [(24, 32)], .plain, [BRL_T_CTRL.EN, BRL_T_CTRL.LOC, BRL_T_CTRL.LOG2_SLOTS, BRL_T_CTRL.PROBE_MAX, BRL_T_CTRL.LOST, BRL_T_CTRL.FULL, BRL_T_CTRL.ZEROING, BRL_T_CTRL.EPOCH]⟩,
  ⟨0x5504, [(24, 32)], .plain, [BRL_T_BASE_LO.ADDR]⟩,
  ⟨0x5508, [(24, 32)], .plain, [BRL_T_BASE_HI.ADDR]⟩,
  ⟨0x550C, [(24, 32)], .plain, [BRL_T_COUNT.COUNT]⟩,
  ⟨0x5510, [(24, 32)], .plain, [BRL_T_EDGE_UM.EDGE]⟩,
  ⟨0x5514, [(24, 32)], .plain, [BRL_T_DROPS.COUNT]⟩]

/-- The registers of FCT. -/
def regsFct : List Reg := [
  ⟨0x5800, [], .plain, [FCT_CTRL.DENSE_PCT]⟩,
  ⟨0x5804, [], .plain, [FCT_STATUS.ACTIVE, FCT_STATUS.WITHDRAWN, FCT_STATUS.FAILED, FCT_STATUS.CFG_ERR]⟩,
  ⟨0x5808, [], .plain, [FCT_WL_TILES.COUNT]⟩,
  ⟨0x5810, [], .wide, [FCT_TILES_DENSE.COUNT]⟩,
  ⟨0x5818, [], .wide, [FCT_TILES_SPARSE.COUNT]⟩,
  ⟨0x5820, [], .plain, [FCT_RLZ_ERR.COUNT]⟩,
  ⟨0x5824, [], .plain, [FCT_DISPLACED.COUNT]⟩,
  ⟨0x5828, [], .plain, [FCT_BAD_WEIGHT_CNT.COUNT]⟩,
  ⟨0x582C, [], .plain, [FCT_WEIGHT_LOADS.COUNT]⟩,
  ⟨0x5900, [(4, 64)], .plain, [FCT_F.STATE, FCT_F.PRIO, FCT_F.PIN_VALID, FCT_F.TILE_CYCLES]⟩]

/-- The registers of SPN. -/
def regsSpn : List Reg := [
  ⟨0x5C00, [], .plain, [SPN_CTRL.LANES_MAX]⟩,
  ⟨0x5C04, [], .plain, [SPN_STATUS.CFG_ERR, SPN_STATUS.LANES_BUSY]⟩,
  ⟨0x5C08, [], .wide, [SPN_LOOKUPS.COUNT]⟩,
  ⟨0x5C10, [], .wide, [SPN_ROWS_READ.COUNT]⟩,
  ⟨0x5C18, [], .plain, [SPN_PF_STALE.COUNT]⟩,
  ⟨0x5C1C, [], .plain, [SPN_RECLASS_FULL.COUNT]⟩,
  ⟨0x5C20, [], .plain, [SPN_TD_SEL.TABLE]⟩,
  ⟨0x5C40, [(4, 4)], .plain, [SPN_MOD_LOAD.COUNT]⟩,
  ⟨0x5D00, [], .plain, [TD_CTRL.EN, TD_CTRL.PLACEMENT, TD_CTRL.OPTIM, TD_CTRL.HOTSET_EN, TD_CTRL.OWNER, TD_CTRL.MODULES, TD_CTRL.SHARD_LOG2, TD_CTRL.VERSIONS_VALID, TD_CTRL.ACTIVE_VER, TD_CTRL.STEP_OPEN, TD_CTRL.BUSY, TD_CTRL.POP_SAT]⟩,
  ⟨0x5D04, [], .plain, [TD_ROWS_M1.ROWS_M1]⟩,
  ⟨0x5D08, [], .plain, [TD_DIM.DIM]⟩,
  ⟨0x5D0C, [(4, 4)], .plain, [TD_CAP.CAP]⟩,
  ⟨0x5D1C, [], .plain, [TD_STAGE_ROWS.ROWS]⟩,
  ⟨0x5D20, [(8, 4)], .plain, [TD_SEG_BASE_LO.ADDR]⟩,
  ⟨0x5D24, [(8, 4)], .plain, [TD_SEG_BASE_HI.ADDR]⟩,
  ⟨0x5D40, [(8, 4)], .plain, [TD_HOST_BACK_LO.ADDR]⟩,
  ⟨0x5D44, [(8, 4)], .plain, [TD_HOST_BACK_HI.ADDR]⟩,
  ⟨0x5D60, [], .plain, [TD_STAGE_BASE_LO.ADDR]⟩,
  ⟨0x5D64, [], .plain, [TD_STAGE_BASE_HI.ADDR]⟩,
  ⟨0x5D68, [], .plain, [TD_HOT_BASE.OFFSET]⟩,
  ⟨0x5D6C, [], .plain, [TD_HOT_SLOTS.SLOTS]⟩,
  ⟨0x5D70, [], .plain, [TD_STEP.STEP]⟩,
  ⟨0x5D74, [], .plain, [TD_COMMIT_GEN.GEN]⟩,
  ⟨0x5D80, [], .plain, [TD_INVALID_DROP.COUNT]⟩,
  ⟨0x5D84, [], .plain, [TD_POISON_DROP.COUNT]⟩,
  ⟨0x5D88, [], .plain, [TD_CLAMP.COUNT]⟩,
  ⟨0x5D8C, [], .plain, [TD_UNREADABLE.ROWS]⟩,
  ⟨0x5D90, [], .plain, [TD_STAGED.ROWS]⟩,
  ⟨0x5D94, [], .plain, [TD_CONTRIB.COUNT, TD_CONTRIB.OVERFLOW]⟩,
  ⟨0x5D98, [], .plain, [TD_PROPOSE.SHARD]⟩,
  ⟨0x5D9C, [], .plain, [TD_PROPOSE_MOD.SRC, TD_PROPOSE_MOD.DEST, TD_PROPOSE_MOD.VALID]⟩]

/-- The registers of AGT. -/
def regsAgt : List Reg := [
  ⟨0x6000, [], .plain, [AGT_CTRL.EN]⟩,
  ⟨0x6004, [], .plain, [AGT_STATUS.CFG_ERR, AGT_STATUS.BUSY]⟩,
  ⟨0x6008, [], .plain, [AGT_POOL_BASE_LO.ADDR]⟩,
  ⟨0x600C, [], .plain, [AGT_POOL_BASE_HI.ADDR]⟩,
  ⟨0x6010, [], .plain, [AGT_POOL_SEGS.SEGS]⟩,
  ⟨0x6014, [], .plain, [AGT_POOL_FREE.FREE]⟩,
  ⟨0x6018, [], .plain, [AGT_POOL_SEL.MODULE]⟩,
  ⟨0x601C, [], .plain, [AGT_POOL_LOW.LOW]⟩,
  ⟨0x6020, [], .plain, [AGT_HQ_SEL.HQ, AGT_HQ_SEL.MODULE]⟩,
  ⟨0x6024, [], .plain, [AGT_HQ_STATUS.DEPTH, AGT_HQ_STATUS.OPEN, AGT_HQ_STATUS.FULL]⟩,
  ⟨0x6028, [], .plain, [AGT_HQ_INFO.EPOCH, AGT_HQ_INFO.SEGS]⟩,
  ⟨0x602C, [], .plain, [AGT_HQ_FLUSH.GO]⟩,
  ⟨0x6030, [], .plain, [AGT_HQ_DISCARD.COUNT]⟩,
  ⟨0x6034, [], .plain, [AGT_POOL_EMPTY_CNT.COUNT]⟩,
  ⟨0x6038, [], .plain, [AGT_HQ_CAP.CAP]⟩,
  ⟨0x6040, [], .plain, [AGT_LAYER_SEL.LAYER]⟩,
  ⟨0x6044, [], .plain, [AGT_EXP_SEL.EXPERT]⟩,
  ⟨0x6048, [], .plain, [AGT_EXP_ROUTED.COUNT]⟩,
  ⟨0x604C, [], .plain, [AGT_EXP_ACCEPTED.COUNT]⟩,
  ⟨0x6050, [], .plain, [AGT_EXP_DROPPED.COUNT]⟩,
  ⟨0x6058, [], .wide, [AGT_EXP_TOTAL.ACCEPTED]⟩,
  ⟨0x6100, [], .plain, [LY_CTRL.EN, LY_CTRL.MODE, LY_CTRL.OWNER, LY_CTRL.NUM_EXPERTS]⟩,
  ⟨0x6104, [], .plain, [LY_HQ_BASE.BASE]⟩,
  ⟨0x6108, [], .plain, [LY_ITEM.ITEM_BYTES]⟩,
  ⟨0x610C, [], .plain, [LY_CAP.CAP]⟩,
  ⟨0x6110, [], .plain, [LY_STEP.STEP]⟩,
  ⟨0x6118, [], .plain, [LY_BIAS_LO.ADDR]⟩,
  ⟨0x611C, [], .plain, [LY_BIAS_HI.ADDR]⟩,
  ⟨0x6140, [(4, 16)], .plain, [LY_MAP.MAP]⟩]

/-- The registers of ZRC. -/
def regsZrc : List Reg := [
  ⟨0x6400, [], .plain, [ZRC_CTRL.SCRUB_EN, ZRC_CTRL.SCRUB_WAKE, ZRC_CTRL.HOST_EP, ZRC_CTRL.PASS_EVT_EN, ZRC_CTRL.CE_WRITEBACK]⟩,
  ⟨0x6404, [], .plain, [ZRC_STATUS.DEGRADED, ZRC_STATUS.FAILED, ZRC_STATUS.CFG_ERR]⟩,
  ⟨0x6408, [], .plain, [ZRC_SCRUB_PERIOD.HOURS]⟩,
  ⟨0x640C, [], .plain, [ZRC_CE_THRESH.COUNT]⟩,
  ⟨0x6410, [], .plain, [ZRC_PLOG_SEL.ENTRY]⟩,
  ⟨0x6414, [], .plain, [ZRC_PLOG_ADDR_LO.ADDR]⟩,
  ⟨0x6418, [], .plain, [ZRC_PLOG_ADDR_HI.ADDR]⟩,
  ⟨0x641C, [], .plain, [ZRC_PLOG_INFO.SOURCE, ZRC_PLOG_INFO.CLASS, ZRC_PLOG_INFO.ID, ZRC_PLOG_INFO.VALID]⟩,
  ⟨0x6420, [], .plain, [ZRC_PLOG_WR.COUNT]⟩,
  ⟨0x6424, [], .plain, [ZRC_SRAM_CE_CNT.COUNT]⟩,
  ⟨0x6428, [], .plain, [ZRC_SRAM_UE_CNT.COUNT]⟩,
  ⟨0x6500, [(32, 8)], .plain, [ZRC_C_CE_CNT.COUNT]⟩,
  ⟨0x6504, [(32, 8)], .plain, [ZRC_C_UE_CNT.COUNT]⟩,
  ⟨0x6508, [(32, 8)], .plain, [ZRC_C_SCRUB_POS.LINES]⟩,
  ⟨0x650C, [(32, 8)], .plain, [ZRC_C_PASSES.COUNT]⟩,
  ⟨0x6510, [(32, 8)], .plain, [ZRC_C_RETRAIN_FAIL.COUNT]⟩,
  ⟨0x6514, [(32, 8)], .plain, [ZRC_C_STATE.STATE, ZRC_C_STATE.RETRAIN_NS]⟩]

/-- The registers of SPAN. -/
def regsSpan : List Reg := [
  ⟨0x6800, [], .plain, [SPAN_CTRL.EN, SPAN_CTRL.ROLE, SPAN_CTRL.FORM, SPAN_CTRL.REMOVE, SPAN_CTRL.LEAVE, SPAN_CTRL.TIME_FOLLOW, SPAN_CTRL.PORT_EN, SPAN_CTRL.REMOVE_MOD]⟩,
  ⟨0x6804, [], .plain, [SPAN_STATUS.STATE, SPAN_STATUS.MODULE, SPAN_STATUS.TIME_SUSPECT, SPAN_STATUS.CFG_ERR, SPAN_STATUS.ACTIVE, SPAN_STATUS.PORT_UP]⟩,
  ⟨0x6808, [], .plain, [SPAN_EPOCH.EPOCH]⟩,
  ⟨0x680C, [], .plain, [SPAN_TIME_TOL.NS]⟩,
  ⟨0x6810, [], .plain, [SPAN_DIGEST_LO.DIGEST]⟩,
  ⟨0x6814, [], .plain, [SPAN_DIGEST_HI.DIGEST]⟩,
  ⟨0x6818, [], .plain, [SPAN_ID.ID]⟩,
  ⟨0x681C, [], .plain, [SPAN_TMO.LOSS_US, SPAN_TMO.RTMO_US]⟩,
  ⟨0x6820, [], .plain, [SPAN_HELLO_US.US]⟩,
  ⟨0x6824, [], .plain, [SPAN_ROUTE.ROUTE]⟩,
  ⟨0x6848, [(8, 3)], .plain, [SPAN_MEMBER_LO.SERIAL]⟩,
  ⟨0x684C, [(8, 3)], .plain, [SPAN_MEMBER_HI.SERIAL]⟩,
  ⟨0x6860, [(4, 4)], .plain, [SPAN_MEMBER_STATUS.STATE, SPAN_MEMBER_STATUS.TIME_SUSPECT, SPAN_MEMBER_STATUS.REASON]⟩,
  ⟨0x6870, [(4, 4)], .plain, [SPAN_OFFSET.NS]⟩,
  ⟨0x6880, [(32, 4)], .plain, [SPAN_P_STATUS.STATE, SPAN_P_STATUS.LANES, SPAN_P_STATUS.PEER]⟩,
  ⟨0x6884, [(32, 4)], .plain, [SPAN_P_CRC_ERR.COUNT]⟩,
  ⟨0x6888, [(32, 4)], .plain, [SPAN_P_RETRY.COUNT]⟩,
  ⟨0x688C, [(32, 4)], .plain, [SPAN_P_RETRAIN.COUNT]⟩,
  ⟨0x6890, [(32, 4)], .wide, [SPAN_P_FRAMES.COUNT]⟩]

/-- The registers of QTZDOM. -/
def regsQtzDom : List Reg := [
  ⟨0x6C00, [(4, 244)], .plain, [QTZ_DOM.STATE, QTZ_DOM.HW_FLOOR, QTZ_DOM.FLOOR, QTZ_DOM.PD_PHASE, QTZ_DOM.IDLE_HOLD, QTZ_DOM.RETAIN_HOLD, QTZ_DOM.PARKED, QTZ_DOM.WAKE_PEND, QTZ_DOM.CANCEL, QTZ_DOM.FAILED]⟩]

/-- The registers of WIN. -/
def regsWin : List Reg := [
  ⟨0x8000, [(2048, 16)], .plain, [INST_CTRL.EN, INST_CTRL.RESET]⟩,
  ⟨0x8004, [(2048, 16)], .plain, [INST_STATUS.RESET_BUSY, INST_STATUS.QP_COUNT]⟩,
  ⟨0x8008, [(2048, 16)], .plain, [INST_DB_BASE_LO.ADDR]⟩,
  ⟨0x800C, [(2048, 16)], .plain, [INST_DB_BASE_HI.ADDR]⟩,
  ⟨0x8010, [(2048, 16)], .plain, [INST_SB_BASE_LO.ADDR]⟩,
  ⟨0x8014, [(2048, 16)], .plain, [INST_SB_BASE_HI.ADDR]⟩,
  ⟨0x8018, [(2048, 16)], .plain, [INST_EVT_BASE_LO.ADDR]⟩,
  ⟨0x801C, [(2048, 16)], .plain, [INST_EVT_BASE_HI.ADDR]⟩,
  ⟨0x8020, [(2048, 16)], .plain, [INST_EVT_SIZE.LOG2]⟩,
  ⟨0x8024, [(2048, 16)], .plain, [INST_EVT_HEAD.HEAD]⟩,
  ⟨0x8028, [(2048, 16)], .plain, [INST_EVT_LOST.COUNT]⟩,
  ⟨0x802C, [(2048, 16)], .plain, [INST_KICK.QP]⟩,
  ⟨0x8030, [(2048, 16)], .plain, [INST_RES_FENCE.VALUE]⟩,
  ⟨0x8034, [(2048, 16)], .plain, [INST_RES_TAG.VALUE]⟩,
  ⟨0x8100, [(2048, 16)], .plain, [HO_CTRL.EN, HO_CTRL.VEC]⟩,
  ⟨0x8104, [(2048, 16)], .plain, [HO_SIZES.REQ_LOG2, HO_SIZES.RPL_LOG2, HO_SIZES.STAGE_LOG2]⟩,
  ⟨0x8108, [(2048, 16)], .plain, [HO_REQ_BASE_LO.ADDR]⟩,
  ⟨0x810C, [(2048, 16)], .plain, [HO_REQ_BASE_HI.ADDR]⟩,
  ⟨0x8110, [(2048, 16)], .plain, [HO_RPL_BASE_LO.ADDR]⟩,
  ⟨0x8114, [(2048, 16)], .plain, [HO_RPL_BASE_HI.ADDR]⟩,
  ⟨0x8118, [(2048, 16)], .plain, [HO_STAGE_BASE_LO.ADDR]⟩,
  ⟨0x811C, [(2048, 16)], .plain, [HO_STAGE_BASE_HI.ADDR]⟩,
  ⟨0x8120, [(2048, 16)], .plain, [HO_REQ_TAIL.TAIL]⟩,
  ⟨0x8124, [(2048, 16)], .plain, [HO_REQ_HEAD.HEAD]⟩,
  ⟨0x8128, [(2048, 16)], .plain, [HO_RPL_TAIL.TAIL]⟩,
  ⟨0x812C, [(2048, 16)], .plain, [HO_RPL_HEAD.HEAD]⟩,
  ⟨0x8130, [(2048, 16)], .plain, [HO_STATUS.PENDING]⟩,
  ⟨0x8134, [(2048, 16)], .plain, [HO_LATE_CNT.COUNT]⟩,
  ⟨0x8138, [(2048, 16)], .plain, [HO_BAD_CNT.COUNT]⟩,
  ⟨0x813C, [(2048, 16)], .plain, [HO_FULL_CNT.COUNT]⟩,
  ⟨0x817C, [(2048, 16)], .plain, [INST_MBX_SEL.CHAN]⟩,
  ⟨0x8200, [(2048, 16), (4, 64)], .plain, [INST_CQ_HEAD.HEAD]⟩]

end Sys2Proof.Machine
end

