-- ==== Sys2Proof/Machine/State.lean ====
section
/-!
DEFINITION. The state of the TJS-128 as plain data, and the state right after a power-on reset at the
instant S (R106). Registers that the manual numbers live in `regs`, one entry per field, under the
field's bit address 8·offset + low bit (Machine/Regs.lean names every field); a field not listed holds
its reset value. Everything else the manual gives the part is a typed field below.
-/
namespace Sys2Proof.Machine

/-- Why a step stops. Both are safe: the part has no such unit, so no step of the part is cut short. -/
inductive Fault where
  /-- Raised by a command that names a unit the part does not have (domain 300, port 12). Safe. -/
  | noSuchUnit
deriving DecidableEq, Repr

/-- Why a command has no meaning. -/
inductive Refusal where
  /-- Raised by a command with no meaning in this model, with its mnemonic. Safe. -/
  | notModelled (mnemonic : String)
deriving DecidableEq, Repr

/-- The signals of a hardware queue to its producer and its consumer (R314 to R317). -/
inductive HqSignal where
  | notEmpty | notFull | full | refused | empty | epochChanged
deriving DecidableEq, Repr

/-- The content of a Span frame by type (Table 14-1). A REQ of this module names the instance it is sent for;
one that is passed on carries its work. -/
inductive FrameBody where
  | idle
  | nak (seq : Nat)
  | hello (h : Hello)
  | helloRsp (t1 t2 t3 corr : Nat)
  | join (h : Hello)
  | joinAck (module epoch : Nat) (admitted : Bool) (routes : List Nat)
  | leave
  | req (inst : Nat) (work : Option RemoteWork)
  | rsp (data : Bytes) (poison : Bool)
  | ctrl (w : CtrlWork)
deriving DecidableEq, Repr

/-- A Span frame: the header that Table 14-1 lays out, and the content. -/
structure SpanFrame where
  hdr : FrameHdr
  body : FrameBody
deriving DecidableEq, Repr

/-- What the part gives the outside world, in the order given. -/
inductive Out where
  /-- A DMA write to host memory through an instance's function; the last list holds the 64 B lines
  (offset / 64 within the write) that carry EP set (Table 15-2). -/
  | dma (inst addr : Nat) (data : Bytes) (poison : List Nat)
  /-- A read of host memory that the part issues. -/
  | hostRead (inst addr len : Nat)
  /-- An MSI-X message. -/
  | msix (inst vec : Nat)
  /-- A configuration completion: Configuration Request Retry Status or a normal one, with the value that it reads
  (R109, R131). -/
  | cfg (fn : Nat) (retry : Bool) (value : Nat)
  /-- A register read completed with a value (LOW_WORD_READ). -/
  | readData (req off value : Nat)
  /-- A boot progress record on UART_TX, with its stage code (R107). -/
  | uartStage (code : Nat)
  /-- The firmware trace on UART_TX begins or ends (Table 5-4). -/
  | uartTrace (on : Bool)
  /-- An answer to a console status command (R54, Table 5-4). -/
  | uartStatus (level : Nat) (cmd : Bytes)
  /-- An SMBus block read's data, or no acknowledge (R40). -/
  | smbus (data : Bytes)
  | smbusNoAck
  /-- A SYNC_OUT pulse (R48). -/
  | syncOut
  /-- What the TAP shifts out (R54): BYPASS, IDCODE, or a boundary-scan or core access. -/
  | tap (ir : Nat) (data : Bytes)
  /-- Packets delivered to a domain, by name, in order (R76). -/
  | delivered (domain : Nat) (pkts : List Pkt)
  /-- The grant of an arbiter's round (R167): the request served. -/
  | granted (arb : Arbiter) (id : Nat)
  /-- An LLDPDU sent on a sensor port (R205). -/
  | lldp (port : Nat) (lldpdu : Bytes)
  /-- A Span frame sent on a port: its header and content, and its 320 bytes (Table 14-1). -/
  | spanFrame (port : Nat) (frame : SpanFrame) (bytes : Bytes)
  /-- A signal of a hardware queue, and an item that a pop returns (R316). -/
  | hqSignal (m q : Nat) (sig : HqSignal)
  | hqItem (m q : Nat) (item : Bytes)
deriving DecidableEq, Repr

/-- The four domain states of Table 3-1. -/
inductive DState where
  | off | retain | idle | on
deriving DecidableEq, Repr

/-- Where a power-down stands. The COMMIT cycle ends the step that ends DRAIN. -/
inductive PdPhase where
  | none | drain | rails
deriving DecidableEq, Repr

/-- A packet parked in a fabric segment, or held at its sender behind that segment's full slots. -/
structure Parked where
  seg : Nat
  pkt : Pkt
deriving DecidableEq, Repr

/-- One clock and power domain (Tables 3-1 and 3-9), beyond its register fields. `attempt` counts wake
attempts (0 none, 1 and 2 under way, 3 the power cycle between them); `wakeTo` is the state the wake
leads to, `lift` that a wake to ON follows one to RETAIN, and `wakePrio` the priority at which a wake that
follows asks for its grant (R89); `grantWait` says that the wake waits for Topaz; `atSender` are packets with
their destination that wait at their senders for this fabric segment to be ON (R78); `holdoff` is the tick before
which no new power-down starts (R81); `holds` are
the floors that DOMAIN_HINTs hold, in the order they began, and `holdsNext` those that begin at ON (R387);
`retainHold` is the RETAIN_HOLD with which the timer in RETAIN started (R80). -/
structure Domain where
  st : DState
  phase : PdPhase
  target : DState
  fromRetain : Bool
  parked : List Parked
  stalled : List Parked
  wakePend : Bool
  grantWait : Bool
  attempt : Nat
  wakeTo : DState
  lift : Bool
  wakePrio : Nat
  atSender : List (Nat × Pkt)
  failed : Bool
  holdoff : Nat
  holds : List DState
  holdsNext : List DState
  retainHold : Nat
deriving DecidableEq, Repr

/-- The hold times of R394. -/
inductive Hold where
  | none | sec1 | ms10
deriving DecidableEq, Repr

/-- The input supervisor and the hot-swap controller (R35 to R38, R394); `awake` says that the SMBus target
and the die sensors were running when an MRESET_N reset came, and so run on through it (R40). `cool` holds, for
each thermal step, the tick after which the reading has stayed at least 5 °C below its threshold (0: it is not
below, R58). -/
structure Power where
  on : Bool
  charged : Bool
  qualified : Bool
  closed : Bool
  hold : Hold
  trip : Bool
  awake : Bool
  cool : List Nat
deriving DecidableEq, Repr

/-- The start-up sequence beyond GBL_BOOT_STATUS: the quiesce of a warm reset; whether the running
sequence is a warm one or skips stage 0x7; whether the previous boot completed stage 0x7 (R120); an
overrun already met (R130); the slot to try first after one; the rejections still to report (R113);
the ticks of the warm resets that R119 counts; the highest SVN committed (R115); the cause that the reset under
way shows at its end; and whether it ends in recovery (R119). -/
structure Boot where
  quiesce : Bool
  warm : Bool
  skipInit : Bool
  memInit : Bool
  overrun : Bool
  firstSlot : Option Nat
  rejected : List (Nat × Nat)
  faultTicks : List Nat
  svn : Nat
  cause : Nat
  recover : Bool
deriving DecidableEq, Repr

/-- The PCIe link: PERST_N's level, link up, ASPM state (0 L0, 1 L1, 2 L1.1, 3 L1.2), VF Enable, and
whether the function set-up after PERST_N's rise is still to end (R122). -/
structure Pcie where
  perst : Bool
  up : Bool
  aspm : Nat
  vfEnable : Bool
  setup : Bool
deriving DecidableEq, Repr

/-- An MSI-X table entry with its pending bit. -/
structure MsixEntry where
  addr : Nat
  data : Nat
  masked : Bool
  pending : Bool
deriving DecidableEq, Repr

/-- Debug authentication beyond the LPS registers: the tick a live nonce was issued at. -/
structure Debug where
  nonceAt : Option Nat
deriving DecidableEq, Repr

/-- Quartz: DTIME at the last tick, the GCLK cycles from that tick to the latest read of DTIME (R65), the
sub-nanosecond part of the advance in units of 10⁻⁹ ns, the pending step, and the tick at which the SYNC_OUT
pulse under way ends. -/
structure Quartz where
  dtime : Nat
  sub : Nat
  frac : Nat
  stepPend : Int
  pulseEnd : Nat
deriving DecidableEq, Repr

/-- A request in Topaz's grant queue (R89). -/
structure GrantReq where
  item : Item
  prio : Nat
  seq : Nat
deriving DecidableEq, Repr

/-- Topaz beyond its registers: the granted items outside the floor, the queue, the held facets, the
PoDL ports shed, a raise whose voltage is still moving (the code granted), whether any budget has been
signalled, the values of a rise run and of a recovery run, consecutive invalid periods, a pending F10
reply (code, facets), whether an F10 reply holds since the last change of the effective budget (R96), and the
draw comparison's run (R105). -/
structure Topaz where
  items : List Item
  queue : List GrantReq
  reqSeq : Nat
  held : List Nat
  shed : List Nat
  raising : Option Nat
  signalledEver : Bool
  rise : List Nat
  recover : List Nat
  badRun : Nat
  reply : Option (Nat × Nat)
  hosted : Bool
  drawRun : Nat
  drawTold : Bool
deriving DecidableEq, Repr

/-- A submission entry (Table 6-3), its fields and its 64 bytes. -/
structure Sqe where
  opcode : Nat
  chain : Bool
  ignoreErr : Bool
  intr : Bool
  modeOvr : Bool
  prio : Nat
  hostTag : Nat
  waitFence : Nat
  signalFence : Nat
  waitValue : Nat
  signalValue : Nat
  raw : Bytes
deriving DecidableEq, Repr

/-- How far an operation has come: waiting on its fence; dispatched to its engine; waiting for a
handoff's reply; waiting for a named later event; or ended with status, result and detail, its
completion still to be written (a result or detail that no rule states is `none`: a free value). -/
inductive OpPhase where
  | waiting
  | started
  | handoff
  | held (why : Nat) (args : List Nat)
  | done (status : Nat) (result detail : Option Nat)
deriving DecidableEq, Repr

/-- An operation in flight, under its device tag: its queue pair and instance, the entries of its
chain with the member under way, the highest status so far, its place in the order of fetching, the
tick its wait began and that from which the deadlock walk's age runs, whether WAIT_STALE has been reported, whether a reset has stopped it, the
outcome of its handoff (none asked yet; none: resolved as hardware; some: the reply's entry and data),
whether a flush has cut its chain after the member under way, the value its wait fence had when it
started (0 without one), and progress of a long operation. -/
structure Op where
  qp : Nat
  inst : Nat
  members : List Sqe
  idx : Nat
  worst : Nat
  phase : OpPhase
  seq : Nat
  since : Nat
  walkAt : Nat
  stale : Bool
  stopped : Bool
  reply : Option (Option (Bytes × Bytes))
  cut : Bool
  startValue : Nat
  prog : List Nat
deriving DecidableEq, Repr

/-- A queue pair beyond its registers: the latest accepted TAIL, URGENT, the interrupting completions since the last
message (R148), its place in the round-robin (the number of the last entry fetched from it, R146), the ABORT_FLUSH
completions that wait for room in its completion ring (R147, R156: host tag, whether DETAIL is 0, interrupting), and
whether a flush waits for its doorbell read, with its FENCE_ERR. -/
structure QueuePair where
  tail : Nat
  urgent : Bool
  intrCount : Nat
  served : Nat
  aborts : List (Nat × Bool × Bool)
  flushRead : Option Bool
deriving DecidableEq, Repr

/-- An instance beyond its window: the event ring's tail (EVT_TAIL), the events lost since the last
EVENTS_LOST, the status block's SEQ, the tick of its last update, whether its content has changed,
and the handoff numbers: next HO_ID and the staging area's next byte. -/
structure InstState where
  evtTail : Nat
  lostSince : Nat
  sbSeq : Nat
  sbTick : Nat
  sbDirty : Bool
  hoId : Nat
  stageAt : Nat
deriving DecidableEq, Repr

/-- A fence of Opal. -/
structure Fence where
  value : Nat
  error : Bool
deriving DecidableEq, Repr

/-- A handoff request that no reply has answered (R185): its handler and HO_ID, the function, the
operation's tag (none for an item that is no operation) with the item's own arguments, and the request
slot and staging bytes it holds. -/
structure Handoff where
  inst : Nat
  id : Nat
  func : Nat
  tag : Option Nat
  args : List Nat
  slot : Nat
  stageOff : Nat
  stageLen : Nat
deriving DecidableEq, Repr

/-- Jade beyond its registers (R239 to R254). Both lanes hold the same blocks: field sets, velocity table
(empty: none loaded) and transforms, as loaded. Then: the tick after each port's last accepted frame, the
tick after the last hit, the tick after the last velocity, the speeds that DOWN_MS looks back on (newest first, each with
the tick after its frame; none where it is no number), whether a stop waits for a restart request,
consecutive feedback mismatches, the ticks of the last output changes, the output in a test pulse, and
the ticks at which the last pulses ended. A tick held as 0 means never. -/
structure Jade where
  sets : SMap Bytes
  vtab : Bytes
  xforms : SMap Bytes
  lastFrame : SMap Nat
  lastHit : Nat
  velAt : Nat
  speeds : List (Nat × Option Nat)
  needGo : Bool
  badA : Nat
  badB : Nat
  changeA : Nat
  changeB : Nat
  pulse : Option Nat
  pulseEndA : Nat
  pulseEndB : Nat
deriving DecidableEq, Repr


/-- A facet tile (Table 11-7): its operation, its place in the operation's order on the work list, its number,
its block of output channels or head, and the facet that a static assignment gives it to. -/
structure Tile where
  tag : Nat
  pos : Nat
  idx : Nat
  blk : Nat
  fixed : Option Nat
deriving DecidableEq, Repr

/-- A pinned weight copy (R257): its key and its bytes. -/
structure Pin where
  key : Nat
  data : Bytes
deriving DecidableEq, Repr

/-- A facet: the tile it computes, the tile it has staged, and its pinned weights. -/
structure Facet where
  cur : Option Tile
  next : Option Tile
  pin : Option Pin
deriving DecidableEq, Repr

/-- A facet operator that runs: its parameter block as read at dispatch, the tiles of its groups, DENSE_PCT
and the F5 bitmap that it keeps (R278), its tiles, those run, those run dense, and what its tiles met:
poison, a bad weight nibble (R285) with its tile and block, an RLZ error (R286). -/
structure FctRun where
  param : Bytes
  groups : List Nat
  pct : Nat
  bitmap : Option Bytes
  total : Nat
  ran : Nat
  dense : Nat
  poison : Bool
  badWeight : Option (Nat × Nat)
  rlzErr : Bool
deriving DecidableEq, Repr

/-- A map table's open step beyond its registers (R300, R301): its version, the instances that staged, by row number the
exact sums of its columns in units of 2⁻⁴⁰, how far its COMMIT is (0 not begun, 1 with F8's handler, 2 new records
computed, 3 its records written), the new records still to write (by row, for each slice G and the values, none where
the row is skipped), the rows committed so far, and whether one was skipped. -/
structure TableStep where
  ver : Nat
  insts : List Nat
  rows : SMap (List Int)
  stage : Nat
  news : List (Nat × List (Option (Nat × List Nat)))
  count : Nat
  skipped : Bool
deriving DecidableEq, Repr

/-- A TABLE_MIGRATE under way (R308): the version, the module that the shard leaves, the one it goes to, the shard, the
slots on DEST of the rows whose entries are not yet rewritten, the rows moved in all, whether its commit record stands at
the source and at the head (R126), and whether a restart of the head has cut it off from its operation. -/
structure Migration where
  ver : Nat
  src : Nat
  dest : Nat
  shard : Nat
  slots : SMap Nat
  total : Nat
  recorded : Bool
  restart : Bool
deriving DecidableEq, Repr

/-- A hardware queue (R313 to R317): its segments, by number in the pool, with the bytes of each item placed
in them, oldest first; the items of the first segment already popped; its EPOCH; whether a flush has not yet
been seen by a pop; and the item whose end-of-item word was refused. -/
structure Hq where
  segs : List (Nat × List Nat)
  head : Nat
  epoch : Nat
  changed : Bool
  open_ : Option Bytes
deriving DecidableEq, Repr


/-- A Span port's link layer (R333, R334): the SEQ of the next frame sent and of the next one expected;
whether a NAK stands; the replay buffer, each frame with the times it has been resent; the frames not yet
sent; the credit held, and the credit owed to the peer, for VC0 to VC2. -/
structure SpanLink where
  txSeq : Nat
  rxSeq : Nat
  nakked : Bool
  replay : List (Nat × SpanFrame)
  queue : List SpanFrame
  credit : List Nat
  owed : List Nat
deriving DecidableEq, Repr

/-- Span membership beyond the SPAN registers: the ports whose SPRES_N is low; the ports on which a HELLO has
named the peer; a member's JOIN answered and its catch-up under way (R338); HOLD expired (R347); runs of
offsets beyond and within the tolerance (R341); the port, plus 1, on which the last JOIN came; and at the head the peers that each module reports. -/
structure SpanNode where
  spres : Nat
  heard : Nat
  acked : Bool
  expired : Bool
  badRun : Nat
  goodRun : Nat
  joinFrom : Nat
  adj : SMap (List Nat)
deriving DecidableEq, Repr


/-- An entry of the poison log (Table 15-6): address, source, class and identifier. -/
structure PlogEntry where
  addr : Nat
  source : Nat
  cls : Nat
  id : Nat
deriving DecidableEq, Repr



/-- Amber beyond its registers (R374 to R378): telemetry records dropped since the last one written, whether that
loss has been reported, the self-tests that run (unit, device tag; 65536 for an automatic run), the next facet and
bank of the automatic tests, and by Span port the lanes kept out (R376). -/
structure Amber where
  lost : Nat
  told : Bool
  tests : List (Nat × Nat)
  nextFacet : Nat
  nextBank : Nat
  lanesOut : SMap Nat
deriving DecidableEq, Repr


/-- A request that waits at an arbiter, and the module's ns at which it reached it (R167). -/
structure Waiting where
  req : ArbReq
  since : Nat
deriving DecidableEq, Repr

/-- An arbiter (Table 7-2): who holds its resource, where it has a holder (R170), and the requests that wait. -/
structure ArbState where
  holders : List ArbOwner
  queue : List Waiting
deriving DecidableEq, Repr

/-- A slice that is open (R211 to R214): its number and start, whether it is the first of its sweep, the
points written and the points only tested, the frames that fell in it, its flags so far and its LOST
field, whether it has a slot (DROP_NEWEST drops have none), whether writing has stalled (R217), and the
VLAN tag last seen. -/
structure Slice where
  seq : Nat
  start : Nat
  first : Bool
  points : Nat
  capped : Nat
  frames : Nat
  flags : Nat
  lost : Nat
  slot : Bool
  stalled : Bool
  vlan : Nat
deriving DecidableEq, Repr

/-- A sensor port's binding and stream (chapter 9): who bound it and with what; the last discovery and
whether one runs; whether its link is detached; the sweep (waiting for a boundary, started, its Ts, the
next slice, its number, the slices it has had); the open slice and the slices closed; the azimuth of the
last record; points written in the last 1 ms (moment, count); slices dropped and not yet reported; by slice
number 1, plus the mode of its F0 item, plus twice its handler (R181); the handler, plus 1, of the last F1 item in
host-assisted mode; and whether a DTIME step has ended the last slice (R221). -/
structure Port where
  bound : Bool
  binder : Nat
  pipeline : Nat
  fence : Nat
  podlMw : Nat
  podlFails : Nat
  auto : Bool
  mask : Nat
  dropNewest : Bool
  sliceUs : Nat
  slots : Nat
  perSweep : Nat
  slotPts : Nat
  nominal : Nat
  ringBase : Nat
  found : Nat
  discovering : Bool
  detached : Bool
  sync : Bool
  sweepOn : Bool
  ts : Int
  j : Nat
  sweep : Nat
  open_ : Option Slice
  closed : Nat
  prevAz : Option Nat
  recent : List (Nat × Nat)
  dropRun : Nat
  lostSince : Nat
  lostTick : Nat
  sliceModes : SMap Nat
  f1 : Nat
  stepped : Bool
deriving DecidableEq, Repr


/-- The state of one module. `pending` is the queue of commands; `out` what the part has given the
outside, oldest first; `ticks` the QCLK ticks passed; `free` how many free values have been drawn;
`regs` the register fields in force, `staged` RWS values awaiting their boundary, `sats` the SAT bits,
`armed` the THRESH counters that have reached theirs, `hiHold` the high words latched per requester.
`mem` is package memory by span address and, from 2^39 on, the shelves (32 MiB each, by module); a byte
not listed is zero. `poison`, `ceLines` and `ueLines` hold the 64 B lines, address / 64, that are
poisoned, that hold a correctable error, or that hold an uncorrectable one not yet met. `wbQueue` holds
each channel's queued write-backs, `retrainRun` its consecutive periods of failed retraining, `retrainDue` what a
retraining that fell due in self-refresh will measure (R72),
`scrubTold` whether its pass has been reported late, `searches` the lines awaiting a directory search.
`rlzRows` holds rows computed for RLZ outputs until their operation ends, by tag, row and block; `runs` the
facet operators that run; `steps` holds the open steps and
`migs` the migrations by table, `migTold` the events (code, table) of migrations settled at a restart (R125, R126) that
still wait for their ring, `records` the commit records by module and table that the module has yet to apply;
`lostSlots` the records whose directory entry was lost with its line. `hqs` holds the
hardware queues by module × 2048 + queue, `expDropped` TOTAL_DROPPED by layer × 256 + expert. `links` are the Span ports' link layers,
`node` and `amber` the rest of membership and of Amber. -/
structure State where
  pending : List Instr
  out : List Out
  ticks : Nat
  free : Nat
  regs : SMap Nat
  staged : SMap Nat
  sats : SMap Bool
  armed : SMap Bool
  hiHold : SMap Nat
  power : Power
  boot : Boot
  pcie : Pcie
  dbg : Debug
  quartz : Quartz
  domains : SMap Domain
  topaz : Topaz
  ops : SMap Op
  opSeq : Nat
  fences : SMap Fence
  qps : SMap QueuePair
  insts : SMap InstState
  handoffs : List Handoff
  hoEvents : SMap Nat
  msix : SMap MsixEntry
  tagStall : Bool
  ports : SMap Port
  gptpRun : Nat
  poseLast : Option Nat
  jade : Jade
  mem : SMap Byte
  poison : SMap Bool
  ceLines : SMap Bool
  ueLines : SMap Bool
  wbQueue : SMap (List Nat)
  plog : SMap PlogEntry
  retrainRun : SMap Nat
  retrainDue : SMap (Nat × Bool × Bool)
  scrubTold : SMap Bool
  searches : List Nat
  workList : List Tile
  facets : SMap Facet
  rlzRows : SMap (List Nat)
  runs : SMap FctRun
  steps : SMap TableStep
  migs : SMap Migration
  migTold : List (Nat × Nat)
  records : List (Nat × Nat × Bytes)
  lostSlots : SMap Bool
  hqs : SMap Hq
  expDropped : SMap Nat
  links : SMap SpanLink
  node : SpanNode
  amber : Amber
  arbs : SMap ArbState
deriving DecidableEq, Repr

/-- The module at the instant S of a power-on reset (R106): stage 0x1, every register at its reset
value, memory and arrays empty, and PERST_N low. Values the manual does not give are named in the
assumption log. -/
def State.reset : State where
  pending := []
  out := [.uartStage 1]
  ticks := 0
  free := 0
  regs := []
  staged := []
  sats := []
  armed := []
  hiHold := []
  power := ⟨true, true, true, true, .none, false, false, [0, 0, 0]⟩
  boot := ⟨false, false, false, false, false, none, [], [], 0, 0, false⟩
  pcie := ⟨false, false, 0, false, false⟩
  dbg := ⟨none⟩
  quartz := ⟨0, 0, 0, 0, 0⟩
  domains := []
  topaz := ⟨[], [], 0, [], [], none, false, [], [], 0, none, false, 0, false⟩
  ops := []
  opSeq := 0
  fences := []
  qps := []
  insts := []
  handoffs := []
  hoEvents := []
  msix := []
  tagStall := false
  ports := []
  gptpRun := 0
  poseLast := none
  jade := ⟨[], [], [], [], 0, 0, [], false, 0, 0, 0, 0, none, 0, 0⟩
  mem := []
  poison := []
  ceLines := []
  ueLines := []
  wbQueue := []
  plog := []
  retrainRun := []
  retrainDue := []
  scrubTold := []
  searches := []
  workList := []
  facets := []
  rlzRows := []
  runs := []
  steps := []
  migs := []
  migTold := []
  records := []
  lostSlots := []
  hqs := []
  expDropped := []
  links := []
  node := ⟨0, 0, false, false, 0, 0, 0, []⟩
  amber := ⟨0, false, [], 0, 0, []⟩
  arbs := []

end Sys2Proof.Machine
end

