-- ==== Sys2Proof/Machine/Ops.lean ====
section
/-!
DEFINITION. The named operations over the state that the commands share: sparse arrays, registers and
counters, free values, package memory bytes, DMA and interrupts, events, dropped writes, fences, and
the course of an operation from its dispatch to its completion.
-/
namespace Sys2Proof.Machine

/-! ## Sparse arrays -/

/-- The listed value at an index, if one is listed. -/
def SMap.get? {α : Type} : SMap α → Nat → Option α
  | [], _ => none
  | (i, v) :: m, k => if i = k then some v else SMap.get? m k

/-- The value at an index, `d` where none is listed. -/
def SMap.get {α : Type} (m : SMap α) (k : Nat) (d : α) : α := (SMap.get? m k).getD d

/-- The map with `v` listed at `k`, indexes rising. -/
def SMap.ins {α : Type} : SMap α → Nat → α → SMap α
  | [], k, v => [(k, v)]
  | (i, w) :: m, k, v =>
    if k < i then (k, v) :: (i, w) :: m else if k = i then (k, v) :: m else (i, w) :: SMap.ins m k v

/-- The map with nothing listed at `k`. -/
def SMap.del {α : Type} : SMap α → Nat → SMap α
  | [], _ => []
  | (i, w) :: m, k => if i = k then SMap.del m k else (i, w) :: SMap.del m k

/-- The map with value `v` at `k`, where an unlisted index has value `d`. -/
def SMap.put {α : Type} [DecidableEq α] (m : SMap α) (k : Nat) (v d : α) : SMap α :=
  if v = d then SMap.del m k else SMap.ins m k v

/-- Insertion of an element into a list sorted by a Nat measure, after its equals. -/
def insertBy {α : Type} (f : α → Nat) (x : α) : List α → List α
  | [] => [x]
  | y :: ys => if f x < f y then x :: y :: ys else y :: insertBy f x ys

/-- A stable sort by a Nat measure, smallest first: equals keep the order they had. -/
def sortBy {α : Type} (f : α → Nat) (l : List α) : List α := l.foldl (fun acc x => insertBy f x acc) []

/-- Serial-number order of an n-bit WRAP counter (R13): `a` is later than `b`. -/
def laterThan (n a b : Nat) : Bool :=
  let d := (a + 2 ^ n - b % 2 ^ n) % 2 ^ n
  1 ≤ d && d ≤ 2 ^ (n - 1) - 1

/-- The distance from `b` forward to `a` in an n-bit WRAP counter. -/
def wrapDist (n a b : Nat) : Nat := (a % 2 ^ n + 2 ^ n - b % 2 ^ n) % 2 ^ n

/-! ## Registers -/

/-- Byte displacements of array elements: queue pair, instance window, sensor port, domain entry. -/
def qpD (q : Nat) : Nat := 64 * q
def winD (n : Nat) : Nat := 0x800 * n
def portD (p : Nat) : Nat := 0x80 * p
def domD (n : Nat) : Nat := 4 * n
/-- The displacement of element `k` of a register behind a selector: a view of its own, above BAR0. -/
def selD (k : Nat) : Nat := 0x100000 * k

/-- The key of a field in the register file. -/
def Fld.key (F : Fld) (d : Nat) : Nat := 8 * (F.off + d) + F.lo

/-- A field's reset value at displacement `d`. -/
def Fld.rst (F : Fld) (d : Nat) : Nat := (if d = 0 then F.rst0 else F.rstN) + F.grow * d

/-- The value in force of a field. -/
def State.reg (s : State) (F : Fld) (d : Nat := 0) : Nat := SMap.get s.regs (F.key d) (F.rst d)

/-- A one-bit field as a truth value. -/
def State.regB (s : State) (F : Fld) (d : Nat := 0) : Bool := s.reg F d != 0

/-- A field set by hardware or by an accepted write; bits above its width are cut. -/
def State.setReg (s : State) (F : Fld) (d v : Nat) : State :=
  { s with regs := SMap.put s.regs (F.key d) (v % 2 ^ F.w) (F.rst d) }

/-- What an RWS field reads: the value most recently written (Table 0-3). -/
def State.regRead (s : State) (F : Fld) (d : Nat := 0) : Nat :=
  (SMap.get? s.staged (F.key d)).getD (s.reg F d)

/-- An RWS write: the value is staged, replacing one staged before (R7). -/
def State.stage (s : State) (F : Fld) (d v : Nat) : State :=
  { s with staged := SMap.ins s.staged (F.key d) (v % 2 ^ F.w) }

/-- A boundary: the staged value, if there is one, comes into force (R7). -/
def State.applyStaged (s : State) (F : Fld) (d : Nat := 0) : State :=
  match SMap.get? s.staged (F.key d) with
  | none => s
  | some v => { (s.setReg F d v) with staged := SMap.del s.staged (F.key d) }

/-- The 64-bit value of two 32-bit fields. -/
def State.reg64 (s : State) (lo hi : Fld) (d : Nat := 0) : Nat := s.reg lo d + 2 ^ 32 * s.reg hi d

/-! ## Free values -/

/-- A byte that the manual leaves undefined. -/
def State.drawByte (s : State) : Byte × State := (Config.freeByte s.free, { s with free := s.free + 1 })

/-- `n` bytes that the manual leaves undefined. -/
def State.drawBytes (s : State) (n : Nat) : Bytes × State :=
  ((List.range n).map fun i => Config.freeByte (s.free + i), { s with free := s.free + n })

/-- A 32-bit value that the manual leaves unstated, where none is given. -/
def State.orFree (s : State) (v : Option Nat) : Nat × State :=
  match v with
  | some v => (v, s)
  | none => let r := s.drawBytes 4; (leNat r.1, r.2)

/-- An outcome that the manual lets go either way. -/
def State.drawBool (s : State) : Bool × State := (Config.freeBool s.free, { s with free := s.free + 1 })

/-! ## Outputs, DMA and interrupts -/

/-- The part gives `o` to the outside. -/
def State.emit (s : State) (o : Out) : State := { s with out := s.out ++ [o] }

/-- The default of a domain, an instance and so on is what an unlisted element holds. -/
def instReset : InstState := ⟨0, 0, 0, 0, false, 0, 0⟩
def qpReset : QueuePair := ⟨0, false, 0, 0, [], none⟩
def fenceReset : Fence := ⟨0, false⟩
/-- An MSI-X entry after a reset of its function: masked, as PCIe has it (PRESUMED, log entry 32). -/
def msixReset : MsixEntry := ⟨0, 0, true, false⟩

def State.inst (s : State) (n : Nat) : InstState := SMap.get s.insts n instReset
def State.setInst (s : State) (n : Nat) (v : InstState) : State :=
  { s with insts := SMap.put s.insts n v instReset }
def State.qp (s : State) (q : Nat) : QueuePair := SMap.get s.qps q qpReset
def State.setQp (s : State) (q : Nat) (v : QueuePair) : State :=
  { s with qps := SMap.put s.qps q v qpReset }
def State.fence (s : State) (f : Nat) : Fence := SMap.get s.fences f fenceReset
def State.setFence (s : State) (f : Nat) (v : Fence) : State :=
  { s with fences := SMap.put s.fences f v fenceReset }
def State.msixEntry (s : State) (n v : Nat) : MsixEntry := SMap.get s.msix (128 * n + v) msixReset
def State.setMsix (s : State) (n v : Nat) (e : MsixEntry) : State :=
  { s with msix := SMap.put s.msix (128 * n + v) e msixReset }

/-- The module is past start-up: stage 0xF, and no quiesce of a warm reset under way. -/
def State.ready (s : State) : Bool :=
  s.power.on && s.reg GBL_BOOT_STATUS.STAGE == 0xF && !s.boot.quiesce

/-- The SMBus target and the die sensors run: from the end of stage 0x1 after power came, MRESET_N resets
included (R40, R394). -/
def State.sensing (s : State) : Bool := s.power.on && (s.power.awake || s.reg GBL_BOOT_STATUS.STAGE ≥ 2)

/-- Operators and rings run: ready and not in recovery (R114). -/
def State.running (s : State) : Bool := s.ready && !s.regB GBL_BOOT_STATUS.RECOVERY

/-- The host link carries requests of the function of instance `n`: the link is up, PERST_N is high,
and a VF is enabled. -/
def State.linked (s : State) (n : Nat) : Bool :=
  s.pcie.up && s.pcie.perst && (n == 0 || s.pcie.vfEnable)

/-- DMA writes of instance `n` reach its memory (R157, R158). -/
def State.canDma (s : State) (n : Nat) : Bool :=
  s.running && s.linked n && !s.regB INST_STATUS.RESET_BUSY (winD n)

/-- An MSI-X message, or its pending bit while the vector is masked (R148). -/
def State.sendMsix (s : State) (n v : Nat) : State :=
  let e := s.msixEntry n v
  if e.masked then s.setMsix n v { e with pending := true } else s.emit (.msix n v)

/-- A vector number in range of its function (Table 6-12): otherwise 0. -/
def vecOf (n v : Nat) : Nat := if n = 0 then v else if v ≤ 7 then v else 0

/-- A ring's log2 size, a value out of range taken as the low end (R153, Table 6-16). -/
def log2In (lo hi v : Nat) : Nat := if lo ≤ v ∧ v ≤ hi then v else lo

/-! ## Counters -/

/-- The public word of a register, as AMB_SAT_MAP numbers it (R368). -/
def satWord (F : Fld) (d : Nat) : Nat := (F.off + d) % 0x100000 / 4

/-- A counter's own count by its class (Table 0-4), and whether its SAT bit went from 0 to 1. -/
def State.bump (s : State) (F : Fld) (d n : Nat) : State × Bool :=
  let v := s.reg F d
  match F.acc with
  | .wrap => (s.setReg F d ((v + n) % 2 ^ F.w), false)
  | .mono => (s.setReg F d (v + n), false)
  | _ =>
    let top := 2 ^ F.w - 1
    let v' := min (v + n) top
    let hit := v' == top && v != top && !SMap.get s.sats (satWord F d) false
    let s := s.setReg F d v'
    (if hit then { s with sats := SMap.put s.sats (satWord F d) true false } else s, hit)

/-- The block code of Amber's saturation map (R368): the bit of GBL_ERR_SUMMARY, or 18 for a window. -/
def satBlock (word : Nat) : Nat :=
  let off := 4 * word
  if off ≥ 0x8000 then 18 else if off < 0x400 then 0 else if off < 0x800 then 1 else if off < 0xC00 then 2
  else if off < 0x1000 then 3 else if off < 0x1400 then 4 else if off < 0x1800 then 6
  else if off < 0x1C00 then 7 else if off < 0x2000 then 8 else if off < 0x3000 then 5
  else if off < 0x4000 then 9 else if off < 0x5000 then 10 else if off < 0x5400 then 11
  else if off < 0x5800 then 12 else if off < 0x5C00 then 13 else if off < 0x6000 then 14
  else if off < 0x6400 then 15 else if off < 0x6800 then 16 else if off < 0x6C00 then 17 else 1

/-- The first word of a block or, for code 18, of window `n`. -/
def satBase (code n : Nat) : Nat :=
  ([0, 0x400, 0x800, 0xC00, 0x1000, 0x2000, 0x1400, 0x1800, 0x1C00, 0x3000, 0x4000, 0x5000, 0x5400,
    0x5800, 0x5C00, 0x6000, 0x6400, 0x6800].getD code (0x8000 + 0x800 * n)) / 4

/-! ## Domains -/

/-- The order of domain states, and their encoding (R69, Table 3-9). -/
def DState.code : DState → Nat
  | .off => 0 | .retain => 1 | .idle => 2 | .on => 3

def DState.ofCode : Nat → DState
  | 0 => .off | 1 => .retain | 2 => .idle | _ => .on

def DState.max (a b : DState) : DState := if a.code < b.code then b else a

/-- A domain at the instant S: at its hardware floor then, with no port bound and PERST_N low; Lapis
is ON, since it runs the start-up. -/
def domainReset (n : Nat) : Domain :=
  let st : DState :=
    if n ≤ 3 then .on else if n ≤ 187 then .off else if n ≤ 195 then .retain
    else if n ≤ 203 then .off else if n ≤ 219 then .retain else if n ≤ 229 then .off
    else if n = 230 then .retain else if n ≤ 235 then .off else if n ≤ 237 then .retain
    else if n = 238 then .idle else if n = 239 then .on else if n = 240 then .retain else .off
  ⟨st, .none, .off, false, [], [], false, false, 0, .on, false, 7, [], false, 0, [], [], 0⟩

def State.dom (s : State) (n : Nat) : Domain := SMap.get s.domains n (domainReset n)
def State.setDom (s : State) (n : Nat) (d : Domain) : State :=
  { s with domains := SMap.put s.domains n d (domainReset n) }

/-- A domain whose logic runs or can run at once: ON or IDLE. -/
def Domain.up (d : Domain) : Bool := d.st == .on || d.st == .idle

/-- A power-down in DRAIN is cancelled (R74, R75): CANCEL is set; a domain that went from IDLE is ON. -/
def State.cancelDown (s : State) (n : Nat) : State :=
  let d := s.dom n
  (s.setDom n { d with phase := .none, fromRetain := false,
                       st := if d.fromRetain then .retain else .on }).setReg QTZ_DOM.CANCEL (domD n) 1

/-- Quartz brings domain `n` up (R73) with `start` as the beginning of a wake: a FAILED domain is not woken (R82),
a power-down in DRAIN is cancelled, one past COMMIT runs to its end and the wake follows it (R76), as a wake to ON
follows one to RETAIN that is under way (R395). -/
def State.wakeBy (s : State) (n prio : Nat) (tgt : DState) (start : State → State) : State :=
  let d := s.dom n
  let p := if d.wakePend then min d.wakePrio prio else prio
  if d.failed then s
  else match d.phase with
    | .drain =>
      let t := s.cancelDown n
      if d.fromRetain && tgt != .retain then start t else t
    | .rails => s.setDom n { d with wakePend := true, wakePrio := p, wakeTo := if d.wakePend then d.wakeTo.max tgt else tgt }
    | .none =>
      if d.st == .idle then s.setDom n { d with st := .on }
      else if d.grantWait then s
      else if d.attempt != 0 then
        (if d.wakeTo == .retain && tgt != .retain then s.setDom n { d with lift := true, wakePrio := p } else s)
      else if d.st == .on || (d.st == .retain && tgt == .retain) then s
      else start s

/-- A wake attempt toward a state begins. -/
def State.attempt (s : State) (n : Nat) (tgt : DState) : State :=
  s.setDom n { s.dom n with wakePend := true, wakeTo := tgt, grantWait := false, attempt := 1 }

/-- A domain of the base charge, which needs no grant (Table 4-1), is woken to ON. -/
def State.rouse (s : State) (n : Nat) : State := s.wakeBy n 7 .on (·.attempt n .on)

/-- DTIME as a read finds it: the GCLK cycles since the last QCLK tick are added (R65). -/
def State.dtimeNow (s : State) : Nat := s.quartz.dtime + s.quartz.sub

/-- The moment of a command: `gclk` GCLK cycles since the last QCLK tick, of which there are 250 (R65). -/
def State.atGclk (s : State) (gclk : Nat) : State := { s with quartz := { s.quartz with sub := gclk } }

/-- The moment lies in the tick under way, and not before one that an earlier command has named. -/
def State.inTick (s : State) (gclk : Nat) : Bool := s.quartz.sub ≤ gclk && gclk < 250

/-- The module's own ns, which no DTIME step moves: 250 for each QCLK tick (R213). -/
def State.uptime (s : State) : Nat := 250 * s.ticks + s.quartz.sub

/-! ## Events (R149 to R151) -/

/-- The entries of an instance's event ring. -/
def State.evtSize (s : State) (n : Nat) : Nat :=
  2 ^ log2In 6 16 (s.reg INST_EVT_SIZE.LOG2 (winD n))

/-- Entries written and not yet consumed. -/
def State.evtUsed (s : State) (n : Nat) : Nat :=
  wrapDist 32 (s.inst n).evtTail (s.reg INST_EVT_HEAD.HEAD (winD n))

/-- An event entry (Table 6-8); a DETAIL that no rule states is `none`, a free value. -/
structure Event where
  code : Nat
  detail : Option Nat := none
  arg : Nat := 0
  qp : Nat := 0xFF
  tag : Nat := 0xFFFF
deriving DecidableEq, Repr

/-- The 32 bytes of an event entry (Table 6-8); the phase follows R141. -/
def State.eventBytes (s : State) (n : Nat) (e : Event) (detail : Nat) : Bytes :=
  let t := (s.inst n).evtTail
  let phase := if t / s.evtSize n % 2 = 0 then 1 else 0
  leBytes 2 e.code ++ leBytes 1 n ++ leBytes 1 phase ++ leBytes 4 detail ++ leBytes 8 s.dtimeNow
    ++ leBytes 8 e.arg ++ leBytes 1 e.qp ++ [0] ++ leBytes 2 e.tag ++ leBytes 4 t

/-- One entry written at the ring's tail, with its vector 0 message. -/
def State.putEvent (s : State) (n : Nat) (e : Event) : State :=
  let i := s.inst n
  let base := s.reg64 INST_EVT_BASE_LO.ADDR INST_EVT_BASE_HI.ADDR (winD n) / 4096 * 4096
  let r := s.orFree e.detail
  let s := r.2.emit (.dma n (base + 32 * (i.evtTail % s.evtSize n)) (s.eventBytes n e r.1) [])
  (s.setInst n { i with evtTail := (i.evtTail + 1) % 2 ^ 32, sbDirty := true }).sendMsix n 0

/-- EVENTS_LOST written once space has appeared (R151). -/
def State.putLost (s : State) (n : Nat) : State :=
  let i := s.inst n
  if i.lostSince != 0 && s.evtUsed n != s.evtSize n then
    let s := s.putEvent n { code := 0x08F0, detail := some (min i.lostSince 0xFFFFFFFF) }
    s.setInst n { s.inst n with lostSince := 0 }
  else s

/-- Topaz, Opal, Amber and Jasper events for an event ring wake PCIe and Peridot (Table 3-4). -/
def ringWakes (code : Nat) : Bool :=
  code / 256 == 2 || code / 256 == 7 || code / 256 == 8 || (0x0A10 ≤ code && code < 0x0A20)

/-- PCIe and Peridot are woken. -/
def State.wakeRing (s : State) : State := (((s.rouse 228).rouse 229).rouse 234).rouse 235

/-- One event for the ring of instance `n` (R150, R151): written, or lost when the ring is full. An
instance in reset or with no enabled ring has nowhere to receive it. The flag says that
INST_EVT_LOST saturated. -/
def State.eventBase (s : State) (n : Nat) (e : Event) : State × Bool :=
  if s.canDma n && s.regB INST_CTRL.EN (winD n) then
    let s := (if ringWakes e.code then s.wakeRing else s).putLost n
    if s.evtUsed n = s.evtSize n then
      let s := s.setInst n { s.inst n with lostSince := (s.inst n).lostSince + 1 }
      s.bump INST_EVT_LOST.COUNT (winD n) 1
    else (s.putEvent n e, false)
  else (s, false)

/-- The instance that owns a counter: the window's own, else PF 0 (R369). -/
def satOwner (word : Nat) : Nat := if word ≥ 0x2000 then (word - 0x2000) / 0x200 else 0

/-- COUNTER_SAT (R369) for a register: the block code and word offset in DETAIL, the selector in ARG. -/
def State.satEvent (s : State) (F : Fld) (d : Nat) : State :=
  let w := satWord F d
  let n := satOwner w
  if s.regB AMB_CTRL.SAT_EVT_EN then
    (s.eventBase n { code := 0x0801, detail := some (satBlock w + 32 * (w - satBase (satBlock w) n)),
                     arg := d / 0x100000 }).1
  else s

/-- A counter counts `n` events (Table 0-4), with COUNTER_SAT when its SAT bit is newly set. -/
def State.count (s : State) (F : Fld) (d : Nat := 0) (n : Nat := 1) : State :=
  let r := s.bump F d n
  if r.2 then r.1.satEvent F d else r.1

/-- An event raised in the ring of instance `n` (R150). -/
def State.event (s : State) (n : Nat) (e : Event) : State :=
  let r := s.eventBase n e
  if r.2 then r.1.satEvent INST_EVT_LOST.COUNT (winD n) else r.1

/-- An event that no single instance owns, in PF 0's ring. -/
def State.pfEvent (s : State) (code : Nat) (detail : Option Nat := none) (arg : Nat := 0) : State :=
  s.event 0 { code := code, detail := detail, arg := arg }

/-! ## Dropped writes (R6) -/

/-- The block's bit in GBL_ERR_SUMMARY. -/
def Blk.bitNo : Blk → Nat
  | .gbl => 0 | .qtz => 1 | .tpz => 2 | .lps => 3 | .pdt => 4 | .win => 4 | .qp => 5 | .opl => 6
  | .mode => 7 | .amb => 8 | .jsp => 9 | .gnt => 10 | .jde => 11 | .brl => 12 | .fct => 13 | .spn => 14
  | .agt => 15 | .zrc => 16 | .span => 17

/-- The block's own sticky CFG_ERR, where it has one; `d` picks the queue pair, channel or port. -/
def Blk.cfgErr : Blk → Option Fld
  | .gbl | .qtz | .tpz | .lps => none
  | .pdt | .win => some PDT_STATUS.CFG_ERR
  | .qp => some QP_STATUS.CFG_ERR
  | .opl => some OPL_STATUS.CFG_ERR
  | .mode => some MODE_STATUS.CFG_ERR
  | .amb => some AMB_STATUS.CFG_ERR
  | .jsp => some JSP_STATUS.CFG_ERR
  | .gnt => some GNT_STATUS.CFG_ERR
  | .jde => some JDE_STATUS.CFG_ERR
  | .brl => some BRL_STATUS.CFG_ERR
  | .fct => some FCT_STATUS.CFG_ERR
  | .spn => some SPN_STATUS.CFG_ERR
  | .agt => some AGT_STATUS.CFG_ERR
  | .zrc => some ZRC_STATUS.CFG_ERR
  | .span => some SPAN_STATUS.CFG_ERR

/-- The dropped write is reported: the block's CFG_ERR and its bit of GBL_ERR_SUMMARY (R6). -/
def State.cfgErr (s : State) (b : Blk) (d : Nat := 0) : State :=
  let s := match b.cfgErr with
    | none => s
    | some F => s.setReg F d 1
  let m := s.reg GBL_ERR_SUMMARY.CFG_ERR
  s.setReg GBL_ERR_SUMMARY.CFG_ERR 0 (if bit m b.bitNo then m else m + 2 ^ b.bitNo)

/-- A dropped write to a sensor port's own registers: the port's CFG_ERR as well. -/
def State.portCfgErr (s : State) (p : Nat) : State :=
  (s.cfgErr .gnt).setReg GNT_P_STATUS.CFG_ERR (portD p) 1

/-! ## Facets and their tiles -/

/-- A facet as it is with nothing listed for it. -/
def facetReset : Facet := ⟨none, none, none⟩
def State.facet (s : State) (f : Nat) : Facet := SMap.get s.facets f facetReset
def State.setFacet (s : State) (f : Nat) (v : Facet) : State :=
  { s with facets := SMap.put s.facets f v facetReset }

/-- Tiles that are abandoned leave the list and the facets (Table 11-10). -/
def State.dropTiles (s : State) (p : Tile → Bool) : State :=
  let keep (o : Option Tile) : Option Tile := o.filter fun t => !p t
  { s with workList := s.workList.filter fun t => !p t,
           facets := (s.facets.map fun (e : Nat × Facet) =>
             (e.1, { e.2 with cur := keep e.2.cur, next := keep e.2.next })).filter fun e => e.2 != facetReset }

/-- An operation's tiles and their results so far are gone. -/
def State.forgetTiles (s : State) (tag : Nat) : State :=
  { (s.dropTiles fun t => t.tag == tag) with
      runs := SMap.del s.runs tag, rlzRows := s.rlzRows.filter fun e => e.1 / 2 ^ 48 != tag }

/-! ## Self-tests under way -/

/-- The unit that a self-test of a scope and index on module `m` tests. -/
def testCode (scope index m : Nat) : Nat := scope + 8 * index + 4096 * m

/-- The self-test under `tag` has ended. -/
def State.untest (s : State) (tag : Nat) : State :=
  { s with amber := { s.amber with tests := s.amber.tests.filter fun (x : Nat × Nat) => x.2 != tag } }

/-- SELFTEST_FAIL (R379). -/
def State.testFail (s : State) (scope index m : Nat) (cal : Bool) : State :=
  s.pfEvent 0x0901 (some (scope + (if cal then 128 else 0) + 256 * index + 65536 * m))

/-! ## Status codes (Table 6-4a) -/

def OK : Nat := 0x0000
def OK_WITH_DROPS : Nat := 0x0001
def OK_TRUNCATED : Nat := 0x0002
def ABORT_FLUSH : Nat := 0x0100
def ABORT_RESET : Nat := 0x0101
def ABORT_DEADLOCK : Nat := 0x0102
def ABORT_FENCE_ERROR : Nat := 0x0103
def ERR_DESCRIPTOR : Nat := 0x0200
def ERR_OPCODE : Nat := 0x0201
def ERR_ACCESS : Nat := 0x0202
def ERR_MODE : Nat := 0x0203
def ERR_POISON : Nat := 0x0300
def ERR_POOL_EXHAUSTED : Nat := 0x0301
def ERR_SPAN_LOST : Nat := 0x0302
def ERR_TIMEOUT_HOST : Nat := 0x0303
def ERR_VERSION : Nat := 0x0304

/-! ## Operations -/

/-- No fence: 0xFFFF in a fence field (Table 6-3). -/
def noFence : Nat := 0xFFFF

def State.op? (s : State) (tag : Nat) : Option Op := SMap.get? s.ops tag
def State.setOp (s : State) (tag : Nat) (o : Op) : State := { s with ops := SMap.ins s.ops tag o }

/-- The member of its chain that an operation is at. -/
def Op.sqe? (o : Op) : Option Sqe := o.members[o.idx]?

/-- The member that an operation is at, changed. -/
def Op.mapSqe (o : Op) (f : Sqe → Sqe) : Op := { o with members := o.members.modify o.idx f }

/-- The operation's outcome: its completion is then due (OPERATION_COMPLETE). -/
def State.finish (s : State) (tag status : Nat) (result detail : Option Nat := none) : State :=
  match s.op? tag with
  | none => s
  | some o => s.setOp tag { o with phase := .done status result detail }

/-- Operations held for `why` with arguments `args` all end. -/
def State.finishHeld (s : State) (why : Nat) (args : List Nat) (status : Nat) (result detail : Option Nat := none) :
    State :=
  { s with ops := s.ops.map fun (e : Nat × Op) =>
      if e.2.phase == .held why args then (e.1, { e.2 with phase := .done status result detail }) else e }

/-- Some operation is held for `why` with arguments `args`. -/
def State.anyHeld (s : State) (why : Nat) (args : List Nat) : Bool :=
  s.ops.any fun e => e.2.phase == .held why args

/-- An operation is held for a calibration of scope (first argument) and index (R377), for the end of a cable
test of a port (R376), or for the training that ends a lane test of a Span port, with the test's RESULT and DETAIL. -/
def heldCal : Nat := 9
def heldCable : Nat := 10
def heldLanes : Nat := 11

/-- The SELFTESTs of Span port `p`'s lanes end: with the result of the check when the link has trained again, else
with ERR_SPAN_LOST, unless no lane was left to train (Table 16-5). -/
def State.endLaneTests (s : State) (p : Nat) (up : Bool) : State :=
  let ended (o : Op) : Option Op := match o.phase with
    | .held w [q, bad, result, detail] =>
      if w == heldLanes && q == p then
        some { o with phase := if up || bad == 1 then .done OK (some result) (some detail)
                     else .done ERR_SPAN_LOST none none }
      else none
    | _ => none
  let tags := (s.ops.filter fun (e : Nat × Op) => (ended e.2).isSome).map (·.1)
  tags.foldl (fun t g => t.untest g)
    { s with ops := s.ops.map fun (e : Nat × Op) => (e.1, (ended e.2).getD e.2) }

/-- The outcome of an entry that signals nothing: a failed check of Table 6-3 (R161). -/
def State.finishMute (s : State) (tag status : Nat) : State :=
  match s.op? tag with
  | none => s
  | some o => s.setOp tag
      { (o.mapSqe fun e => { e with signalFence := noFence }) with phase := .done status none none }

/-- A waiting operation at a fence with value and error as given: R162 and R163. -/
def wake? (f : Nat) (v : Fence) (o : Op) : Op :=
  match o.phase, o.sqe? with
  | .waiting, some e =>
    if e.waitFence != f then o
    else if v.error && !e.ignoreErr then { o with phase := .done ABORT_FENCE_ERROR (some f) none }
    else if v.value ≥ e.waitValue then { o with phase := .started, startValue := v.value }
    else o
  | _, _ => o

/-- Opal sets a fence and re-evaluates the waits on it (R162, R163). -/
def State.fenceSet (s : State) (f : Nat) (v : Fence) : State :=
  let s := s.setFence f v
  { s with ops := s.ops.map fun e => (e.1, wake? f v e.2) }

/-- A signal to fence `f` (R160): the larger value, ERROR with the flag, a regress counted. -/
def State.signal (s : State) (f v : Nat) (err : Bool) : State :=
  let old := s.fence f
  let s := if v < old.value then s.count OPL_REGRESS_CNT.COUNT else s
  s.fenceSet f ⟨max old.value v, old.error || err⟩

/-- ERROR set on a fence, its value unchanged (R163). -/
def State.fenceErr (s : State) (f : Nat) : State :=
  s.fenceSet f { s.fence f with error := true }

/-- ERROR cleared; nobody is released (R164). -/
def State.fenceClear (s : State) (f : Nat) : State :=
  s.setFence f { s.fence f with error := false }

/-- The fences of instance `n` (R133). -/
def State.ownsFence (s : State) (n f : Nat) : Bool :=
  let b := s.reg PDT_INST0.FENCE_BASE (8 * n)
  b ≤ f && f < b + s.reg PDT_INST0.FENCE_COUNT (8 * n)

/-- The queue pair's own priority: 0 and 1 are taken as 2 (Table 6-12). -/
def State.qpPrio (s : State) (q : Nat) : Nat := max 2 (s.reg QP_CTRL.PRIO (qpD q))

/-- SELFTEST and TABLE_MIGRATE run at P7 (Table 7-1). -/
def background (opcode : Nat) : Bool := opcode == 0x0020 || opcode == 0x0404

/-- The effective priority of an operation (R136, R166): the lower, that is the higher number. -/
def State.effPrio (s : State) (o : Op) : Nat :=
  match o.sqe? with
  | some e => if background e.opcode then 7 else if e.prio = 0 then s.qpPrio o.qp else max e.prio (s.qpPrio o.qp)
  | none => s.qpPrio o.qp

/-- Port `p` as an unlisted port is. -/
def portReset : Port :=
  ⟨false, 0, 0, 0, 0, 0, false, 0, false, 0, 0, 0, 0, 0, 0, 0xFF, false, false, false, false, 0, 0, 0,
   none, 0, none, [], 0, 0, 0, [], 0, false⟩

def State.port (s : State) (p : Nat) : Port := SMap.get s.ports p portReset
def State.setPort (s : State) (p : Nat) (v : Port) : State :=
  { s with ports := SMap.put s.ports p v portReset }

end Sys2Proof.Machine
end

