-- ==== Sys2Proof/Machine/Operands.lean ====
section
/-!
DEFINITION. The operand forms of the commands: submission entries and their checks (Table 6-3), the
operator fields, the opcode table with its issuers and functions (Table 17-2), doorbell entries, and
how an operation is dispatched, begun and completed.
-/
namespace Sys2Proof.Machine

/-! ## Submission entries -/

/-- The fields of a submission entry's 64 bytes (Table 6-3). -/
def parseSqe (b : Bytes) : Sqe :=
  let f := fieldLE b 2 1
  { opcode := fieldLE b 0 2, chain := bit f 0, ignoreErr := bit f 1, intr := bit f 2,
    modeOvr := bit f 3, prio := bits (fieldLE b 3 1) 0 3, hostTag := fieldLE b 4 4,
    waitFence := fieldLE b 8 2, signalFence := fieldLE b 10 2, waitValue := fieldLE b 16 8,
    signalValue := fieldLE b 24 8, raw := byteSlice b 0 64 }

/-- The opcodes of Table 17-2. -/
def opcodes : List Nat :=
  [0x0001, 0x0002, 0x0003, 0x0010, 0x0011, 0x0020, 0x0021, 0x0030, 0x0101, 0x0102, 0x0103, 0x0104,
   0x0110, 0x0201, 0x0202, 0x0203, 0x0204, 0x0205, 0x0301, 0x0302, 0x0303, 0x0304, 0x0305, 0x0306,
   0x0307, 0x0308, 0x0401, 0x0402, 0x0403, 0x0404, 0x0405, 0x0406, 0x0407, 0x0501, 0x0502, 0x0503,
   0x0504, 0x0601, 0x0602, 0x0603, 0x0701, 0x0702]

/-- The check of a fence field (Table 6-3). -/
def State.fenceCheck (s : State) (inst f : Nat) : Option Nat :=
  if f = noFence then none
  else if f ≥ 16384 then some ERR_DESCRIPTOR
  else if !s.ownsFence inst f then some ERR_ACCESS else none

/-- The module is a span member other than the head (R155). -/
def State.isMember (s : State) : Bool :=
  let st := s.reg SPAN_STATUS.STATE
  st == 3 || st == 4 || st == 5

/-- The checks of a submission entry, in the order of Table 6-3; the first that fails. -/
def State.checkSqe (s : State) (inst : Nat) (e : Sqe) : Option Nat :=
  if s.isMember then some ERR_ACCESS
  else if !opcodes.contains e.opcode then some ERR_OPCODE
  else if fieldLE e.raw 2 1 ≥ 16 then some ERR_DESCRIPTOR
  else if e.prio = 1 || fieldLE e.raw 3 1 ≥ 8 then some ERR_DESCRIPTOR
  else match s.fenceCheck inst e.waitFence with
    | some st => some st
    | none => match s.fenceCheck inst e.signalFence with
      | some st => some st
      | none => if fieldLE e.raw 12 4 != 0 then some ERR_DESCRIPTOR else none

/-- An operator field of `n` bytes at byte `off` of the entry. -/
def Sqe.fld (e : Sqe) (off n : Nat) : Nat := fieldLE e.raw off n

/-- Every byte of the ranges (offset, length) is zero (R380). -/
def Sqe.rsv (e : Sqe) (rs : List (Nat × Nat)) : Bool := rs.all fun r => e.fld r.1 r.2 == 0

/-- The functions that an opcode carries (Table 17-2); TABLE_UPDATE carries F8 in MODE COMMIT only. -/
def functionsOf (e : Sqe) : List Nat :=
  match e.opcode with
  | 0x0103 => [0] | 0x0104 => [2] | 0x0205 => [2] | 0x0201 => [3] | 0x0203 => [4]
  | 0x0301 => [5, 6] | 0x0302 => [5, 6] | 0x0303 => [5, 6]
  | 0x0304 => [6] | 0x0305 => [6] | 0x0306 => [6] | 0x0307 => [6] | 0x0308 => [6]
  | 0x0402 => if e.fld 33 1 = 1 then [8] else []
  | 0x0407 => [9] | 0x0501 => [7]
  | _ => []

/-- The slice fence of a bound port, which Garnet alone signals (R165). -/
def State.isSliceFence (s : State) (f : Nat) : Bool :=
  s.ports.any fun p => p.2.bound && p.2.fence == f

/-- A signal from a source other than Garnet: without effect on a slice fence (R165). -/
def State.signalBy (s : State) (f v : Nat) (err : Bool) : State :=
  if f = noFence || s.isSliceFence f then s else s.signal f v err

/-! ## Dispatch -/

/-- How a dispatched member begins: a failed check ends it, a wait fence holds it or aborts it
(R135, R162, R163). -/
def State.dispatchPhase (s : State) (inst : Nat) (e : Sqe) : Sqe × OpPhase :=
  match s.checkSqe inst e with
  | some st => ({ e with signalFence := noFence }, .done st none none)
  | none =>
    if e.waitFence = noFence then (e, .started)
    else
      let v := s.fence e.waitFence
      if v.error && !e.ignoreErr then (e, .done ABORT_FENCE_ERROR (some e.waitFence) none)
      else if v.value ≥ e.waitValue then (e, .started) else (e, .waiting)

/-- The member that an operation is at is dispatched. -/
def State.dispatch (s : State) (o : Op) : Op :=
  match o.sqe? with
  | none => o
  | some e =>
    let r := s.dispatchPhase o.inst e
    { (o.mapSqe fun _ => r.1) with
        phase := r.2, since := s.ticks, walkAt := s.ticks, stale := false, reply := none, prog := [],
        startValue := if e.waitFence = noFence then 0 else (s.fence e.waitFence).value }

/-! ## Modes (R179 to R184) -/

/-- F n is host-assisted for this operation: the mode in force, inverted by MODE_OVR (R184). -/
def State.assisted (s : State) (e : Sqe) (n : Nat) : Bool :=
  xor (s.regB MODE_F.MODE (4 * n)) e.modeOvr

/-- The handler in force of F n. -/
def State.handler (s : State) (n : Nat) : Nat := s.reg MODE_F.HANDLER (4 * n)

/-- The F0 mode and handler of the slice that an entry names: those in force at its close, or now where the slice
has not closed; the mode is inverted by MODE_OVR (R181, R184). -/
def State.sliceMode (s : State) (e : Sqe) : Bool × Nat :=
  match SMap.get? (s.port (e.fld 32 1)).sliceModes (e.fld 40 8) with
  | some v => (xor (bit (v - 1) 0) e.modeOvr, (v - 1) / 2)
  | none => (s.assisted e 0, s.handler 0)

/-- The mode and handler that an item of F n opened now would have: a staged value comes into force at its opening
(R182), and F0's item is a slice, which opened at its close. -/
def State.itemMode (s : State) (e : Sqe) (n : Nat) : Bool × Nat :=
  if n = 0 then s.sliceMode e
  else
    let t := (s.applyStaged MODE_F.MODE (4 * n)).applyStaged MODE_F.HANDLER (4 * n)
    (t.assisted e n, t.handler n)

/-- MODE_OVR is refused (R184): no function, or an inverted mode with no enabled handler. -/
def State.ovrBad (s : State) (e : Sqe) : Bool :=
  e.modeOvr && ((functionsOf e).isEmpty ||
    (functionsOf e).any fun n => (s.itemMode e n).1 && !s.regB HO_CTRL.EN (winD (s.itemMode e n).2))

/-- MODE_OVR is judged as an item begins; an operation that has been handed off or has begun keeps the mode that it
began with (R181, R184, R188, R201). -/
def State.ovrRefused (s : State) (o : Op) (e : Sqe) : Bool := o.reply.isNone && o.prog.isEmpty && s.ovrBad e

/-! ## Running an operator -/

/-- Any port is bound. -/
def State.anyBound (s : State) : Bool := s.ports.any fun p => p.2.bound

/-- An operator with traffic to package memory beyond slice and pose writes. -/
def memOpcode (opcode : Nat) : Bool := 0x0103 ≤ opcode && opcode != 0x0701

/-- Traffic above ingest load waits for a Zircon channel's charge (R398). An operator waits for every channel that
has asked for it (DEDUCED, log entry 140). -/
def State.memWaits (s : State) : Bool :=
  s.anyBound && s.topaz.queue.any fun r => match r.item with | .zirconExtra _ => true | _ => false

/-- An operator command runs: the operation under `tag` has been dispatched with this opcode. The
checks follow R382: the issuer, the operator's fields, MODE_OVR; then `k` gives the effect. A command
for which no such operation stands cannot arise, and changes nothing. -/
def State.runOp (s : State) (tag opcode : Nat) (issuer : Op → Sqe → Bool)
    (fields : Op → Sqe → Option Nat) (k : Op → Sqe → State) : State :=
  match s.op? tag with
  | none => s
  | some o => match o.sqe? with
    | none => s
    | some e =>
      if s.running && o.phase == .started && !o.stopped && e.opcode == opcode && !(memOpcode opcode && s.memWaits) then
        if !issuer o e then s.finish tag ERR_ACCESS
        else match fields o e with
          | some st => s.finish tag st
          | none => if s.ovrRefused o e then s.finish tag ERR_MODE else k o e
      else s

/-- Any instance may issue it. -/
def anyone (_ : Op) (_ : Sqe) : Bool := true
/-- Only PF 0 may issue it. -/
def pf0 (o : Op) (_ : Sqe) : Bool := o.inst == 0

/-- A field check as a status. -/
def orDescriptor (ok : Bool) : Option Nat := if ok then none else some ERR_DESCRIPTOR

/-! ## Completion -/

/-- Entries in a ring of a queue pair (R153). -/
def ringSize (log : Nat) : Nat := 2 ^ log2In 4 16 log

def State.sqSize (s : State) (q : Nat) : Nat := ringSize (s.reg QP_SIZES.SQ_LOG2 (qpD q))
def State.cqSize (s : State) (q : Nat) : Nat := ringSize (s.reg QP_SIZES.CQ_LOG2 (qpD q))

/-- The instance that owns a queue pair. -/
def State.qpInst (s : State) (q : Nat) : Nat := s.reg QP_CTRL.INSTANCE (qpD q)

/-- The operations that hold tags of a queue pair. -/
def State.inflight (s : State) (q : Nat) : Nat := (s.ops.filter fun e => e.2.qp == q).length

/-- A queue pair's ring fault (R154): fetching stops, and QP_FAULT is raised. -/
def State.qpFault (s : State) (q detail : Nat) : State :=
  (s.setReg QP_STATUS.STATE (qpD q) 3).event (s.qpInst q) { code := 0x0A30, detail := some detail, qp := q }

/-- The message of a queue pair's vector (R148). -/
def State.qpMessage (s : State) (q : Nat) : State :=
  let n := s.qpInst q
  (s.setQp q { s.qp q with intrCount := 0 }).sendMsix n (vecOf n (s.reg QP_VEC.VEC (qpD q)))

/-- The interrupt of a written completion (R148). -/
def State.cqInterrupt (s : State) (q status : Nat) (intr : Bool) : State :=
  if status ≥ 0x0100 then s.qpMessage q
  else if intr then
    let c := (s.qp q).intrCount + 1
    let s := s.setQp q { s.qp q with intrCount := c }
    if c ≥ max 1 (s.reg QP_COAL.COUNT (qpD q)) then s.qpMessage q else s
  else s

/-- The 16 bytes of a completion entry (Table 6-4). -/
def cqeBytes (hostTag status q inst result detail phase : Nat) : Bytes :=
  leBytes 4 hostTag ++ leBytes 2 status ++ leBytes 1 q ++ leBytes 1 inst ++ leBytes 4 result
    ++ leBytes 2 detail ++ leBytes 1 phase ++ [0]

/-- One completion entry (R139, R141, R148). One that cannot be delivered is dropped and counted
(R158); an error on the write faults the queue pair and the entry is lost (R154). -/
def State.writeCqe (s : State) (q hostTag status result detail : Nat) (intr ok : Bool) : State :=
  let n := s.qpInst q
  let d := qpD q
  if s.canDma n && s.reg QP_STATUS.STATE d != 3 then
    if ok then
      let t := s.reg QP_CQ_TAIL.TAIL d
      let phase := if t / s.cqSize q % 2 = 0 then 1 else 0
      let base := s.reg64 QP_CQ_BASE_LO.ADDR QP_CQ_BASE_HI.ADDR d / 4096 * 4096
      let s := s.emit (.dma n (base + 16 * (t % s.cqSize q))
        (cqeBytes hostTag status q n result detail phase) [])
      let s := s.setReg QP_CQ_TAIL.TAIL d (t + 1)
      (s.setInst n { s.inst n with sbDirty := true }).cqInterrupt q status intr
    else s.qpFault q 3
  else s.count PDT_CQE_DROP_CNT.COUNT

/-- The signal of a completed member (R161), governed by R157 under an instance reset. -/
def State.signalDone (s : State) (o : Op) (status : Nat) : State :=
  match o.sqe? with
  | none => s
  | some e =>
    if s.regB INST_STATUS.RESET_BUSY (winD o.inst) then s
    else s.signalBy e.signalFence e.signalValue (status ≥ 0x0100)

/-- Completions written and not consumed (R147). -/
def State.cqUsed (s : State) (q : Nat) : Nat :=
  wrapDist 32 (s.reg QP_CQ_TAIL.TAIL (qpD q)) (s.reg INST_CQ_HEAD.HEAD (winD (s.qpInst q) + 4 * q))

/-- The completion ring of queue pair `q` has room for one more entry than the operations in flight will write
(R147). -/
def State.cqRoom (s : State) (q : Nat) : Bool := s.inflight q + s.cqUsed q < s.cqSize q

/-- The ABORT_FLUSH completions of entries that a flush found unfetched are written as the completion ring has room
(R147, R156); one that cannot be delivered is dropped at once (R158). -/
def State.drainAborts (s : State) (q : Nat) : List (Nat × Bool × Bool) → State
  | [] => s.setQp q { s.qp q with aborts := [] }
  | a :: rest =>
    if s.cqRoom q || !s.canDma (s.qpInst q) || s.reg QP_STATUS.STATE (qpD q) == 3 then
      let r := s.orFree none
      let d := r.2.orFree (if a.2.1 then some 0 else none)
      (d.2.writeCqe q a.1 ABORT_FLUSH r.1 d.1 a.2.2 true).drainAborts q rest
    else s.setQp q { s.qp q with aborts := a :: rest }

/-- The signals that ended operations under `tags` owe their fences: fence, value, error (R161, R165). -/
def State.owedSignals (s : State) (tags : List Nat) : List (Nat × Nat × Bool) :=
  tags.filterMap fun tag => match s.op? tag with
    | none => none
    | some o => match o.phase, o.sqe? with
      | .done st _ _, some e =>
        if e.signalFence = noFence || s.isSliceFence e.signalFence || s.regB INST_STATUS.RESET_BUSY (winD o.inst) then none
        else some (e.signalFence, e.signalValue, decide (st ≥ 0x0100))
      | _, _ => none

/-- Updates that reach Opal in one NCLK cycle (R173, Table 7-4): waiters see the end of the cycle, so errors take
effect before values, and the values in ascending order. -/
def State.sameCycle (s : State) (ups : List (Nat × Nat × Bool)) : State :=
  let s := (ups.filter (·.2.2)).foldl (fun t u => t.fenceErr u.1) s
  (sortBy (·.2.1) ups).foldl (fun t u => t.signal u.1 u.2.1 false) s

/-- An entry that signals nothing more. -/
def mute (e : Sqe) : Sqe := { e with signalFence := noFence }

/-- The operations under `tags` have given their signals: their completions signal nothing more. -/
def State.signalled (s : State) (tags : List Nat) : State :=
  tags.foldl (fun t tag => match t.op? tag with
    | some o => (match o.phase with | .done _ _ _ => t.setOp tag (o.mapSqe mute) | _ => t)
    | none => t) s

/-- The ended operations under `tags` signal their fences in one NCLK cycle, `own` being another signal in it. -/
def State.signalTogether (s : State) (tags : List Nat) (own : List (Nat × Nat × Bool)) : State :=
  (s.sameCycle (own ++ s.owedSignals tags)).signalled tags

/-- After a tag of queue pair `q` is freed or its completion ring has new room: a draining queue pair with no tags is disabled (Table
6-14), and a flush ends with its last ABORT_FLUSH completion (R156). -/
def State.settleQp (s : State) (q : Nat) : State :=
  let s := s.drainAborts q (s.qp q).aborts
  let mine := s.ops.filter fun e => e.2.qp == q
  let s := if s.reg QP_STATUS.STATE (qpD q) == 2 && mine.isEmpty
    then s.setReg QP_STATUS.STATE (qpD q) 0 else s
  let flushing := mine.any fun e => e.2.cut || match e.2.phase with
    | .done st _ _ => st == ABORT_FLUSH
    | _ => false
  if flushing || !(s.qp q).aborts.isEmpty || (s.qp q).flushRead.isSome then s
  else s.setReg QP_STATUS.FLUSH_BUSY (qpD q) 0

/-- The operation leaves with its completion entry and its tag is freed (R139, R146). -/
def State.retire (s : State) (tag : Nat) (o : Op) (status : Nat) (result detail : Option Nat)
    (ok : Bool) : State :=
  let hostTag := match o.members.head? with | some e => e.hostTag | none => 0
  let r := s.orFree result
  let d := r.2.orFree detail
  let s := d.2.writeCqe o.qp hostTag status r.1 d.1 (o.members.any (·.intr)) ok
  ({ ((s.forgetTiles tag).untest tag) with ops := SMap.del s.ops tag, tagStall := false }).settleQp o.qp

/-- A member has ended with an outcome: its fence is signalled, then the next member is dispatched or
the operation's one completion is written (R137, R138, R161). -/
def State.complete (s : State) (tag : Nat) (o : Op) (status : Nat) (result detail : Option Nat)
    (ok : Bool) : State :=
  let s := s.signalDone o status
  if o.members.length ≤ 1 then s.retire tag o status result detail ok
  else if status ≥ 0x0100 then s.retire tag o status result (some o.idx) ok
  else
    let worst := max o.worst status
    if o.cut then s.retire tag o ABORT_FLUSH none (some (o.idx + 1)) ok
    else if o.idx + 1 = o.members.length then
      s.retire tag o worst result (some o.members.length) ok
    else s.setOp tag (s.dispatch { o with idx := o.idx + 1, worst := worst })

end Sys2Proof.Machine
end

