-- ==== Sys2Proof/Machine/Rings.lean ====
section
/-!
DEFINITION. Peridot's commands: doorbells, fetching, depths, the status block, interrupts, and queue
pairs with their flushes (chapter 6).
-/
namespace Sys2Proof.Machine
open Host (Outcome)

/-- A command's outcome: its effect `t` on all of the state but the queue of commands, which is as it was in `s`. -/
def answer (s t : State) : Outcome State Fault Refusal := .next { t with pending := s.pending }

/-- The outcome of a step that the part takes when `g` holds; otherwise the command cannot arise in
this state, and nothing changes. -/
def stepIf (g : Bool) (t s : State) : Outcome State Fault Refusal := if g then answer s t else .next s

/-- The step of a command that names unit `i` of `n`: a unit the part does not have is a fault. -/
def unitStep (i n : Nat) (g : Bool) (t s : State) : Outcome State Fault Refusal :=
  if i < n then stepIf g t s else .fault .noSuchUnit

/-- All 64 queue pairs, all 16 instances. -/
def allQps : List Nat := List.range 64
def allInsts : List Nat := List.range 16

/-- A queue pair that fetches: enabled and not faulted. -/
def State.qpLive (s : State) (q : Nat) : Bool := s.reg QP_STATUS.STATE (qpD q) == 1

/-! ## The status block (Table 6-6, R143) -/

/-- The SLEEP_HINT word: the depth, and a bound in µs on the next doorbell poll. -/
def State.sleepHint (s : State) : Nat :=
  let dep := s.reg QTZ_STATUS.DEPTH
  let p := s.reg PDT_IDLE_POLL.POLL_US
  let us := if dep = 0 then 1 else if dep = 1 then (if p = 0 then 50 else min p 200) else 500
  dep + 2 ^ 16 * us

/-- One update of an instance's status block, SEQ written last. -/
def State.writeSb (s : State) (n : Nat) : State :=
  let i := s.inst n
  let own (F : Fld) : Bytes :=
    allQps.flatMap fun q => leBytes 4 (if s.qpInst q == n then s.reg F (qpD q) else 0)
  let base := s.reg64 INST_SB_BASE_LO.ADDR INST_SB_BASE_HI.ADDR (winD n) / 4096 * 4096
  let seq := (i.sbSeq + 1) % 2 ^ 32
  let s := s.emit (.dma n base
    (own QP_SQ_HEAD.HEAD ++ own QP_CQ_TAIL.TAIL ++ leBytes 4 s.sleepHint ++ leBytes 4 0
      ++ leBytes 8 s.dtimeNow) [])
  let s := s.emit (.dma n (base + 0x214) (leBytes 4 i.evtTail) [])
  (s.emit (.dma n (base + 0x210) (leBytes 4 seq) [])).setInst n
    { i with sbSeq := seq, sbTick := s.ticks, sbDirty := false }

/-- A changed status block is updated, at most once per 1 µs, which is 4 QCLK ticks (R143). -/
def State.flushSb (s : State) (n : Nat) : State :=
  let i := s.inst n
  if i.sbDirty && (i.sbSeq == 0 || i.sbTick + 4 ≤ s.ticks) && s.canDma n
      && s.regB INST_CTRL.EN (winD n) then s.writeSb n else s

/-- Every changed status block. -/
def State.flushAllSb (s : State) : State := allInsts.foldl State.flushSb s

/-- Peridot's domains, and in Active the link and its domains, follow the depth (Table 6-7): ON and L0 in Active, IDLE
in Idle unless a floor keeps them ON; in Deep they may be powered down. -/
def State.depthDomains (s : State) (dep : Nat) : State :=
  match dep with
  | 0 =>
    let s := (s.rouse 234).rouse 235
    if s.pcie.aspm = 0 then s
    else ((({ s with pcie := { s.pcie with aspm := 0 } } : State).rouse 228).rouse 229)
  | 1 => [234, 235].foldl (fun t n =>
      let d := t.dom n
      if d.st == .on && d.phase == .none && t.reg QTZ_DOM.FLOOR (domD n) < 3 then t.setDom n { d with st := .idle } else t) s
  | _ => s

/-- A change of depth (R144): each enabled instance's status block is updated before it. -/
def State.setDepth (s : State) (dep : Nat) : State :=
  let s := s.setReg QTZ_STATUS.DEPTH 0 dep
  (allInsts.foldl (fun t n => if t.canDma n && t.regB INST_CTRL.EN (winD n) then t.writeSb n else t) s).depthDomains dep

/-- Peridot is in the Active depth (Table 6-7). -/
def State.wakePeridot (s : State) : State := if s.reg QTZ_STATUS.DEPTH = 0 then s else s.setDepth 0

/-! ## Polling and doorbells -/

/-- An instance that a poll reads: it has an enabled queue pair (R144). -/
def State.polled (s : State) (n : Nat) : Bool :=
  s.canDma n && allQps.any fun q => s.qpLive q && s.qpInst q == n

/-- The address of an instance's doorbell block. -/
def State.dbBase (s : State) (n : Nat) : Nat :=
  s.reg64 INST_DB_BASE_LO.ADDR INST_DB_BASE_HI.ADDR (winD n) / 512 * 512

/-- The doorbell read of one instance. -/
def State.pollInst (s : State) (n : Nat) : State := s.emit (.hostRead n (s.dbBase n) 512)

/-- One poll: the doorbell block of every instance with an enabled queue pair (R144). -/
def State.pollAll (s : State) : State :=
  allInsts.foldl (fun t n => if t.polled n then t.pollInst n else t) s

/-- DOORBELL_POLL (R144). -/
def execDoorbellPoll (s : State) : Outcome State Fault Refusal := stepIf s.running s.pollAll s

/-- Tags that instance `n` holds, and its reserve. -/
def State.tagsOf (s : State) (n : Nat) : Nat := (s.ops.filter fun e => e.2.inst == n).length
def State.reserveOf (s : State) (n : Nat) : Nat := s.reg PDT_INST1.TAG_RESERVE (8 * n)

/-- A tag can be given to instance `n` (R146): one is free, and while fewer are free than the unused
reserves together, only to an instance below its reserve. -/
def State.tagFor (s : State) (n : Nat) : Bool :=
  let free := 32768 - s.ops.length
  let unused := (allInsts.map fun i => s.reserveOf i - s.tagsOf i).sum
  free > 0 && (free ≥ unused || s.tagsOf n < s.reserveOf n)

/-- Entries of a queue pair that a doorbell covers and Peridot has not fetched. -/
def State.backlog (s : State) (q : Nat) : Nat :=
  let h := s.reg QP_SQ_HEAD.HEAD (qpD q)
  if laterThan 32 (s.qp q).tail h then wrapDist 32 (s.qp q).tail h else 0

/-- The queue pair may fetch now but for a tag: enabled, no flush, below its quota, and its completion
ring has room (R146, R147). -/
def State.mayFetch (s : State) (q : Nat) : Bool :=
  s.running && s.linked (s.qpInst q) && s.qpLive q && !s.regB QP_STATUS.FLUSH_BUSY (qpD q)
    && !s.regB INST_STATUS.RESET_BUSY (winD (s.qpInst q)) && s.backlog q > 0
    && s.inflight q < max 1 (s.reg QP_TAG_QUOTA.QUOTA (qpD q))
    && s.cqRoom q

/-- The entry read of a queue pair's next submission, once it may fetch and a tag can be had. -/
def State.issueFetch (s : State) (q : Nat) : State :=
  if s.mayFetch q && s.tagFor (s.qpInst q) then
    let base := s.reg64 QP_SQ_BASE_LO.ADDR QP_SQ_BASE_HI.ADDR (qpD q) / 4096 * 4096
    s.emit (.hostRead (s.qpInst q) (base + 64 * (s.reg QP_SQ_HEAD.HEAD (qpD q) % s.sqSize q)) 64)
  else s

/-- One doorbell entry (Table 6-5): a later TAIL with the current EPOCH is accepted, one beyond the
ring is a ring fault (R142, R154), and new work or URGENT returns Peridot to Active (R144). -/
def State.doorbell (s : State) (n q : Nat) (data : Bytes) : State :=
  if s.qpLive q && s.qpInst q == n && !s.regB QP_STATUS.FLUSH_BUSY (qpD q)
      && fieldLE data (8 * q + 4) 2 == s.reg QP_STATUS.EPOCH (qpD q) then
    let t := fieldLE data (8 * q) 4
    let urgent := bit (fieldLE data (8 * q + 6) 2) 0
    let h := s.reg QP_SQ_HEAD.HEAD (qpD q)
    let s := s.setQp q { s.qp q with urgent := urgent }
    let s := if urgent then s.wakePeridot else s
    if !laterThan 32 t h then s
    else if wrapDist 32 t h > s.sqSize q then s.qpFault q 1
    else (s.setQp q { s.qp q with tail := t }).wakePeridot
  else s

/-- The order of a fetch round: URGENT queue pairs first, in priority order and then by number (Table 6-14); the
others in priority order and then round-robin, the one served longest ago first (R146). -/
def State.fetchOrder (s : State) : List Nat :=
  sortBy (fun q => (if (s.qp q).urgent then 0 else 8) + s.qpPrio q)
    (sortBy (fun q => if (s.qp q).urgent then 0 else (s.qp q).served) allQps)

/-- The queue pairs that would have a tag before `q` in this round. -/
def State.aheadOf (s : State) (q : Nat) : List Nat :=
  (s.fetchOrder.takeWhile (· != q)).filter fun k => s.mayFetch k && s.tagFor (s.qpInst k)

/-- A tag is left for queue pair `q` once those before it have theirs (R146). -/
def State.tagLeft (s : State) (q : Nat) : Bool := s.ops.length + (s.aheadOf q).length < 32768

/-- A stall of fetching with no free tag is counted once (R146). -/
def State.noteStall (s : State) : State :=
  if !s.tagStall && s.ops.length ≥ 32768 && allQps.any s.mayFetch then
    { (s.count PDT_TAG_STALL_CNT.COUNT) with tagStall := true }
  else s

/-- DOORBELL_READ_COMPLETE (R142): a PCIe error on the read faults every enabled queue pair that the
doorbell block serves (R154). -/
def execDoorbellReadComplete (n : Nat) (data : Bytes) (ok : Bool) (s : State) :
    Outcome State Fault Refusal :=
  let good := (allQps.foldl (fun t q => t.doorbell n q data) s)
  let issued := (good.fetchOrder.foldl State.issueFetch good).noteStall
  let bad := allQps.foldl (fun t q => if t.qpLive q && t.qpInst q == n then t.qpFault q 2 else t) s
  unitStep n 16 (s.running && s.linked n) ((if ok then issued else bad).flushSb n) s

/-! ## Fetching (R135, R137, R146) -/

/-- The entries are one single entry or one whole chain. -/
def wholeChain : List Sqe → Bool
  | [] => false
  | [e] => !e.chain
  | e :: es => e.chain && wholeChain es

/-- A fetched entry or chain takes its tag and is dispatched; more than 64 entries run nothing. -/
def State.takeEntries (s : State) (q tag : Nat) (es : List Sqe) : State :=
  let n := s.qpInst q
  let s := s.setReg QP_SQ_HEAD.HEAD (qpD q) (s.reg QP_SQ_HEAD.HEAD (qpD q) + es.length)
  let s := s.count PDT_FETCH_CNT.COUNT 0 es.length
  let s := s.setInst n { s.inst n with sbDirty := true }
  let o : Op := { qp := q, inst := n, members := es, idx := 0, worst := 0, phase := .started,
                  seq := s.opSeq, since := s.ticks, walkAt := s.ticks, stale := false, stopped := false, reply := none,
                  cut := false, startValue := 0, prog := [] }
  let o := if es.length > 64 then
      { o with members := (es.take 1).map fun e => { e with signalFence := noFence },
               phase := .done ERR_DESCRIPTOR none none }
    else s.dispatch o
  let s := s.setQp q { s.qp q with served := s.opSeq + 1 }
  { (s.setOp tag o) with opSeq := s.opSeq + 1 }

/-- SQE_FETCHED (R135): the environment gives the free tag that Peridot allocates. -/
def execSqeFetched (q tag : Nat) (entries : List Bytes) (ok : Bool) (s : State) :
    Outcome State Fault Refusal :=
  let es := entries.map parseSqe
  let g := s.mayFetch q && s.tagFor (s.qpInst q) && s.tagLeft q && (s.op? tag).isNone && tag < 32768
    && wholeChain es && es.length ≤ s.backlog q
  let t := if ok then (s.takeEntries q tag es).noteStall else s.qpFault q 2
  unitStep q 64 g (t.flushSb (s.qpInst q)) s

/-- A doorbell's URGENT flag stands, and keeps Peridot in the Active depth (Table 6-5). -/
def State.urgentStands (s : State) : Bool := allQps.any fun q => s.qpLive q && (s.qp q).urgent

/-- PERIDOT_IDLE (R144). -/
def execPeridotIdle (s : State) : Outcome State Fault Refusal :=
  stepIf (s.running && s.reg QTZ_STATUS.DEPTH == 0 && !s.urgentStands) (s.setDepth 1) s

/-- PERIDOT_DEEP (R144): never with PDT_IDLE_HOLD at 0xFFFF. -/
def execPeridotDeep (s : State) : Outcome State Fault Refusal :=
  stepIf (s.running && s.reg QTZ_STATUS.DEPTH == 1 && s.reg PDT_IDLE_HOLD.MS != 0xFFFF)
    (s.setDepth 2) s

/-- INST_KICK (R145, R132): the owner's write polls its instance and returns Peridot to Active; one
from another instance is dropped. -/
def State.kick (s : State) (by_ n : Nat) : State :=
  if by_ = n then
    let s := s.wakePeridot
    if s.canDma n then s.pollInst n else s
  else s.cfgErr .win

/-- INST_KICK (R145). The queue pair number names what the host has written for; the poll reads the
whole block. -/
def execInstKick (by_ win qp : Nat) (s : State) : Outcome State Fault Refusal :=
  if by_ < 16 ∧ win < 16 ∧ qp < 64 then stepIf (s.running && s.linked by_) (s.kick by_ win) s
  else .fault .noSuchUnit

/-- OPERATION_COMPLETE (R139): the operation under `tag` has ended, and its completion is written. The ended
operations under `same` signal their fences in the same NCLK cycle (R173, Table 7-4). -/
def execOperationComplete (tag : Nat) (cqe : CqeWrite) (s : State) : Outcome State Fault Refusal :=
  match s.op? tag with
  | none => .next s
  | some o => match o.phase with
    | .done status result detail =>
      let t := if cqe.same.isEmpty then s else s.signalTogether (tag :: cqe.same) []
      let o := if cqe.same.isEmpty then o else o.mapSqe mute
      stepIf s.running ((t.complete tag o status result detail cqe.ok).flushSb o.inst) s
    | _ => .next s

/-! ## Interrupts and events -/

/-- INTERRUPT_COALESCE_TIMEOUT (R148). -/
def execInterruptCoalesceTimeout (q : Nat) (s : State) : Outcome State Fault Refusal :=
  unitStep q 64 (s.running && (s.qp q).intrCount != 0 && s.reg QP_COAL.TIME_US (qpD q) != 0)
    (s.qpMessage q) s

/-- The vectors of a function (Table 6-1). -/
def vectors (n : Nat) : Nat := if n = 0 then 128 else 8

/-- A vector is unmasked; a pending one sends its message (R148). -/
def State.unmask (s : State) (n v : Nat) : State :=
  let e := s.msixEntry n v
  let s' := s.setMsix n v { e with masked := false, pending := false }
  if e.pending then s'.emit (.msix n v) else s'

/-- MSIX_UNMASK (R148). -/
def execMsixUnmask (n v : Nat) (s : State) : Outcome State Fault Refusal :=
  if n < 16 ∧ v < vectors n then stepIf (s.power.on && s.linked n) (s.unmask n v) s
  else .fault .noSuchUnit

/-- EVENTS_LOST (R151). -/
def execEventsLost (n : Nat) (s : State) : Outcome State Fault Refusal :=
  unitStep n 16 (s.canDma n && s.regB INST_CTRL.EN (winD n)) (s.putLost n) s

/-! ## Queue pairs -/

/-- QP_CTRL.EN set (R152): head, CQ tail and phase restart. -/
def State.qpEnable (s : State) (q : Nat) : State :=
  if s.regB QP_CTRL.EN (qpD q) then s
  else
    let s := (s.setReg QP_CTRL.EN (qpD q) 1).setReg QP_STATUS.STATE (qpD q) 1
    let s := (s.setReg QP_SQ_HEAD.HEAD (qpD q) 0).setReg QP_CQ_TAIL.TAIL (qpD q) 0
    let s := s.setInst (s.qpInst q) { s.inst (s.qpInst q) with sbDirty := true }
    s.setQp q qpReset

/-- QP_CTRL.EN cleared (Table 6-14): in-flight operations finish first. A faulted queue pair stays so until EN is
set again (R154). -/
def State.qpDisable (s : State) (q : Nat) : State :=
  if s.regB QP_CTRL.EN (qpD q) then
    (s.setReg QP_CTRL.EN (qpD q) 0).setReg QP_STATUS.STATE (qpD q)
      (if s.reg QP_STATUS.STATE (qpD q) = 3 then 3 else if s.inflight q = 0 then 0 else 2)
  else s

/-- QP_ENABLE (R152). -/
def execQpEnable (q : Nat) (s : State) : Outcome State Fault Refusal :=
  unitStep q 64 s.running (s.qpEnable q) s

/-- QP_DISABLE (R152, Table 6-14). -/
def execQpDisable (q : Nat) (s : State) : Outcome State Fault Refusal :=
  unitStep q 64 s.running (s.qpDisable q) s

/-- QP_PRIO_WRITE (R169): the effective priorities are read from QP_CTRL at every round. -/
def execQpPrioWrite (q prio : Nat) (s : State) : Outcome State Fault Refusal :=
  if q < 64 ∧ prio < 8 then stepIf s.running (s.setReg QP_CTRL.PRIO (qpD q) prio) s
  else .fault .noSuchUnit

/-! ## Flushing a queue pair (R156) -/

/-- The fence signal of an aborted entry, with error, when FENCE_ERR asks for it; an entry that fails
its checks signals nothing. -/
def State.flushSignal (s : State) (fenceErr : Bool) (inst : Nat) (e : Sqe) : State :=
  if fenceErr && (s.checkSqe inst e).isNone then s.signalBy e.signalFence e.signalValue true else s

/-- The members that a flush of queue pair `q` cuts from an operation: all from the waiting one on, or
all after the one that has started. -/
def flushCut (q : Nat) (o : Op) : List Sqe :=
  if o.qp != q then []
  else if o.phase == .waiting then o.members.drop o.idx else o.members.drop (o.idx + 1)

/-- A flush reaches one fetched operation: one not started aborts; a chain whose member runs is cut
after it. -/
def flushOp (q : Nat) (o : Op) : Op :=
  let rest := flushCut q o
  let kept := o.members.take (o.members.length - rest.length)
  if rest.isEmpty then o
  else if o.phase == .waiting then
    { o with members := kept ++ rest.map mute, phase := .done ABORT_FLUSH none none }
  else { o with members := kept ++ rest.map mute, cut := true }

/-- Unfetched entries in groups: single entries and the published members of chains. -/
def chainGroups : List Sqe → List (List Sqe)
  | [] => []
  | e :: es => match chainGroups es with
    | [] => [[e]]
    | g :: gs => if e.chain then (e :: g) :: gs else [e] :: g :: gs

/-- One ABORT_FLUSH completion for a group of unfetched entries, which its queue pair then owes. -/
def State.flushGroup (s : State) (q : Nat) (fenceErr : Bool) (g : List Sqe) : State :=
  match g with
  | [] => s
  | e :: _ =>
    let s := g.foldl (fun t e => t.flushSignal fenceErr (t.qpInst q) e) s
    s.setQp q { s.qp q with aborts := (s.qp q).aborts ++ [(e.hostTag, g.length > 1 || e.chain, g.any (·.intr))] }

/-- A flush begins (R156): fetching stops, the epoch goes on, fetched operations that have not started abort, chains
are cut, and the doorbell entry is read. -/
def State.flushStart (s : State) (q : Nat) (fenceErr : Bool) : State :=
  let s := s.setReg QP_STATUS.EPOCH (qpD q) (s.reg QP_STATUS.EPOCH (qpD q) + 1)
  let s := s.setReg QP_STATUS.FLUSH_BUSY (qpD q) 1
  let cut := (sortBy (fun e => e.2.seq) s.ops).flatMap fun e => flushCut q e.2
  let s := { s with ops := s.ops.map fun (e : Nat × Op) => (e.1, flushOp q e.2) }
  let s := cut.foldl (fun t e => t.flushSignal fenceErr (t.qpInst q) e) s
  let s := s.setQp q { s.qp q with flushRead := some fenceErr }
  if s.qpLive q then s.emit (.hostRead (s.qpInst q) (s.dbBase (s.qpInst q) + 8 * q) 8) else s

/-- The doorbell entry of a flush has been read with either epoch: `tail` is its TAIL, `es` the entries up to it, which
complete with ABORT_FLUSH (R156). -/
def State.flushRest (s : State) (q : Nat) (fenceErr : Bool) (tail : Nat) (es : List Sqe) : State :=
  let s := s.setQp q { s.qp q with flushRead := none }
  let s := (chainGroups es).foldl (fun t g => t.flushGroup q fenceErr g) s
  let s := if es.isEmpty then s else s.setReg QP_SQ_HEAD.HEAD (qpD q) tail
  let s := s.setQp q { s.qp q with tail := s.reg QP_SQ_HEAD.HEAD (qpD q) }
  let n := s.qpInst q
  (s.setInst n { s.inst n with sbDirty := true }).settleQp q

/-- QP_FLUSH.GO written through its register (R156, Table 6-12a): the flush begins, and the row QP_FLUSH gives what the
doorbell read finds (DESIGN CHOICE, log entry 38); a queue pair that is not enabled or has faulted has none to read. -/
def State.flushWrite (s : State) (q : Nat) (fenceErr : Bool) : State :=
  if s.regB QP_STATUS.FLUSH_BUSY (qpD q) then s.cfgErr .qp (qpD q)
  else
    let t := s.flushStart q fenceErr
    if s.qpLive q then t else t.flushRest q fenceErr 0 []

/-- The entries that a flush of queue pair `q` finds up to `tail`. A queue pair that is not enabled, or has faulted,
fetches nothing, so its flush reaches only what it has fetched. -/
def State.flushSpan (s : State) (q tail : Nat) : Nat :=
  let h := s.reg QP_SQ_HEAD.HEAD (qpD q)
  if s.qpLive q && laterThan 32 tail h then wrapDist 32 tail h else 0

/-- A flush with what its reads give; a PCIe error on them, or a tail beyond the ring, faults the queue pair (R154). -/
def State.flush (s : State) (q : Nat) (fenceErr : Bool) (tail : Nat) (es : List Sqe) (ok : Bool) : State :=
  let t := match (s.qp q).flushRead with | some _ => s | none => s.flushStart q fenceErr
  let fe := (s.qp q).flushRead.getD fenceErr
  if !ok then (t.flushRest q fe 0 []).qpFault q 2
  else if s.flushSpan q tail > s.sqSize q then (t.flushRest q fe 0 []).qpFault q 1
  else t.flushRest q fe tail es

/-- QP_FLUSH (R156): dropped while a flush of this queue pair is in progress (Table 6-12a), unless it is the one whose
doorbell read is awaited. `ok` says that the reads met no PCIe error. -/
def execQpFlush (q : Nat) (fenceErr : Bool) (read : FlushRead) (entries : List Bytes) (s : State) :
    Outcome State Fault Refusal :=
  let busy := s.regB QP_STATUS.FLUSH_BUSY (qpD q) && (s.qp q).flushRead.isNone
  let n := s.flushSpan q read.tail
  let g := s.running && (busy || !read.ok || n > s.sqSize q || entries.length == n)
  let t := if busy then s.cfgErr .qp (qpD q) else s.flush q fenceErr read.tail (entries.map parseSqe) read.ok
  unitStep q 64 g (t.flushSb (s.qpInst q)) s

end Sys2Proof.Machine
end

