-- ==== Sys2Proof/WellFormed.lean ====
section
/-!
DEFINITION. The well-formed commands: every unit that a command names is one the part has. A command that is not
well-formed names a unit that no TJS-128 has, and a step on it faults.
-/
namespace Sys2Proof

/-- A master that Table 8-6 lists: a host instance, a management core, a span module, or debug. -/
def masterListed (m : Nat) : Bool := m < 0x14 || (0x20 ≤ m && m ≤ 0x23) || m == 0x30

/-- The number of an item's unit and how many units of its kind there are (Tables 3-1 and 4-1). Core 0 is part of
the floor. -/
def Item.unit : Item → Nat × Nat
  | .facet f => (f, 64)
  | .facetMem f => (f, 64)
  | .beryl i => (i, 8)
  | .spinel i => (i, 16)
  | .agate i => (i, 4)
  | .zirconNoPort c => (c, 8)
  | .zirconExtra c => (c, 8)
  | .segPair i => (i, 8)
  | .scrubber c => (c, 8)
  | .spanPort p => (p, 4)
  | .core k => (k, 4)
  | .shelf k => (k, 2)
  | .debug => (0, 1)
  | .pipeline g => (g, 8)
  | .linkUp p => (p, 10)
  | .podl p => (p, 8)

/-- An item that Topaz charges outside the floor. -/
def Item.real : Item → Bool
  | .core k => 1 ≤ k && k ≤ 3
  | i => i.unit.1 < i.unit.2

/-- The number of an arbiter's unit and how many there are (Table 7-2): fabric segments are domains 204 to 219. -/
def Arbiter.unit : Arbiter → Nat × Nat
  | .segment d => (if d < 204 then 220 else d, 220)
  | .pipeline g => (g, 8)
  | .zircon c => (c, 8)
  | .berylLock t => (t, 32)
  | .spanTransmit p => (p, 4)
  | _ => (0, 1)

/-- The number of the operation's tag or the queue pair that asks, and how many there are. -/
def ArbOwner.unit : ArbOwner → Nat × Nat
  | .op tag => (tag, 32768)
  | .qp q => (q, 64)
  | _ => (0, 1)

/-- The vectors of instance `n`'s function (Table 6-1). -/
def vectorCount (n : Nat) : Nat := if n = 0 then 128 else 8

/-- The numbers of the units that a command names, each with how many there are: 16 instances, 20 requesters (the
instances and the management cores), 4 cores, 244 domains, 10 sensor ports, 8 of them with PoDL, 8 channels, 64 queue
pairs, 13 functions, 32 mailbox channels, 32 hash tables, 64 facets, 4 modules and 4 Span ports. -/
def Instr.units : Instr → List (Nat × Nat)
  | .registerWrite n _ _ _ => [(n, 20)]
  | .lowWordRead r _ => [(r, 20)]
  | .coreFault k => [(k, 4)]
  | .configRequest n _ => [(n, 16)]
  | .domainIdle n | .powerDownStart n | .drainComplete n | .powerDownComplete n | .retainHoldExpiry n
  | .wake n _ | .wakeComplete n | .drainTimeout n | .wakeTimeout n | .powerCycleComplete n
  | .domainHintHoldExpiry n _ => [(n, 244)]
  | .floorWrite n v => [(n, 244), (v, 4)]
  | .packetArrival n seg _ => [(n, 244), (204, seg + 1), (seg, 220)]
  | .linkEnergyDetect p | .podlFaultClear p | .portLinkUp p _ | .lldpduReceived p _ | .discoveryTimeout p
  | .lldpTransmit p | .frameReceived p _ _ _ _ | .sliceCloseTimeout p | .sweepStalled p | .poseFrameReceived p _
  | .hotDetach p | .cableTest p | .cableTestDone p _ _ | .portSilent p | .portLinkDown p => [(p, 10)]
  | .podlClassification p _ _ _ | .podlFault p | .podlRetry p => [(p, 8)]
  | .grantRequest _ prio => [(prio, 8)]
  | .zirconChargeRelease c | .ceWriteback c | .scrubBurst c _ | .scrubBehind c | .dramRetraining c _ _ _ => [(c, 8)]
  | .stopOvercurrent o | .testPulse o _ | .testPulseEnd o => [(o, 2)]
  | .spresNChange p _ | .spanLinkTrained p _ | .spanTrainingTimeout p | .spanRetrain p | .spanRetrainTimeout p
  | .nak p _ _ | .hello p _ _ | .helloRsp p _ _ | .join p _ _ | .joinAck p _ _ _ _ _ | .leave p _ | .req p _ _ _ _
  | .rsp p _ _ _ | .ctrl p _ _ | .spanFrameError p | .spanIdleFrame p _ => [(p, 4)]
  | .doorbellReadComplete n _ _ | .eventsLost n | .functionLevelReset n | .instanceResetComplete n
  | .handoffReply n _ _ _ | .handoffTimeout n _ | .handoffDisable n _ | .restartRequest n => [(n, 16)]
  | .sqeFetched q _ _ _ | .interruptCoalesceTimeout q | .qpEnable q | .qpDisable q | .qpFlush q _ _ _ => [(q, 64)]
  | .qpPrioWrite q p => [(q, 64), (p, 8)]
  | .instKick b w q => [(b, 16), (w, 16), (q, 64)]
  | .instanceResetWrite b w => [(b, 16), (w, 16)]
  | .msixUnmask n v => [(n, 16), (v, vectorCount n)]
  | .modeStagedApply n => [(n, 13)]
  | .jspDataWrite _ c w _ => [(c, 32), (w, 16)]
  | .jspGo _ c | .jspRelease _ c | .jspD15Read _ c => [(c, 32)]
  | .brlTableEnable t | .tableZeroingComplete t => [(t, 32)]
  | .tileComplete f _ => [(f, 64)]
  | .hqPush m q _ _ | .hqPop m q => [(2048 * m + q, 8192)]
  | .spanRemove m | .memberLost m | .remoteTimeout _ m => [(m, 4)]
  | .arbiterGrant a r => a.unit :: r.arrived.map fun r => r.owner.unit
  | _ => []

/-- The master or the item that a command names is one that the part has. -/
def Instr.named : Instr → Bool
  | .jspDataWrite m _ _ _ | .jspGo m _ | .jspRelease m _ | .jspD15Read m _ => masterListed m
  | .grantRequest i _ => i.real
  | _ => true

/-- A well-formed command. -/
def Instr.wf (i : Instr) : Bool := i.named && i.units.all fun u => u.1 < u.2

end Sys2Proof
end

