-- ==== Sys2Proof/Machine/Fences.lean ====
section
/-!
DEFINITION. Opal's commands: the arbiters' rounds, the deadlock walk, the fence registers (chapter 7),
and the control operators NOP, FENCE_SIGNAL and FENCE_WAIT (chapter 17).
-/
namespace Sys2Proof.Machine
open Host (Outcome)

/-! ## Arbiters (R24, R166 to R170, R263, R370) -/

/-- An arbiter's place in the state. -/
def arbKey : Arbiter → Nat
  | .segment d => 16 * d
  | .pipeline g => 16 * g + 1
  | .zircon c => 16 * c + 2
  | .workList => 3
  | .berylLock t => 16 * t + 4
  | .spinelCommit => 5
  | .agateCombine => 6
  | .spanTransmit p => 16 * p + 7
  | .peridotFetch => 8
  | .topazQueue => 9

def arbReset : ArbState := ⟨[], []⟩
def State.arb (s : State) (a : Arbiter) : ArbState := SMap.get s.arbs (arbKey a) arbReset

/-- The arbiters whose resource is held until it is released: the locks, the commit slot, the combine slot (R170). -/
def heldArb : Arbiter → Bool
  | .berylLock _ => true
  | .spinelCommit => true
  | .agateCombine => true
  | _ => false

/-- The priority of one who asks (Table 7-1), as it is now (R136, R169). -/
def State.ownPrio (s : State) : ArbOwner → Nat
  | .jade => 0
  | .ingest => 1
  | .dram => 1
  | .firmware => 7
  | .op tag => match s.op? tag with | some o => s.effPrio o | none => 7
  | .qp q => s.qpPrio q

/-- The requests queued for a resource that `w` holds. -/
def State.behind (s : State) (w : ArbOwner) : List ArbOwner :=
  s.arbs.flatMap fun e => if e.2.holders.contains w then e.2.queue.map (·.req.owner) else []

/-- The priority that `w` runs at (R170): its own, or the higher of one that is queued for what it holds, through as
many holders as there are arbiters. -/
def State.runPrio (s : State) : Nat → ArbOwner → Nat
  | 0, w => s.ownPrio w
  | k + 1, w => (s.behind w).foldl (fun p x => min p (s.runPrio k x)) (s.ownPrio w)

/-- The priority at which a request competes in this round. -/
def State.arbPrio (s : State) (r : Waiting) : Nat := s.runPrio s.arbs.length r.req.owner

/-- A request of a queue pair with URGENT set (Table 6-14), and its number. -/
def State.urgentReq (s : State) (r : Waiting) : Option Nat :=
  match r.req.owner with
  | .qp q => if (s.qp q).urgent then some q else none
  | _ => none

/-- Request `a` goes before `b` (R167): an URGENT queue pair first, and among those by number (Table 6-14); then strict
priority, then the older. -/
def State.arbBefore (s : State) (a b : Waiting) : Bool :=
  let ua := s.urgentReq a
  let ub := s.urgentReq b
  if ua.isSome != ub.isSome then ua.isSome
  else if s.arbPrio a != s.arbPrio b then s.arbPrio a < s.arbPrio b
  else match ua, ub with
    | some x, some y => x < y
    | _, _ => a.since < b.since

/-- The request that an arbiter grants: the first in its order. -/
def State.arbPick (s : State) : List Waiting → Option Waiting
  | [] => none
  | r :: rs => match s.arbPick rs with
    | none => some r
    | some b => if s.arbBefore b r then some b else some r

/-- Amber counts the time a granted request waited, at its priority (R370). -/
def State.countWait (s : State) (prio ns : Nat) : State :=
  let s := s.count AMB_WAIT_NS.NS (8 * prio) ns
  let m := s.reg AMB_WAIT_MAX.NS (4 * prio)
  s.setReg AMB_WAIT_MAX.NS (4 * prio) (max m (min ns 0xFFFFFFFF))

/-- One grant. A group that waited for a table's lock is counted (Table 11-13). -/
def State.grantArb (s : State) (a : Arbiter) (prio : Nat) (r : Waiting) : State :=
  let ns := s.uptime - r.since
  let s := (s.emit (.granted a r.req.id)).countWait prio ns
  match a with
  | .berylLock _ => if ns = 0 then s else s.count BRL_LOCK_WAIT_CNT.COUNT
  | _ => s

/-- The requests granted with `r`: a shared grant of a table's lock goes to every shared request ahead of the first
exclusive one (R263). -/
def State.grantedWith (s : State) (a : Arbiter) (queue : List Waiting) (r : Waiting) : List Waiting :=
  match a with
  | .berylLock _ =>
    if r.req.shared then queue.filter fun q => q.req.id != r.req.id && q.req.shared &&
      queue.all fun x => x.req.shared || s.arbBefore q x
    else []
  | _ => []

/-- Who asks is still there: an operation that has gone holds and asks for nothing. -/
def State.arbLive (s : State) : ArbOwner → Bool
  | .op tag => (s.op? tag).isSome
  | _ => true

/-- The arbiter as its round finds it: holders that have released are gone, requests that arrived are queued. -/
def State.arbRound (s : State) (a : Arbiter) (arrived : List ArbReq) (released : List ArbOwner) : ArbState :=
  let c := s.arb a
  let new := arrived.map fun r => (⟨r, s.uptime - r.agoNs⟩ : Waiting)
  ⟨c.holders.filter fun w => s.arbLive w && !released.contains w,
    (c.queue ++ new).filter fun r => s.arbLive r.req.owner⟩

/-- A round of an arbiter: a resource that is held is not taken away; otherwise the first request is granted (R167). -/
def State.arbGrant (s : State) (a : Arbiter) (c : ArbState) : State :=
  let s := { s with arbs := SMap.put s.arbs (arbKey a) c arbReset }
  match s.arbPick c.queue with
  | none => s
  | some r =>
    if !c.holders.isEmpty then s
    else
      let all := r :: s.grantedWith a c.queue r
      let t := all.foldl (fun t q => t.grantArb a (s.arbPrio q) q) s
      let left : ArbState :=
        ⟨if heldArb a then all.map (·.req.owner) else [], c.queue.filter fun q => !all.contains q⟩
      { t with arbs := SMap.put t.arbs (arbKey a) left arbReset }

/-- ARBITER_GRANT (R167): one round of an arbiter, `gclk` GCLK cycles after the last QCLK tick. `arrived` are the
requests that have reached it since its last round, `released` the holders whose non-preemptible unit has ended. -/
def execArbiterGrant (a : Arbiter) (r : ArbRound) (s : State) : Outcome State Fault Refusal :=
  if a.unit.1 < a.unit.2 && r.arrived.all fun x => x.owner.unit.1 < x.owner.unit.2 then
    let u := s.atGclk r.gclk
    stepIf (s.power.on && s.inTick r.gclk) (u.arbGrant a (u.arbRound a r.arrived r.released)) s
  else .fault .noSuchUnit

/-! ## The deadlock walk (R174 to R177) -/

/-- The lowest value at which an operation or chain will still signal fence `f` to `v` or above; a
chain signals through any member from the one under way on (R175). -/
def signalsAt (f v : Nat) (o : Op) : Option Nat :=
  ((o.members.drop o.idx).filter fun e => e.signalFence == f && e.signalValue ≥ v).foldl
    (fun a e => some (match a with | none => e.signalValue | some b => min b e.signalValue)) none

/-- The signallers of a wait (R175): the operations and chains in flight that will satisfy it. A waiting chain signals
through its later members; the member that waits is left out, which R171 lets signal the fence that it waits on
(DEDUCED, log entry 72). -/
def State.signallers (s : State) (self f v : Nat) : List (Nat × Op × Nat) :=
  s.ops.filterMap fun e =>
    (signalsAt f v (if e.1 = self then { e.2 with idx := e.2.idx + 1 } else e.2)).map fun x => (e.1, e.2, x)

/-- The signaller that a walk follows: the lowest signal value, then the earliest fetched. -/
def lowestSignal : List (Nat × Op × Nat) → Option (Nat × Op × Nat)
  | [] => none
  | x :: xs => match lowestSignal xs with
    | none => some x
    | some y => if y.2.2 < x.2.2 || (y.2.2 == x.2.2 && y.2.1.seq < x.2.1.seq) then some y else some x

/-- How a walk ends. -/
inductive WalkEnd where
  | nothing
  | stale (tag : Nat)
  | circle (tags : List Nat)
  | limit
deriving DecidableEq, Repr

/-- A walk from the waiter at the end of `path`, with hops left (R175). -/
def State.walk (s : State) (path : List Nat) (w : Nat) : Nat → WalkEnd
  | 0 => .limit
  | hops + 1 =>
    match (s.op? w).bind fun o => o.sqe? with
    | none => .nothing
    | some e =>
      if s.isSliceFence e.waitFence then .nothing
      else
        let sg := s.signallers w e.waitFence e.waitValue
        match lowestSignal sg with
        | none => .stale w
        | some n =>
          if sg.any fun x => x.2.1.phase != .waiting then .nothing
          else if path.contains n.1 then .circle (path.dropWhile (· != n.1))
          else s.walk (path ++ [n.1]) n.1 hops

/-- The victim of a circle: the lowest effective priority, then the latest fetched (R176). -/
def State.victim (s : State) : List Nat → Option (Nat × Op)
  | [] => none
  | t :: ts => match s.op? t, s.victim ts with
    | none, r => r
    | some o, none => some (t, o)
    | some o, some (u, p) =>
      if s.effPrio p > s.effPrio o || (s.effPrio p == s.effPrio o && p.seq > o.seq) then some (u, p)
      else some (t, o)

/-- DEADLOCK_BROKEN (R176). -/
def State.breakCircle (s : State) (tags : List Nat) : State :=
  match s.victim tags with
  | none => s
  | some (t, o) =>
    let f := match o.sqe? with | some e => e.waitFence | none => 0
    let n := tags.length
    let s := s.finish t ABORT_DEADLOCK (some (f % 2 ^ 16 + 2 ^ 16 * (n % 2 ^ 8)))
      (some (if o.members.length ≤ 1 then 0 else o.idx))
    let s := s.event o.inst { code := 0x0701, detail := some n, arg := f, qp := o.qp, tag := t }
    s.count OPL_DL_CNT.COUNT

/-- The effect of a finished walk that began at operation `o`, tag `tag` (R176, R177). -/
def State.walkEnd (s : State) (tag : Nat) (o : Op) : WalkEnd → State
  | .nothing => s
  | .circle tags => s.breakCircle tags
  | .limit => (s.event o.inst { code := 0x0702, qp := o.qp, tag := tag }).count OPL_DL_LIMIT_CNT.COUNT
  | .stale w => match s.op? w with
    | none => s
    | some p =>
      if s.regB OPL_CTRL.STALE_EVT_EN && !p.stale then
        (s.setOp w { p with stale := true }).event p.inst { code := 0x0703, qp := p.qp, tag := w }
      else s

/-- OPL_DL_AGE in QCLK ticks; 0 is taken as 100 µs (Table 7-6). -/
def State.dlAge (s : State) : Nat :=
  let a := s.reg OPL_DL_AGE.AGE_US
  4 * (if a = 0 then 100 else a)

/-- The wait of an operation has reached OPL_DL_AGE since it began or was last walked. -/
def State.walkDue (s : State) (o : Op) : Bool := o.phase == .waiting && o.walkAt + s.dlAge ≤ s.ticks

/-- The wait of `o` began no later than that of any waiter whose walk is due (R174). -/
def State.walkFirst (s : State) (o : Op) : Bool :=
  s.ops.all fun e => !s.walkDue e.2 || o.since < e.2.since || (o.since == e.2.since && o.seq ≤ e.2.seq)

/-- DEADLOCK_WALK (R174): Opal takes the waiters in order of the time their waits began. -/
def execDeadlockWalk (tag : Nat) (s : State) : Outcome State Fault Refusal :=
  match s.op? tag with
  | none => .next s
  | some o =>
    let s' := s.setOp tag { o with walkAt := s.ticks }
    stepIf (s.running && s.regB OPL_CTRL.DL_EN && s.walkDue o && s.walkFirst o)
      (s'.walkEnd tag o (s'.walk [tag] tag 64)) s

/-! ## The fence registers (R178) -/

/-- A write of OPL_FENCE_CTRL with exactly one action runs it on the selected fence; with more than
one it is dropped (R178). The ended operations under `same` signal their fences in the same NCLK cycle: a clear then
takes effect before their errors (R173, Table 7-4). -/
def State.fenceCtrl (s : State) (val : Nat) (same : List Nat) : State :=
  let f := s.reg OPL_FENCE_SEL.INDEX
  let v := s.reg64 OPL_FENCE_ARG_LO.ARG OPL_FENCE_ARG_HI.ARG
  let n := b2n (bit val 1) + b2n (bit val 2) + b2n (bit val 3)
  let with_ (t : State) : State := if same.isEmpty then t else t.signalTogether same []
  if n > 1 then with_ (s.cfgErr .opl)
  else if bit val 1 then
    (if same.isEmpty then s.signalBy f v false
     else s.signalTogether same (if s.isSliceFence f then [] else [(f, v, false)]))
  else if bit val 2 then with_ (s.fenceErr f)
  else if bit val 3 then with_ (s.fenceClear f)
  else with_ s

/-- OPL_FENCE_SIGNAL (R178): `val` is the word written. -/
def execOplFenceSignal (w : FenceWrite) (s : State) : Outcome State Fault Refusal :=
  stepIf (s.running && bit w.val 1) (s.fenceCtrl w.val w.same) s

/-- OPL_FENCE_SET_ERR (R163, R178). -/
def execOplFenceSetErr (w : FenceWrite) (s : State) : Outcome State Fault Refusal :=
  stepIf (s.running && bit w.val 2) (s.fenceCtrl w.val w.same) s

/-- OPL_FENCE_CLEAR_ERR (R164, R178). -/
def execOplFenceClearErr (w : FenceWrite) (s : State) : Outcome State Fault Refusal :=
  stepIf (s.running && bit w.val 3) (s.fenceCtrl w.val w.same) s

/-! ## Control operators -/

/-- NOP (R383): no operator fields. DETAIL is 0, as in the worked example of Table 6-10 (DEDUCED, log entry 45). -/
def execNop (tag : Nat) (_ : OpIo) (s : State) : Outcome State Fault Refusal :=
  answer s (s.runOp tag 0x0001 anyone (fun _ e => orDescriptor (e.rsv [(32, 32)]))
    fun _ _ => s.finish tag OK (some 0) (some 0))

/-- The operation's own signal has been given: its completion signals nothing more. -/
def State.muteOp (s : State) (tag : Nat) : State :=
  match s.op? tag with
  | none => s
  | some o => s.setOp tag (o.mapSqe mute)

/-- FENCE_SIGNAL acts on its fence in one cycle (R384). -/
def State.fenceSignalOp (s : State) (tag : Nat) (e : Sqe) : State :=
  let f := e.signalFence
  if f = noFence then s.finish tag OK
  else
    let s := if bit (e.fld 32 1) 0 then s.fenceClear f else s
    let s := s.signalBy f e.signalValue (bit (e.fld 32 1) 1)
    (s.muteOp tag).finish tag OK (some ((s.fence f).value % 2 ^ 32))

/-- FENCE_SIGNAL (R384). -/
def execFenceSignal (tag : Nat) (_ : OpIo) (s : State) : Outcome State Fault Refusal :=
  answer s (s.runOp tag 0x0002 anyone
    (fun _ e => orDescriptor (e.fld 32 1 < 3 && e.rsv [(33, 31)]
      && (e.fld 32 1 == 0 || e.signalFence != noFence)))
    fun _ e => s.fenceSignalOp tag e)

/-- FENCE_WAIT (R385): it has started, so its wait is met; RESULT is the fence's value then. -/
def execFenceWait (tag : Nat) (_ : OpIo) (s : State) : Outcome State Fault Refusal :=
  answer s (s.runOp tag 0x0003 anyone (fun _ e => orDescriptor (e.rsv [(32, 32)]))
    fun o _ => s.finish tag OK (some (o.startValue % 2 ^ 32)))

end Sys2Proof.Machine
end

