-- ==== Sys2Proof/Machine/Modes.lean ====
section
/-!
DEFINITION. The modes of F0 to F12 and the handoff rings (chapter 8): opening an item, posting a
request, and what an item's expiry counts. The replies, which resolve items of every block, are in
Machine/Replies.lean.
-/
namespace Sys2Proof.Machine
open Host (Outcome)

/-- Functions F0 to F12. -/
def allFuncs : List Nat := List.range 13

/-- Why an operation is held (`OpPhase.held`): domains to wake, and SET_MODE's function. -/
def heldDomains : Nat := 1
def heldMode : Nat := 2
/-- A wait for a later pose (R233), for a table's zeroing (R262), for facet tiles (R275), for remote
parts by module (R344), for a calibration slot (R377), for readers of an old version (R305). -/
def heldPose : Nat := 3
def heldZeroing : Nat := 4
def heldTiles : Nat := 5
def heldRemote : Nat := 6

/-- RESULT of SET_MODE: the mode in force and its handler (R183). -/
def State.modeResult (s : State) (n : Nat) : Nat :=
  s.reg MODE_F.MODE (4 * n) + 16 * s.reg MODE_F.HANDLER (4 * n)

/-- SET_MODE operations of F n complete once the values are in force and, for F0, no port is left that has to close
a slice first (R183, Table 8-8). -/
def State.modeDone (s : State) (n : Nat) : State :=
  let r := s.modeResult n
  { s with ops := s.ops.map fun e =>
      if e.2.phase == .held heldMode [n] then (e.1, { e.2 with phase := .done OK (some r) none })
      else e }

/-- The boundary of F n: staged values come into force (R181, R182). -/
def State.applyMode (s : State) (n : Nat) : State :=
  ((s.applyStaged MODE_F.MODE (4 * n)).applyStaged MODE_F.HANDLER (4 * n)).modeDone n

/-- A value of F n awaits its boundary. -/
def State.modeStaged (s : State) (n : Nat) : Bool :=
  (SMap.get? s.staged (MODE_F.MODE.key (4 * n))).isSome
    || (SMap.get? s.staged (MODE_F.HANDLER.key (4 * n))).isSome

/-- An item of F n is open: a handoff of it is pending, or an operation that carries it has started. -/
def State.itemOpen (s : State) (n : Nat) : Bool :=
  s.handoffs.any (·.func == n) || (n == 1 && s.ports.any fun e => e.2.discovering) || s.ops.any fun e =>
    match e.2.phase, e.2.sqe? with
    | .waiting, _ => false
    | .done _ _ _, _ => false
    | _, some q => (functionsOf q).contains n
    | _, none => false

/-- MODE_STAGED_APPLY (R182): no item of F n is open. F0's items are slices, so its value waits for
their closes while a port is bound (R183). -/
def execModeStagedApply (n : Nat) (s : State) : Outcome State Fault Refusal :=
  unitStep n 13 (s.running && s.modeStaged n && !s.itemOpen n
    && !(n == 0 && s.ports.any fun p => p.2.bound)) (s.applyMode n) s

/-- The ports that have to close a slice before a SET_MODE of F n completes: for F0, those that are bound (R183). -/
def State.modePorts (s : State) (n : Nat) : List Nat :=
  if n = 0 then (s.ports.filter fun e => e.2.bound).map (·.1) else []

/-- SET_MODE's values are staged as a write to MODE_F[n] stages them; with no item to wait for they
come into force at once (R182, R183). -/
def State.setModeOp (s : State) (tag : Nat) (e : Sqe) : State :=
  let n := e.fld 32 1
  let s := (s.stage MODE_F.MODE (4 * n) (e.fld 33 1)).stage MODE_F.HANDLER (4 * n) (e.fld 34 1)
  let s := match s.op? tag with
    | none => s
    | some o => s.setOp tag { o with phase := .held heldMode (n :: s.modePorts n) }
  if n == 0 && (s.ports.any fun p => p.2.bound) then s
  else if s.itemOpen n then s else s.applyMode n

/-- SET_MODE (R183). -/
def execSetMode (tag : Nat) (_ : OpIo) (s : State) : Outcome State Fault Refusal :=
  answer s (s.runOp tag 0x0011 pf0
    (fun _ e => orDescriptor (e.fld 32 1 ≤ 12 && e.fld 33 1 ≤ 1 && e.fld 34 1 < 16
      && e.rsv [(35, 29)]))
    fun _ e =>
      if e.fld 33 1 == 1 && !s.regB HO_CTRL.EN (winD (e.fld 34 1)) then s.finish tag ERR_MODE
      else s.setModeOp tag e)

/-! ## Posting a handoff (R185, R200) -/

/-- Management cores 1 to 3, which post handoffs, are all FAILED (R191). -/
def State.coresFailed (s : State) : Bool :=
  [231, 232, 233].all fun n => match SMap.get? s.domains n with | some d => d.failed | none => false

def State.hoReqSize (s : State) (n : Nat) : Nat := 2 ^ log2In 4 12 (s.reg HO_SIZES.REQ_LOG2 (winD n))
def State.hoRplSize (s : State) (n : Nat) : Nat := 2 ^ log2In 4 12 (s.reg HO_SIZES.RPL_LOG2 (winD n))
/-- The staging area in bytes; STAGE_LOG2 above 10 is taken as 10. -/
def State.hoStageSize (s : State) (n : Nat) : Nat :=
  1024 * 2 ^ min 10 (s.reg HO_SIZES.STAGE_LOG2 (winD n))

/-- The handoffs pending at an instance. -/
def State.hoPending (s : State) (n : Nat) : List Handoff := s.handoffs.filter (·.inst == n)

/-- The slot of the next request entry is free: the host has consumed what was in it, and its handoff is resolved
(R189). -/
def State.hoSlotFree (s : State) (n : Nat) : Bool :=
  let t := s.reg HO_REQ_TAIL.TAIL (winD n)
  wrapDist 32 t (s.reg HO_REQ_HEAD.HEAD (winD n)) < s.hoReqSize n
    && (s.hoPending n).all (·.slot != t % s.hoReqSize n)

/-- A payload of `len` bytes fits the circular staging area from its next byte on, over no payload of a pending
handoff (R185, R189). -/
def State.hoStageFree (s : State) (n len : Nat) : Bool :=
  let a := (s.inst n).stageAt
  let z := s.hoStageSize n
  len = 0 || (len ≤ z && (s.hoPending n).all fun h =>
    h.stageLen = 0 || (len ≤ (h.stageOff + (z - a % z)) % z && h.stageLen ≤ (a + (z - h.stageOff % z)) % z))

/-- The ring and the staging area can take one more request with this payload (R200). -/
def State.hoRoom (s : State) (n len : Nat) : Bool := s.hoSlotFree n && s.hoStageFree n len

/-- The payload written into the circular staging area from byte `at_` on. -/
def State.writeStage (s : State) (n at_ : Nat) (payload : Bytes) : State :=
  if payload.isEmpty then s
  else
    let base := s.reg64 HO_STAGE_BASE_LO.ADDR HO_STAGE_BASE_HI.ADDR (winD n) / 4096 * 4096
    let first := payload.take (s.hoStageSize n - at_)
    let rest := payload.drop (s.hoStageSize n - at_)
    let s := s.emit (.dma n (base + at_) first [])
    if rest.isEmpty then s else s.emit (.dma n base rest [])

/-- The request entry (Table 8-2). `args` is bytes 28 to 63. -/
def hoEntry (func phase id dtime qp tag off len : Nat) (args : Bytes) : Bytes :=
  leBytes 1 func ++ leBytes 1 phase ++ [0, 0] ++ leBytes 4 id ++ leBytes 8 dtime ++ leBytes 1 qp ++ [0]
    ++ leBytes 2 tag ++ leBytes 4 off ++ leBytes 4 len ++ byteSlice args 0 36

/-- The HANDOFF_TIMEOUT of an item, with its operation if it has one, at most once per function in any 100 ms, which is 400,000 QCLK
ticks, and its count (R188). -/
def State.expireCount (s : State) (n func : Nat) (tag : Option Nat) : State :=
  let s := s.count MODE_TMO_CNT.COUNT (4 * func)
  let last := SMap.get s.hoEvents func 0
  if last = 0 || last + 400000 ≤ s.ticks + 1 then
    let t := s.event n { code := 0x0A20, detail := some func, tag := tag.getD 0xFFFF,
                             qp := match tag.bind s.op? with | some o => o.qp | none => 0xFF }
    { t with hoEvents := SMap.put s.hoEvents func (s.ticks + 1) 0 }
  else s

/-- A handoff request for handler `n` (R185). The flag says that it was posted; otherwise the item is
to be resolved at once as if its time had expired, and that is already counted (R188, R191, R200). -/
def State.postHandoff (s : State) (n func : Nat) (tag : Option Nat) (args : Bytes) (payload : Bytes)
    (keep : List Nat) : State × Bool :=
  if !s.regB HO_CTRL.EN (winD n) || !s.canDma n || s.coresFailed then (s.expireCount n func tag, false)
  else if !s.hoRoom n payload.length then
    ((s.count HO_FULL_CNT.COUNT (winD n)).expireCount n func tag, false)
  else
    let i := s.inst n
    let t := s.reg HO_REQ_TAIL.TAIL (winD n)
    let phase := if t / s.hoReqSize n % 2 = 0 then 1 else 0
    let qp := match tag.bind s.op? with | some o => o.qp | none => 0xFF
    let base := s.reg64 HO_REQ_BASE_LO.ADDR HO_REQ_BASE_HI.ADDR (winD n) / 4096 * 4096
    let slot := t % s.hoReqSize n
    let s := s.writeStage n i.stageAt payload
    let s := s.emit (.dma n (base + 64 * slot) (hoEntry func phase i.hoId s.dtimeNow qp
      (tag.getD 0xFFFF) i.stageAt payload.length args) [])
    let s := s.setReg HO_REQ_TAIL.TAIL (winD n) (t + 1)
    let s := s.setInst n { i with hoId := (i.hoId + 1) % 2 ^ 32,
                                  stageAt := (i.stageAt + payload.length) % s.hoStageSize n }
    let h : Handoff := { inst := n, id := i.hoId, func := func, tag := tag, args := keep, slot := slot,
                         stageOff := i.stageAt, stageLen := payload.length }
    let s := { s with handoffs := s.handoffs ++ [h] }
    (s.sendMsix n (vecOf n (s.reg HO_CTRL.VEC (winD n))), true)

/-- An operation's handoff is resolved: the operator runs again with the reply, or without one as in
hardware mode (R188). -/
def State.resolveOp (s : State) (tag : Nat) (reply : Option (Bytes × Bytes)) : State :=
  match s.op? tag with
  | none => s
  | some o => s.setOp tag { o with phase := .started, reply := some reply }

/-- An operation's item takes its course in hardware mode. -/
def State.inHardware (s : State) (tag : Nat) : State :=
  match s.op? tag with
  | none => s
  | some o => s.setOp tag { o with reply := some none }

/-- The item of function `n` that an operation carries: opened at its boundary; in host-assisted mode
it is posted once, and the operator goes on with the reply, or without one as in hardware mode.
`k none` is the hardware course. -/
def State.item (s : State) (tag : Nat) (o : Op) (e : Sqe) (n : Nat) (args payload : Bytes)
    (k : State → Option (Bytes × Bytes) → State) : State :=
  match o.reply with
  | some r => k s r
  | none =>
    let s := s.applyMode n
    if s.assisted e n then
      let r := s.postHandoff (s.handler n) n (some tag) args payload []
      if r.2 then match r.1.op? tag with
        | none => r.1
        | some o => r.1.setOp tag { o with phase := .handoff }
      else k (r.1.inHardware tag) none
    else k (s.inHardware tag) none

end Sys2Proof.Machine
end

