-- ==== Sys2Proof/Machine/Link.lean ====
section
/-!
DEFINITION. The frames of the Span ports (R332 to R335): their 320 bytes, virtual channels and credit, the
order of sending, sequence numbers, the replay buffer, and the routes that frames take.
-/
namespace Sys2Proof.Machine

/-- Byte displacement of a Span port's registers, and of the entries of SPAN_MEMBER (modules 1 to 3). -/
def spD (p : Nat) : Nat := 0x20 * p
def memD (m : Nat) : Nat := 8 * (m - 1)

/-- This module's number in its span; 0 alone. -/
def State.self (s : State) : Nat := s.reg SPAN_STATUS.MODULE

/-! ## The bytes of a frame (Table 14-1) -/

def FrameBody.code : FrameBody → Nat
  | .idle => 0x01 | .nak _ => 0x02 | .hello _ => 0x10 | .helloRsp _ _ _ _ => 0x11 | .join _ => 0x12
  | .joinAck _ _ _ _ => 0x13 | .leave => 0x14 | .req _ _ => 0x20 | .rsp _ _ => 0x21 | .ctrl _ => 0x30

/-- The virtual channel that a frame is sent on (R333). Answers to HELLO and JOIN go on VC0 with them. -/
def FrameBody.chan : FrameBody → Nat
  | .req _ _ => 1 | .rsp _ _ => 2 | _ => 0

/-- The payload of HELLO and JOIN (R336). -/
def helloPayload (h : Hello) : Bytes :=
  leBytes 8 h.serial ++ leBytes 8 h.digest ++ leBytes 4 h.version ++ leBytes 4 h.epoch ++ leBytes 1 h.module
    ++ leBytes 1 h.state ++ [0, 0] ++ leBytes 4 h.spanId ++ leBytes 8 h.t1 ++ leBytes 8 h.corr

/-- The values that a payload without a stated layout carries. -/
def ctrlValues : CtrlWork → List Nat
  | .routes e r => 0 :: e :: r
  | .mailbox c w => 1 :: c :: w
  | .catalogue t e => 2 :: t :: e.map (·.toNat)
  | .commitRecord t r => 3 :: t :: r.map (·.toNat)
  | .ready => [4]
  | .confirm e => [5, e]
  | .time ns b => [6, unsigned 64 ns, b2n b]

def FrameBody.values : FrameBody → List Nat
  | .nak n => [n]
  | .helloRsp a b c d => [a, b, c, d]
  | .joinAck m e a r => m :: e :: b2n a :: r
  | .req i none => [i]
  | .req i (some (.read a n)) => [i, 0, a, n]
  | .req i (some (.write a d p)) => i :: 1 :: a :: d.length :: (d.map (·.toNat) ++ p)
  | .rsp d p => b2n p :: d.map (·.toNat)
  | .ctrl w => ctrlValues w
  | _ => []

def FrameBody.payload : FrameBody → Bytes
  | .hello h => helloPayload h
  | .join h => helloPayload h
  | .idle => []
  | .leave => []
  | b => (Config.spanPayload b.code b.values).take 284

/-- Bytes 4 to 311 of a frame. -/
def frameBody (f : SpanFrame) : Bytes :=
  let h := f.hdr
  let pl := f.body.payload
  leBytes 1 f.body.code ++ leBytes 1 (h.vc % 4 + 4 * (h.prio % 8)) ++ leBytes 1 (h.src % 4 + 4 * (h.dst % 4))
    ++ leBytes 1 h.epoch ++ leBytes 2 (h.seq % 4096) ++ leBytes 2 (h.ackSeq % 4096)
    ++ ((List.range 3).flatMap fun v => leBytes 2 (h.credit.getD v 0)) ++ leBytes 2 pl.length ++ leBytes 4 h.tag
    ++ leBytes 4 0 ++ byteSlice pl 0 284

/-- The 320 bytes of a frame. -/
def frameBytes (f : SpanFrame) : Bytes :=
  leBytes 4 Config.spanSync.toNat ++ frameBody f ++ leBytes 8 (Config.crc64 (frameBody f)).toNat

/-! ## The link layer -/

/-- A port that has just trained: full credit (R333), and SEQ from 0. -/
def linkReset : SpanLink := ⟨0, 0, false, [], [], [8, 64, 64], [0, 0, 0]⟩
def State.link (s : State) (p : Nat) : SpanLink := SMap.get s.links p linkReset
def State.setLink (s : State) (p : Nat) (v : SpanLink) : State :=
  { s with links := SMap.put s.links p v linkReset }
def State.portUp (s : State) (p : Nat) : Bool := s.reg SPAN_P_STATUS.STATE (spD p) == 2

/-- The header fields that belong to each hop filled in: SEQ, ACK_SEQ and CREDIT. -/
def stamp (l : SpanLink) (seq : Nat) (f : SpanFrame) : SpanFrame :=
  { f with hdr := { f.hdr with seq := seq, ackSeq := (l.rxSeq + 4095) % 4096, credit := l.owed } }

/-- A frame leaves port `p` with the credit owed. IDLE frames are not counted. -/
def State.putFrame (s : State) (p seq : Nat) (f : SpanFrame) : State :=
  let l := s.link p
  let g := stamp l seq f
  let s := (s.setLink p { l with owed := [0, 0, 0] }).emit (.spanFrame p g (frameBytes g))
  if g.body = .idle then s else s.count SPAN_P_FRAMES.COUNT (spD p)

/-- A frame needs no credit (NAK), or its channel has some. -/
def SpanLink.mayGo (l : SpanLink) (f : SpanFrame) : Bool :=
  f.body.code == 0x02 || l.credit.getD f.hdr.vc 0 > 0

/-- The order of sending (R333): VC0 first, then the highest PRIO; within one, the oldest. -/
def sendRank (f : SpanFrame) : Nat := if f.hdr.vc = 0 then 0 else 1 + f.hdr.prio

/-- The place in the queue of the frame that goes next. -/
def SpanLink.next (l : SpanLink) : Option Nat :=
  ((List.range l.queue.length).zip l.queue).foldl (fun (b : Option (Nat × Nat)) x =>
    if !l.mayGo x.2 then b
    else match b with
      | none => some (x.1, sendRank x.2)
      | some y => if sendRank x.2 < y.2 then some (x.1, sendRank x.2) else b) none |>.map (·.1)

/-- Queued frames go while credit and the 128-frame replay buffer last (R333, R334). -/
def State.pump (s : State) (p : Nat) : Nat → State
  | 0 => s
  | n + 1 =>
    let l := s.link p
    if !s.portUp p || l.replay.length ≥ 128 then s
    else match l.next with
      | none => s
      | some i => match l.queue[i]? with
        | none => s
        | some f =>
          let cr := if f.body.code = 0x02 then l.credit else l.credit.modify f.hdr.vc (· - 1)
          let g := stamp l l.txSeq f
          let s := s.setLink p { l with queue := l.queue.eraseIdx i, credit := cr, txSeq := (l.txSeq + 1) % 4096,
                                        replay := l.replay ++ [(0, g)] }
          (s.putFrame p l.txSeq f).pump p n

/-- A frame is queued on port `p` and goes as soon as it can. -/
def State.sendFrame (s : State) (p : Nat) (f : SpanFrame) : State :=
  let l := s.link p
  let s := s.setLink p { l with queue := l.queue ++ [f] }
  s.pump p (l.queue.length + 1)

/-- A frame of this module. -/
def State.newFrame (s : State) (dst prio tag : Nat) (b : FrameBody) : SpanFrame :=
  { hdr := { vc := b.chan, prio := if b.chan = 0 then Config.spanPrio b.code % 8 else prio, src := s.self,
             dst := dst, epoch := s.reg SPAN_EPOCH.EPOCH % 256, seq := 0, ackSeq := 0, credit := [0, 0, 0],
             tag := tag },
    body := b }

/-- An IDLE frame, which carries ACK_SEQ and CREDIT when nothing else does. Its SEQ is not stated. -/
def State.sendIdle (s : State) (p : Nat) : State :=
  if s.portUp p then
    let r := s.drawBytes 2
    r.2.putFrame p (leNat r.1 % 4096) (r.2.newFrame 0 0 0 .idle)
  else s

/-! ## Routes (R335) -/

/-- SPAN_ROUTE's entry for module `m`, the port it names, and whether it is valid. -/
def State.routeEntry (s : State) (m : Nat) : Nat := bits (s.reg SPAN_ROUTE.ROUTE) (4 * m) 4
def State.routePort (s : State) (m : Nat) : Nat := s.routeEntry m % 4
def State.routed (s : State) (m : Nat) : Bool := bit (s.routeEntry m) 3

/-- The peer of port `p`, once a HELLO has named it. -/
def State.peer? (s : State) (p : Nat) : Option Nat :=
  if s.portUp p && bit s.node.heard p then some (s.reg SPAN_P_STATUS.PEER (spD p)) else none

/-- The links that join this module to the peer of port `p`, lower-numbered first. -/
def State.parallels (s : State) (p : Nat) : List Nat :=
  if (s.peer? p).isSome then (List.range 4).filter fun q => s.peer? q == s.peer? p else [p]

/-- The port that a frame for module `m` takes: a REQ or RSP takes the one of two parallel links that bit 8
of its address names; before there is a route, a JOIN takes the port of a peer that is the head, or any, and its
JOIN_ACK goes back by the port that the JOIN came on. -/
def State.portFor (s : State) (m : Nat) (bit8 : Bool) : Option Nat :=
  if s.routed m then
    let ps := s.parallels (s.routePort m)
    ps[if bit8 then ps.length - 1 else 0]?
  else match (List.range 4).find? fun p => s.peer? p == some m with
    | some p => some p
    | none =>
      if m = 0 then (List.range 4).find? s.portUp
      else if s.node.joinFrom = 0 then none else some (s.node.joinFrom - 1)

/-- A frame sent along the route to its destination; without a route it goes nowhere. -/
def State.sendOn (s : State) (bit8 : Bool) (f : SpanFrame) : State :=
  match s.portFor f.hdr.dst bit8 with
  | some p => s.sendFrame p f
  | none => s

/-- A frame of this module for module `m`. -/
def State.sendTo (s : State) (m prio tag : Nat) (b : FrameBody) : State := s.sendOn false (s.newFrame m prio tag b)

end Sys2Proof.Machine
end

