-- ==== Sys2Proof/Machine/Flags.lean ====
section
/-!
DEFINITION. Status that is computed from other state: domain floors (Tables 3-2 and 3-3), the items and
charges of the budget (Tables 4-1 and 4-2), the reserved floor, the effective budget, thermal caps and
facet activity.
-/
namespace Sys2Proof.Machine

/-! ## Domains -/

/-- A port is bound to pipeline `g`. -/
def State.pipeUsed (s : State) (g : Nat) : Bool := s.ports.any fun p => p.2.bound && p.2.pipeline == g

/-- A sensor port's link is up. -/
def State.portLink (s : State) (p : Nat) : Bool := s.regB GNT_P_STATUS.LINK (portD p)

/-- Port `p` carries gPTP, or the pose frames, while that is enabled (R218, R222). -/
def State.timedPort (s : State) (p : Nat) : Bool :=
  (s.regB GNT_GPTP_CTRL.EN && !s.regB GNT_GPTP_CTRL.SRC && s.reg GNT_GPTP_STATUS.PORT == p)
    || (s.regB GNT_POSE_CTRL.EN && s.reg GNT_POSE_CTRL.PORT == p)

/-- The hardware floor in force (Tables 3-2 and 3-3). A debug session keeps domain 243 at IDLE, the
floor of the other domains in use (DEDUCED, log entry 64). -/
def State.hwFloor (s : State) (n : Nat) : DState :=
  let portFloor (p : Nat) : DState := 
    if (s.port p).bound || s.portLink p || s.timedPort p then .idle else .off
  if n ≤ 3 then .on
  else if n ≤ 13 then portFloor (n - 4)
  else if n ≤ 23 then portFloor (n - 14)
  else if n ≤ 31 then (if s.pipeUsed (n - 24) then .idle else .off)
  else if n ≤ 187 then .off
  else if n ≤ 195 then (if s.anyBound then .idle else .retain)
  else if n ≤ 203 then .off
  else if n ≤ 219 then (if s.anyBound then .idle else .retain)
  else if n ≤ 227 then (if s.reg SPAN_P_STATUS.STATE (0x20 * ((n - 220) / 2)) == 2 then .idle else .off)
  else if n ≤ 229 then (if s.pcie.perst then .idle else .off)
  else if n = 230 then .retain
  else if n ≤ 235 then .off
  else if n ≤ 237 then .retain
  else if n = 238 then .idle
  else if n = 239 then (if s.reg GBL_BOOT_STATUS.STAGE == 0xF then .off else .idle)
  else if n = 240 then .retain
  else if n ≤ 242 then .off
  else if s.reg LPS_STATUS.DBG_LEVEL != 0 then .idle else .off

/-- A wake of the domain to ON is asked for, is under way, or waits for its grant. -/
def Domain.toOn (d : Domain) : Bool := d.wakePend && (d.wakeTo != .retain || d.lift)

/-- A facet memory is at least IDLE while its core is ON or IDLE, or is to be (R71). -/
def State.memFloor (s : State) (n : Nat) : DState :=
  if 104 ≤ n && n ≤ 167 then
    let c := s.dom (n - 64)
    if c.up || c.toOn then .idle else .off
  else .off

/-- The floor that the DOMAIN_HINT holds of a domain make together (R387). -/
def Domain.holdFloor (d : Domain) : DState := d.holds.foldl DState.max .off

/-- The effective floor: the higher of HW_FLOOR, FLOOR, the DOMAIN_HINT holds and R71 (R69, R387). -/
def State.effFloor (s : State) (n : Nat) : DState :=
  ((s.hwFloor n).max (.ofCode (s.reg QTZ_DOM.FLOOR (domD n)))).max
    ((s.dom n).holdFloor.max (s.memFloor n))

/-- The domain never reaches OFF: its OFF→ON entry in Table 3-2 is "—". -/
def neverOff (n : Nat) : Bool :=
  (188 ≤ n && n ≤ 195) || (204 ≤ n && n ≤ 219) || n == 230 || n == 236 || n == 237 || n == 240

/-! ## Items and charges (Table 4-1) -/

/-- The item that a domain's charge belongs to; the domains of the base charge have none. -/
def itemOf (n : Nat) : Option Item :=
  if n ≤ 3 then none
  else if n ≤ 13 then some (.linkUp (n - 4))
  else if n ≤ 23 then some (.linkUp (n - 14))
  else if n ≤ 31 then some (.pipeline (n - 24))
  else if n ≤ 39 then some (.beryl (n - 32))
  else if n ≤ 103 then some (.facet (n - 40))
  else if n ≤ 167 then some (.facetMem (n - 104))
  else if n ≤ 183 then some (.spinel (n - 168))
  else if n ≤ 187 then some (.agate (n - 184))
  else if n ≤ 195 then some (.zirconNoPort (n - 188))
  else if n ≤ 203 then some (.scrubber (n - 196))
  else if n ≤ 219 then some (.segPair ((n - 204) / 2))
  else if n ≤ 227 then some (.spanPort ((n - 220) / 2))
  else if n ≤ 230 then none
  else if n ≤ 233 then some (.core (n - 230))
  else if n ≤ 240 then none
  else if n ≤ 242 then some (.shelf (n - 241))
  else some .debug

/-- The domains whose wakes wait for an item. -/
def domainsOf : Item → List Nat
  | .linkUp p => [4 + p, 14 + p]
  | .pipeline g => [24 + g]
  | .beryl i => [32 + i]
  | .facet f => [40 + f]
  | .facetMem f => [104 + f]
  | .spinel i => [168 + i]
  | .agate i => [184 + i]
  | .zirconNoPort c => [188 + c]
  | .scrubber c => [196 + c]
  | .segPair i => [204 + 2 * i, 205 + 2 * i]
  | .spanPort p => [220 + 2 * p, 221 + 2 * p]
  | .core k => [230 + k]
  | .shelf k => [241 + k]
  | .debug => [243]
  | .zirconExtra _ => []
  | .podl _ => []

/-- The item is part of the reserved floor while a port is bound (Table 4-1, R27, R398). -/
def State.inFloor (s : State) : Item → Bool
  | .linkUp p => (s.port p).bound
  | .podl p => (s.port p).bound
  | .pipeline g => s.pipeUsed g
  | .zirconNoPort _ => s.anyBound
  | .segPair _ => s.anyBound
  | _ => false

/-- Table 4-2: the charge of one facet at an FCLK code. -/
def facetCharge (code : Nat) : Nat := [3, 3, 4, 4, 5, 5, 6, 7, 7, 8, 9].getD code 9

/-- The FCLK code that Topaz charges: the code in force, or the one granted while its raise runs. -/
def State.fclkCharged (s : State) : Nat := s.topaz.raising.getD (s.reg TPZ_STATUS.FCLK_CODE)

/-- The charge of a PoDL port's allocation in mW (R43). -/
def podlCharge (mw : Nat) : Nat := ceilDiv (64 * mw) 7000

/-- A port's own charge in BU. -/
def portCharge (p : Nat) : Nat := if p < 8 then 5 else 11

/-- The charge of an item outside the floor at an FCLK code (Table 4-1). -/
def State.chargeAt (s : State) (code : Nat) (i : Item) : Nat :=
  if s.inFloor i then 0
  else match i with
    | .facet f => if s.topaz.held.contains f then 1 else facetCharge code
    | .facetMem f => if s.topaz.items.contains (.facet f) then 0 else 1
    | .beryl _ => 4
    | .spinel _ => 1
    | .agate _ => 3
    | .zirconNoPort _ => 4
    | .zirconExtra _ => if s.anyBound then 3 else 0
    | .segPair _ => 1
    | .scrubber _ => 1
    | .spanPort _ => 6
    | .core _ => 4
    | .shelf _ => 6
    | .debug => 2
    | .pipeline _ => 4
    | .linkUp p => portCharge p
    | .podl p => podlCharge (s.port p).podlMw

/-- The charge of an item as Topaz charges it now. -/
def State.charge (s : State) (i : Item) : Nat := s.chargeAt s.fclkCharged i

/-- The reserved floor (R87): base, bound ports, their pipelines, the memory path and their PoDL. -/
def State.floorBU (s : State) : Nat :=
  let bound := s.ports.filter fun p => p.2.bound
  24 + (bound.map fun p => portCharge p.1 +
      (if s.regB GNT_P_STATUS.PODL_ON (portD p.1) then podlCharge p.2.podlMw else 0)).sum
    + 4 * ((List.range 8).filter s.pipeUsed).length
    + (if bound.isEmpty then 0 else 16)

/-- Charged (R85): the floor and every granted item. -/
def State.chargedAt (s : State) (code : Nat) : Nat :=
  s.floorBU + (s.topaz.items.map (s.chargeAt code)).sum
def State.charged (s : State) : Nat := s.chargedAt s.fclkCharged

/-- The fallback value in force under loss of signal (R102). -/
def State.fallback (s : State) : Nat :=
  let b := min 768 (s.reg TPZ_FALLBACK.BU)
  if s.regB TPZ_FALLBACK.MODE && s.topaz.signalledEver then min b (s.reg TPZ_STATUS.SIGNALLED) else b

/-- The effective budget (R88). -/
def State.budget (s : State) : Nat :=
  let cap := min 768 (s.reg TPZ_CAP.CAP)
  if s.regB TPZ_CTRL.SRC then cap
  else min cap (if s.regB TPZ_STATUS.LOS then s.fallback else s.reg TPZ_STATUS.SIGNALLED)

/-! ## Facets -/

/-- The highest FCLK code that the thermal step in force permits (Table 2-12). -/
def State.thermalCap (s : State) : Nat :=
  match s.reg GBL_THERMAL.STEP with
  | 0 => 10 | 1 => 6 | 2 => 3 | _ => 0

/-- Facet `f` is withdrawn by TS3 (Table 2-12), or for a self-test (Table 16-4). -/
def State.hotOut (s : State) (f : Nat) : Bool := s.reg GBL_THERMAL.STEP == 3 && f ≥ 32
def State.underTest (s : State) (f : Nat) : Bool := s.amber.tests.any fun x => x.1 == testCode 0 f s.self
def State.withdrawn (s : State) (f : Nat) : Bool := s.hotOut f || s.underTest f

/-- A facet whose core and memory are powered. -/
def State.facetUp (s : State) (f : Nat) : Bool := (s.dom (40 + f)).up && (s.dom (104 + f)).up

/-- Facet `f`, or its memory, is FAILED (R82). -/
def State.facetFailed (s : State) (f : Nat) : Bool := (s.dom (40 + f)).failed || (s.dom (104 + f)).failed

/-- Facets powered and not held: they carry the full charge of Table 4-2. -/
def State.activeFacets (s : State) : List Nat :=
  (List.range 64).filter fun f => s.topaz.items.contains (.facet f) && !s.topaz.held.contains f

/-- The highest FCLK code permitted now (R95). -/
def State.fclkTop (s : State) : Nat := min (min 10 (s.reg TPZ_LIMITS.FCLK_MAX)) s.thermalCap

end Sys2Proof.Machine
end

