-- ==== Sys2Proof/Machine/WorkList.lean ====
section
/-!
DEFINITION. The facet work list (R275, R277): which tile a facet takes next, staging and displacement, and
the return of tiles from facets that can compute no more.
-/
namespace Sys2Proof.Machine

/-- The facet takes tiles: powered, and neither held nor withdrawn nor FAILED. -/
def State.mayTake (s : State) (f : Nat) : Bool :=
  s.facetUp f && !s.facetFailed f && !s.withdrawn f && !s.topaz.held.contains f

/-- The priority of a tile, and its operation's age. -/
def State.tilePrio (s : State) (t : Tile) : Nat := match s.op? t.tag with | some o => s.effPrio o | none => 7
def State.tileAge (s : State) (t : Tile) : Nat := match s.op? t.tag with | some o => o.seq | none => 0

/-- Tile `a` stands before `b`: strict priority, then the oldest operation, then list order. -/
def State.tileBefore (s : State) (a b : Tile) : Bool :=
  let p := s.tilePrio a; let q := s.tilePrio b
  if p != q then p < q
  else if s.tileAge a != s.tileAge b then s.tileAge a < s.tileAge b
  else a.pos < b.pos

/-- A tile that facet `f` may take: a static tile belongs to its facet, until that facet is withdrawn or
FAILED (R277). -/
def State.tileFits (s : State) (f : Nat) (t : Tile) : Bool :=
  match t.fixed with
  | none => true
  | some g => g == f || s.withdrawn g || s.facetFailed g

/-- The head of the work list for facet `f`. -/
def State.headFor (s : State) (f : Nat) : Option Tile :=
  (s.workList.filter (s.tileFits f)).foldl (fun (b : Option Tile) t => match b with
    | none => some t
    | some x => if s.tileBefore t x then some t else b) none

/-- The head leaves the list. -/
def State.takeHead (s : State) (f : Nat) : Option Tile × State :=
  match s.headFor f with
  | none => (none, s)
  | some t => (some t, { s with workList := s.workList.filter (· != t) })

/-- Facet `f` takes a tile to compute and one to stage, if it has room. -/
def State.feedFacet (s : State) (f : Nat) : State :=
  if !s.mayTake f then s
  else
    let r := match (s.facet f).cur with
      | some t => (some t, s)
      | none => match (s.facet f).next with
        | some t => (some t, s.setFacet f { s.facet f with next := none })
        | none => s.takeHead f
    let s := r.2.setFacet f { r.2.facet f with cur := r.1 }
    if r.1.isNone || (s.facet f).next.isSome then s
    else let n := s.takeHead f; n.2.setFacet f { n.2.facet f with next := n.1 }

/-- Every facet that can takes tiles, in ascending number. -/
def State.feed (s : State) : State :=
  if s.workList.isEmpty then s else (List.range 64).foldl State.feedFacet s

/-- Facet `f` has finished its tile (R275): the staged tile follows, unless a higher priority has reached
the head of the list meanwhile. -/
def State.nextTile (s : State) (f : Nat) : State :=
  let s := s.setFacet f { s.facet f with cur := none }
  match (s.facet f).next, s.headFor f with
  | some n, some h =>
    if s.tilePrio h < s.tilePrio n then
      let s := s.setFacet f { s.facet f with next := none }
      (({ s with workList := s.workList ++ [n] } : State).count FCT_DISPLACED.COUNT).feedFacet f
    else s.feedFacet f
  | _, _ => s.feedFacet f

/-- The tiles of a facet go back to the list (R82). -/
def State.returnTile (s : State) (f : Nat) : State :=
  let a := s.facet f
  let s := s.setFacet f { a with cur := none, next := none }
  ({ s with workList := s.workList ++ a.cur.toList ++ a.next.toList } : State).feed

/-- The tile staged on a facet goes back: it is withdrawn after its current tile. -/
def State.returnStaged (s : State) (f : Nat) : State :=
  let a := s.facet f
  let s := s.setFacet f { a with next := none }
  { s with workList := s.workList ++ a.next.toList }

end Sys2Proof.Machine
end

