-- ==== Sys2Proof/Machine/Budget.lean ====
section
/-!
DEFINITION. Topaz (chapter 4): grants and their queue, the throttling order and its reversal, budget
evaluations, loss of signal, and the commands of the budget.
-/
namespace Sys2Proof.Machine
open Host (Outcome)

/-! ## Grants (R89) -/

/-- An item enters the charges. -/
def State.addItem (s : State) (i : Item) : State :=
  if s.topaz.items.contains i then s
  else { s with topaz := { s.topaz with items := s.topaz.items ++ [i] } }

/-- The wake of a domain that waits for a grant starts its first attempt. -/
def State.granted (s : State) (n : Nat) : State :=
  let d := s.dom n
  if d.grantWait then s.setDom n { d with grantWait := false, attempt := 1 } else s

/-- What a grant sets going: the waiting wakes of the item's domains start, a facet's memory with its core (R71),
and a PoDL port is powered (R43). -/
def State.onGrant (s : State) (i : Item) : State :=
  let s := (domainsOf i).foldl State.granted s
  match i with
  | .facet f => if (s.dom (104 + f)).grantWait then (s.granted (104 + f)).addItem (.facetMem f) else s
  | .podl p => (s.setReg GNT_P_STATUS.PODL_ON (portD p) 1).setReg GNT_P_PODL_MW.MW (portD p) (s.port p).podlMw
  | _ => s

def State.grant (s : State) (i : Item) : State := (s.addItem i).onGrant i

/-- What an item would add to charged. -/
def State.added (s : State) (i : Item) : Nat := (s.addItem i).charged - s.charged

/-- FCLK is lowered to a code (R91): at once, and a raise under way is abandoned (Table 4-6). -/
def State.lowerFclk (s : State) (code : Nat) : State :=
  let s := { s with topaz := { s.topaz with raising := none } }
  if code < s.reg TPZ_STATUS.FCLK_CODE then s.setReg TPZ_STATUS.FCLK_CODE 0 code else s

/-- Step 1 of Table 4-3: the highest code from FCLK_MIN up, no higher than now, at which all active
facets fit; FCLK_MIN where none does. -/
def State.step1 (s : State) : State :=
  let lo := min (s.reg TPZ_LIMITS.FCLK_MIN) s.fclkCharged
  let codes := (List.range (s.fclkCharged + 1)).filter fun c => c ≥ lo && s.chargedAt c ≤ s.budget
  s.lowerFclk (codes.getLast?.getD lo)

/-- A request (R89): a floor item is granted at once; another when nothing waits and it fits, for a
facet after step 1 has been applied with it counted as active (R95); otherwise it waits by priority
and age, and the deferral is counted (R104). The flag says that it was granted. -/
def State.request (s : State) (i : Item) (prio : Nat) : State × Bool :=
  if s.inFloor i || s.topaz.items.contains i then (s.grant i, true)
  else
    let s := match i with
      | .facet _ => if s.charged + s.added i ≤ s.budget then s else
          let t := (s.addItem i).step1
          { t with topaz := { t.topaz with items := s.topaz.items } }
      | _ => s
    if s.topaz.queue.isEmpty && s.charged + s.added i ≤ s.budget then (s.grant i, true)
    else
      let r : GrantReq := ⟨i, prio, s.topaz.reqSeq⟩
      let q := insertBy (·.prio) r s.topaz.queue
      (({ s with topaz := { s.topaz with queue := q, reqSeq := s.topaz.reqSeq + 1 } } : State).count
        TPZ_DEFER_CNT.COUNT, false)

/-- The queue's head is granted while it fits (R89). -/
def State.serveQueue (s : State) : Nat → State
  | 0 => s
  | n + 1 => match s.topaz.queue with
    | [] => s
    | r :: q =>
      if s.inFloor r.item || s.charged + s.added r.item ≤ s.budget then
        (({ s with topaz := { s.topaz with queue := q } } : State).grant r.item).serveQueue n
      else s

/-- Queued requests of the floor are granted at once, ahead of the queue (R89, Table 4-6), and a shed PoDL port that
has been bound is powered again at once (Table 4-6, R87). -/
def State.serveFloor (s : State) : State :=
  let now := s.topaz.queue.filter fun r => s.inFloor r.item
  let s := now.foldl (fun t r => t.grant r.item)
    { s with topaz := { s.topaz with queue := s.topaz.queue.filter fun r => !s.inFloor r.item } }
  let back := s.topaz.shed.filter fun p => (s.port p).bound
  back.foldl (fun t p => t.grant (.podl p))
    { s with topaz := { s.topaz with shed := s.topaz.shed.filter fun p => !(s.port p).bound } }

/-! ## The throttling order (Table 4-3) and its reversal (R95) -/

/-- Steps 2 and 3: active facets are held from the highest number down until charged fits. -/
def State.holdFacets (s : State) : State :=
  s.activeFacets.reverse.foldl (fun t f =>
    if t.charged > t.budget then { t with topaz := { t.topaz with held := f :: t.topaz.held } } else t) s

/-- An unbound PoDL port loses its power to the budget (step 4). -/
def State.shedPort (s : State) (p : Nat) : State :=
  let s := { s with topaz := { s.topaz with items := s.topaz.items.filter (· != Item.podl p),
                                            shed := s.topaz.shed ++ [p] } }
  let s := (s.setReg GNT_P_STATUS.PODL_ON (portD p) 0).setReg GNT_P_PODL_MW.MW (portD p) 0
  s.pfEvent 0x0206

/-- Step 4: unbound PoDL ports, highest number first. -/
def State.shedPodl (s : State) : State :=
  (List.range 8).reverse.foldl (fun t p =>
    if t.charged > t.budget && t.topaz.items.contains (.podl p) && !(t.port p).bound then t.shedPort p
    else t) s

/-- A domain outside the floor: its charge is an item, and not one of the floor. -/
def State.nonFloor (s : State) (n : Nat) : Bool :=
  match itemOf n with
  | none => false
  | some i => !s.inFloor i

/-- Domain `n` is a facet's that is held, and keeps its rail (R86). -/
def State.heldFacet (s : State) (n : Nat) : Bool := 40 ≤ n && n ≤ 167 && s.topaz.held.contains ((n - 40) % 64)

/-- Step 5 takes domain `n` down to RETAIN at once, ignoring IDLE_HOLD, but not within 1 ms of a DRAIN_TIMEOUT (R81). -/
def State.forceDown (s : State) (n : Nat) : State :=
  let d := s.dom n
  if d.st == .idle && d.phase == .none && d.attempt == 0 && s.nonFloor n && !s.heldFacet n
      && (s.effFloor n).code < 2 && d.parked.isEmpty && d.holdoff ≤ s.ticks then
    s.setDom n { d with phase := .drain, target := .retain, fromRetain := false }
  else s

/-- Step 5: while charged exceeds the budget, idle domains outside the floor go down. -/
def State.step5 (s : State) : State :=
  if s.charged > s.budget then (s.domains.map (·.1)).foldl State.forceDown s else s

/-- The throttling order (R94). -/
def State.throttle (s : State) : State :=
  if s.charged > s.budget then s.step1.holdFacets.shedPodl.step5 else s

/-- FCLK rises one code at a time while every active facet fits; with no active facet it goes to the
highest code permitted. The raise is charged from its grant and in force at its end (R91, R95). -/
def State.raiseFclk (s : State) : Nat → State
  | 0 => s
  | n + 1 =>
    let c := s.fclkCharged + 1
    if c ≤ s.fclkTop && (s.activeFacets.isEmpty || s.chargedAt c ≤ s.budget) then
      ({ s with topaz := { s.topaz with raising := some c } } : State).raiseFclk n
    else s

/-- Shed ports are powered again in ascending order, up to the first that does not fit. -/
def State.repower (s : State) : List Nat → State
  | [] => s
  | p :: ps =>
    if s.charged + s.added (.podl p) ≤ s.budget then
      (({ s with topaz := { s.topaz with shed := s.topaz.shed.filter (· != p) } } : State).grant (.podl p)).repower ps
    else s

/-- Held facets are released in ascending order, up to the first that does not fit. With no facet active, FCLK
stands at the highest code permitted, so step 1 of Table 4-3 is first applied with the facet counted as active, as
for a facet that is powered up (R95; DEDUCED, log entry 68). -/
def State.unhold (s : State) : List Nat → State
  | [] => s
  | f :: fs =>
    let u := { s with topaz := { s.topaz with held := s.topaz.held.filter (· != f) } }
    let u := if s.activeFacets.isEmpty && u.charged > u.budget then u.step1 else u
    if u.charged ≤ u.budget then u.unhold fs else s

/-- The reversal (R95) serves the queue, then powers shed ports, releases held facets and raises FCLK, each only once
nothing of the one before is left (DEDUCED, log entry 68), but FCLK also while no facet is active. The last two are the host's while
its F10 reply holds (R96). -/
def State.reverse (s : State) (full : Bool) : State :=
  let s := s.serveQueue s.topaz.queue.length
  if s.charged < s.budget && s.topaz.queue.isEmpty then
    let s := s.repower (sortBy id s.topaz.shed)
    if full && s.topaz.shed.isEmpty then
      let s := s.unhold (sortBy id s.topaz.held)
      if s.topaz.held.isEmpty || s.activeFacets.isEmpty then s.raiseFclk 10 else s
    else s
  else s

/-- A new effective budget is shown, reported and, for F10 in host-assisted mode, handed off (R96, R98). An F10
reply for an earlier change holds no longer. The entry's FCLK code and number of active facets are those before the
throttling of this change (DESIGN CHOICE, log entry 134). -/
def State.showBudget (s : State) : State :=
  let b := s.budget
  if b = s.reg TPZ_STATUS.EFFECTIVE then s
  else
    let s := ({ s with topaz := { s.topaz with hosted := false } } : State).setReg TPZ_STATUS.EFFECTIVE 0 b
    let s := if s.regB TPZ_CTRL.EVT_CHANGED_EN then s.pfEvent 0x0201 (some b) else s
    let s := s.applyMode 10
    if s.regB MODE_F.MODE 40 then
      (s.postHandoff (s.handler 10) 10 none (leBytes 2 b ++ leBytes 2 s.floorBU
        ++ leBytes 1 (s.reg TPZ_STATUS.FCLK_CODE) ++ leBytes 1 s.activeFacets.length) [] []).1
    else s

/-- BELOW_FLOOR follows the effective budget and the floor, with its event once each time (R98). -/
def State.showBelow (s : State) : State :=
  let below := s.budget < s.floorBU
  if below == s.regB TPZ_STATUS.BELOW_FLOOR then s
  else
    let s := s.setReg TPZ_STATUS.BELOW_FLOOR 0 (b2n below)
    if below then s.pfEvent 0x0204 (some (s.budget + 2 ^ 16 * s.floorBU)) else s

/-- Charged or the effective budget has changed: Topaz reports, throttles or reverses (R94, R95). -/
def State.rebalance (s : State) : State :=
  let s := s.serveFloor.showBudget.showBelow.throttle
  (if s.charged > s.budget then s else s.reverse (!s.topaz.hosted || !s.regB MODE_F.MODE 40)).feed

/-- An item leaves the charges (R90). -/
def State.release (s : State) (i : Item) : State :=
  let held := match i with | .facet f => s.topaz.held.filter (· != f) | _ => s.topaz.held
  ({ s with topaz := { s.topaz with items := s.topaz.items.filter (· != i), held := held } } : State).rebalance

/-! ## Budget evaluations (R96, R399) -/

/-- Facets as an F10 reply has them (R96): FCLK goes toward its code within the limits; the `n` lowest-numbered
facets that are powered and neither withdrawn nor FAILED stay active, and the other powered ones are held. -/
def State.asReplied (s : State) (code n : Nat) : State :=
  let powered := (List.range 64).filter fun f => s.topaz.items.contains (.facet f)
  let active := (powered.filter fun f => !s.withdrawn f && !s.facetFailed f).take n
  let s := { s with topaz := { s.topaz with held := powered.filter fun f => !active.contains f } }
  let c := min code s.fclkTop
  if c < s.fclkCharged then s.lowerFclk c
  else if c > s.fclkCharged then { s with topaz := { s.topaz with raising := some c } } else s

/-- An F10 reply as it is kept until the next evaluation: one that does not fit the effective budget when it
arrives is reduced by steps 1 to 3 of the throttling order (R96). -/
def State.fitReply (s : State) (code n : Nat) : Nat × Nat :=
  let u := s.asReplied code n
  if u.charged ≤ u.budget then (code, n)
  else let v := u.step1.holdFacets; (v.fclkCharged, v.activeFacets.length)

/-- The pending F10 reply is applied (R96); the throttling order reduces what does not fit by now. -/
def State.applyReply (s : State) : State :=
  match s.topaz.reply with
  | none => s
  | some (code, n) =>
    (({ s with topaz := { s.topaz with reply := none, hosted := true } } : State).asReplied code n).throttle.feed

/-- One budget evaluation (R399). -/
def State.evaluate (s : State) : State := (s.applyStaged TPZ_CTRL.SRC).rebalance.applyReply

/-- Loss of signal is declared (R102). -/
def State.declareLos (s : State) : State :=
  let s := { s with topaz := { s.topaz with rise := [], recover := [], badRun := 0 } }
  let s := s.setReg TPZ_STATUS.LOS 0 1
  (s.pfEvent 0x0202 (some s.fallback)).rebalance

/-- Valid periods needed for a rise or a recovery; 0 is taken as 1. -/
def State.risePeriods (s : State) : Nat := max 1 (s.reg TPZ_CTRL.RISE_PERIODS)

/-- The smallest of a run of values. -/
def leastOf (l : List Nat) : Nat := l.foldl min (l.headD 0)

/-- The signalled candidate of a duty in per mille. -/
def dutyBudget (duty : Nat) : Nat := 768 * (min (max duty 100) 900 - 100) / 800

/-- A new signalled budget. -/
def State.setSignalled (s : State) (v : Nat) : State :=
  { (s.setReg TPZ_STATUS.SIGNALLED 0 v) with
      topaz := { s.topaz with signalledEver := true, rise := [], recover := [], badRun := 0 } }

/-- A valid period (R92, R103). -/
def State.validPeriod (s : State) (duty period : Nat) : State :=
  let c := dutyBudget duty
  let s := (s.setReg TPZ_DUTY.DUTY 0 duty).setReg TPZ_DUTY.PERIOD 0 (min (period / 100) 0xFFFF)
  let s := { s with topaz := { s.topaz with badRun := 0 } }
  if s.regB TPZ_STATUS.LOS then
    let run := s.topaz.recover ++ [c]
    if run.length ≥ s.risePeriods then
      ((s.setSignalled (leastOf run)).setReg TPZ_STATUS.LOS 0 0).pfEvent 0x0203 (some (leastOf run))
    else { s with topaz := { s.topaz with recover := run } }
  else if c < s.reg TPZ_STATUS.SIGNALLED then s.setSignalled c
  else if c > s.reg TPZ_STATUS.SIGNALLED then
    let run := s.topaz.rise ++ [c]
    if run.length ≥ s.risePeriods then s.setSignalled (leastOf run)
    else { s with topaz := { s.topaz with rise := run } }
  else { s with topaz := { s.topaz with rise := [] } }

/-- An invalid period (R92, R102, R104). -/
def State.invalidPeriod (s : State) : State :=
  let s := s.count TPZ_INVALID_CNT.COUNT
  let n := s.topaz.badRun + 1
  let s := { s with topaz := { s.topaz with rise := [], recover := [], badRun := n } }
  if n ≥ 3 && !s.regB TPZ_STATUS.LOS then s.declareLos else s

/-- The period and the duty in per mille are ones that Topaz reads. -/
def periodValid (period high : Nat) : Bool :=
  9800 ≤ period && period ≤ 1020000 && 50 ≤ high * 1000 / period && high * 1000 / period ≤ 950

/-- BUDGET_RISING_EDGE (R92): the period just ended, in GCLK cycles, and its high time. -/
def execBudgetRisingEdge (period high : Nat) (s : State) : Outcome State Fault Refusal :=
  let t := if periodValid period high then s.validPeriod (high * 1000 / period) period
    else s.invalidPeriod
  stepIf (s.power.on && high ≤ period) t.evaluate s

/-- BUDGET_EVALUATION (R399). -/
def execBudgetEvaluation (s : State) : Outcome State Fault Refusal := stepIf s.power.on s.evaluate s

/-- BUDGET_LOS (R102): no rising edge for TPZ_LOS_US. -/
def execBudgetLos (s : State) : Outcome State Fault Refusal :=
  stepIf (s.power.on && !s.regB TPZ_STATUS.LOS) s.declareLos s

/-- FCLK_RAISE_COMPLETE (R91). -/
def execFclkRaiseComplete (s : State) : Outcome State Fault Refusal :=
  match s.topaz.raising with
  | none => .next s
  | some c => stepIf s.power.on
      { (s.setReg TPZ_STATUS.FCLK_CODE 0 c) with topaz := { s.topaz with raising := none } } s

/-- ZIRCON_CHARGE_RELEASE (R398). -/
def execZirconChargeRelease (c : Nat) (s : State) : Outcome State Fault Refusal :=
  unitStep c 8 (s.power.on && s.topaz.items.contains (.zirconExtra c)) (s.release (.zirconExtra c)) s

/-- The item names units that the part has. -/
def itemExists : Item → Bool
  | .facet f => f < 64 | .facetMem f => f < 64 | .beryl i => i < 8 | .spinel i => i < 16
  | .agate i => i < 4 | .zirconNoPort c => c < 8 | .zirconExtra c => c < 8 | .segPair i => i < 8
  | .scrubber c => c < 8 | .spanPort p => p < 4 | .core k => 1 ≤ k && k ≤ 3 | .shelf k => k < 2
  | .debug => true | .pipeline g => g < 8 | .linkUp p => p < 10 | .podl p => p < 8

/-- TPZ_CAP takes a value, and applies at once (R399). -/
def State.writeCap (s : State) (v : Nat) : State := (s.setReg TPZ_CAP.CAP 0 v).rebalance

/-- FCLK above FCLK_MAX is lowered at once and its charge released (R97). -/
def State.clampFclk (s : State) : State :=
  (if s.fclkCharged > s.reg TPZ_LIMITS.FCLK_MAX then s.lowerFclk (s.reg TPZ_LIMITS.FCLK_MAX) else s).rebalance

/-- TPZ_LIMITS takes a word (R97). -/
def State.writeLimits (s : State) (v : Nat) : State :=
  let s := (s.setReg TPZ_LIMITS.FCLK_MIN 0 v).setReg TPZ_LIMITS.FCLK_MAX 0 (bits v 4 4)
  (s.setReg TPZ_LIMITS.FACET_MIN 0 (bits v 8 7)).clampFclk

/-- TPZ_CAP_WRITE (R399): the word written. -/
def execTpzCapWrite (val : Nat) (s : State) : Outcome State Fault Refusal :=
  stepIf s.ready (s.writeCap val) s

/-- TPZ_LIMITS_WRITE (R97): the word written. -/
def execTpzLimitsWrite (val : Nat) (s : State) : Outcome State Fault Refusal :=
  stepIf s.ready (s.writeLimits val) s

/-- The field checks of SET_BUDGET (R386). -/
def State.setBudgetOk (s : State) (e : Sqe) : Bool :=
  e.fld 32 2 ≤ 768 && e.fld 34 1 < 2 && e.rsv [(36, 28)]
    && (e.fld 34 1 == 0 || (e.fld 35 1 ≤ 10 && e.fld 35 1 ≥ s.reg TPZ_LIMITS.FCLK_MIN))

/-- SET_BUDGET's writes (R97, R386). -/
def State.setBudgetOp (s : State) (e : Sqe) : State :=
  let s := s.setReg TPZ_CAP.CAP 0 (e.fld 32 2)
  (if e.fld 34 1 = 1 then s.setReg TPZ_LIMITS.FCLK_MAX 0 (e.fld 35 1) else s).clampFclk

/-- SET_BUDGET (R97, R386). -/
def execSetBudget (tag : Nat) (_ : OpIo) (s : State) : Outcome State Fault Refusal :=
  answer s (s.runOp tag 0x0010 pf0 (fun _ e => orDescriptor (s.setBudgetOk e))
    fun _ e =>
      let t := s.setBudgetOp e
      t.finish tag OK (some t.budget))

/-- DRAW_COMPARISON (R105): the input power against charged plus 10 %, at 1.25 units of 0.1 W per BU. -/
def State.compareDraw (s : State) : State :=
  let pin := s.reg GBL_INPUT.PIN_DW
  if pin * 1000 > s.charged * 1375 then
    let n := s.topaz.drawRun + 1
    let s := { s with topaz := { s.topaz with drawRun := min n 10 } }
    if n ≥ 10 && !s.topaz.drawTold then
      ({ s with topaz := { s.topaz with drawTold := true } } : State).pfEvent 0x0207 (some pin)
    else s
  else { s with topaz := { s.topaz with drawRun := 0, drawTold := false } }

/-- DRAW_COMPARISON (R105). -/
def execDrawComparison (s : State) : Outcome State Fault Refusal := stepIf s.power.on s.compareDraw s

end Sys2Proof.Machine
end

