-- ==== Sys2Proof/Machine/Fp.lean ====
section
/-!
DEFINITION. Binary floating point on bit patterns held as numbers: FP32, FP64, BF16 and FP16, each
operation computed exactly and rounded once to nearest even (R233, R272, R292, R302). Sign and payload of
a NaN that an operation produces are the manual's to state, and it does not: Config.nanPayload. Sines and exponentials
are computed far beyond FP32; which neighbour they are rounded to is not stated: Config.roundsUp.
-/
namespace Sys2Proof.Machine

/-- A binary format: exponent bits and fraction bits. -/
structure Fmt where
  eb : Nat
  mb : Nat
deriving DecidableEq, Repr

def f32 : Fmt := ⟨8, 23⟩
def f64 : Fmt := ⟨11, 52⟩
def bf16 : Fmt := ⟨8, 7⟩
def f16 : Fmt := ⟨5, 10⟩

/-- The value of a pattern: a finite value is (−1)^neg · m · 2^e. -/
inductive FVal where
  | nan
  | inf (neg : Bool)
  | fin (neg : Bool) (m : Nat) (e : Int)
deriving DecidableEq, Repr

/-- The exponent bias. -/
def Fmt.bias (F : Fmt) : Nat := 2 ^ (F.eb - 1) - 1

/-- The value of a bit pattern. -/
def Fmt.val (F : Fmt) (x : Nat) : FVal :=
  let m := x % 2 ^ F.mb
  let e := x / 2 ^ F.mb % 2 ^ F.eb
  let neg := bit x (F.eb + F.mb)
  if e = 2 ^ F.eb - 1 then (if m = 0 then .inf neg else .nan)
  else if e = 0 then .fin neg m (1 - (F.bias : Int) - F.mb)
  else .fin neg (m + 2 ^ F.mb) ((e : Int) - F.bias - F.mb)

/-- The sign bit of a format. -/
def Fmt.signBit (F : Fmt) (neg : Bool) : Nat := if neg then 2 ^ (F.eb + F.mb) else 0

/-- Infinity and the NaN that arithmetic produces. -/
def Fmt.infBits (F : Fmt) (neg : Bool) : Nat := F.signBit neg + (2 ^ F.eb - 1) * 2 ^ F.mb
def Fmt.nanBits (F : Fmt) : Nat :=
  F.signBit (Config.nanPayload.toNat / 2 ^ 63 == 1) + (2 ^ F.eb - 1) * 2 ^ F.mb + 2 ^ (F.mb - 1)
    + Config.nanPayload.toNat % 2 ^ (F.mb - 1)

/-- A quotient num · 2^(−x) / den with its rounding to nearest even. -/
def roundAt (num den : Nat) (x : Int) : Nat :=
  let n := if x < 0 then num * 2 ^ (-x).toNat else num
  let d := if x < 0 then den else den * 2 ^ x.toNat
  let q := n / d
  let r := n % d
  if 2 * r > d || (2 * r == d && q % 2 == 1) then q + 1 else q

/-- `⌊log₂ (num / den)⌋` of positive numbers. -/
def logRat (num den : Nat) : Int :=
  let l : Int := (Nat.log2 num : Int) - Nat.log2 den
  let below := if l < 0 then num * 2 ^ (-l).toNat < den else num < den * 2 ^ l.toNat
  if below then l - 1 else l

/-- The exponent of the last place of num / den. -/
def Fmt.lastPlace (F : Fmt) (num den : Nat) : Int := max (logRat num den) (1 - (F.bias : Int)) - F.mb

/-- The pattern of ± q · 2^x, where x is a last place and q has at most one bit more than a significand. -/
def Fmt.pack (F : Fmt) (neg : Bool) (q : Nat) (x : Int) : Nat :=
  let body := if q < 2 ^ F.mb then q
    else (x + F.mb + F.bias).toNat * 2 ^ F.mb + (q - 2 ^ F.mb)
  if body ≥ (2 ^ F.eb - 1) * 2 ^ F.mb then F.infBits neg else F.signBit neg + body

/-- The pattern nearest to ± num / den, ties to even. -/
def Fmt.round (F : Fmt) (neg : Bool) (num den : Nat) : Nat :=
  if num = 0 then F.signBit neg
  else F.pack neg (roundAt num den (F.lastPlace num den)) (F.lastPlace num den)

/-- ± num / den, known to 60 bits beyond the last place, to one of its two neighbours; a value that is a pattern's to
within that is that pattern (DESIGN CHOICE, log entry 15). -/
def Fmt.faithful (F : Fmt) (up : Bool) (neg : Bool) (num den : Nat) : Nat :=
  if num = 0 then 0
  else
    let x := F.lastPlace num den
    let n := if x < 0 then num * 2 ^ (-x).toNat else num
    let d := if x < 0 then den else den * 2 ^ x.toNat
    let r := n % d
    let above := if r * 2 ^ 60 < d then false else if (d - r) * 2 ^ 60 < d then true else up
    F.pack neg (n / d + b2n above) x

/-- The pattern nearest to ± m · 2^e. -/
def Fmt.roundDy (F : Fmt) (neg : Bool) (m : Nat) (e : Int) : Nat :=
  if e < 0 then F.round neg m (2 ^ (-e).toNat) else F.round neg (m * 2 ^ e.toNat) 1

/-- The pattern nearest to an integer multiple of 2^e. -/
def Fmt.ofInt (F : Fmt) (v : Int) (e : Int := 0) : Nat := F.roundDy (v < 0) v.natAbs e

/-- The signed integer a finite value is at the scale 2^x (x no larger than its own exponent). -/
def scaled (neg : Bool) (m : Nat) (e x : Int) : Int :=
  let v : Int := (m : Int) * 2 ^ (e - x).toNat
  if neg then -v else v

/-- Conversion to another format. -/
def Fmt.conv (F G : Fmt) (x : Nat) : Nat :=
  match F.val x with
  | .nan => G.nanBits
  | .inf s => G.infBits s
  | .fin s m e => G.roundDy s m e

/-- Sum. -/
def Fmt.add (F : Fmt) (x y : Nat) : Nat :=
  match F.val x, F.val y with
  | .nan, _ => F.nanBits
  | _, .nan => F.nanBits
  | .inf s, .inf t => if s = t then F.infBits s else F.nanBits
  | .inf s, _ => F.infBits s
  | _, .inf t => F.infBits t
  | .fin s m e, .fin t n f =>
    let g := min e f
    let v := scaled s m e g + scaled t n f g
    if v = 0 then F.signBit (s && t) else F.roundDy (v < 0) v.natAbs g

/-- The negated pattern, NaN too. -/
def Fmt.neg (F : Fmt) (x : Nat) : Nat :=
  if bit x (F.eb + F.mb) then x - 2 ^ (F.eb + F.mb) else x + 2 ^ (F.eb + F.mb)

/-- Difference. -/
def Fmt.sub (F : Fmt) (x y : Nat) : Nat := F.add x (F.neg y)

/-- Product. -/
def Fmt.mul (F : Fmt) (x y : Nat) : Nat :=
  match F.val x, F.val y with
  | .nan, _ => F.nanBits
  | _, .nan => F.nanBits
  | .inf s, .inf t => F.infBits (xor s t)
  | .inf s, .fin t n _ => if n = 0 then F.nanBits else F.infBits (xor s t)
  | .fin s m _, .inf t => if m = 0 then F.nanBits else F.infBits (xor s t)
  | .fin s m e, .fin t n f => F.roundDy (xor s t) (m * n) (e + f)

/-- Quotient. -/
def Fmt.div (F : Fmt) (x y : Nat) : Nat :=
  match F.val x, F.val y with
  | .nan, _ => F.nanBits
  | _, .nan => F.nanBits
  | .inf _, .inf _ => F.nanBits
  | .inf s, .fin t _ _ => F.infBits (xor s t)
  | .fin s _ _, .inf t => F.signBit (xor s t)
  | .fin s m e, .fin t n f =>
    if n = 0 then (if m = 0 then F.nanBits else F.infBits (xor s t))
    else if e < f then F.round (xor s t) m (n * 2 ^ (f - e).toNat)
    else F.round (xor s t) (m * 2 ^ (e - f).toNat) n

/-- The integer square root of a number below 2^(2k), bit by bit. -/
def isqrtBits (n : Nat) : Nat → Nat → Nat
  | 0, r => r
  | k + 1, r => if (r + 2 ^ k) * (r + 2 ^ k) ≤ n then isqrtBits n k (r + 2 ^ k) else isqrtBits n k r
def isqrt (n : Nat) : Nat := isqrtBits n (Nat.log2 n / 2 + 1) 0

/-- Square root. -/
def Fmt.sqrt (F : Fmt) (x : Nat) : Nat :=
  match F.val x with
  | .nan => F.nanBits
  | .inf s => if s then F.nanBits else F.infBits false
  | .fin s m e =>
    if m = 0 then F.signBit s
    else if s then F.nanBits
    else
      let sh := 2 * (F.mb + 4) + (if e % 2 = 0 then 0 else 1)
      let r := isqrt (m * 2 ^ sh)
      let r2 := 2 * r + (if r * r = m * 2 ^ sh then 0 else 1)
      F.roundDy false r2 ((e - sh) / 2 - 1)

/-- `x < y`; a NaN compares false. -/
def Fmt.lt (F : Fmt) (x y : Nat) : Bool :=
  match F.val x, F.val y with
  | .nan, _ => false
  | _, .nan => false
  | .inf s, .inf t => s && !t
  | .inf s, _ => s
  | _, .inf t => !t
  | .fin s m e, .fin t n f =>
    let g := min e f
    scaled s m e g < scaled t n f g

/-- The larger of two values; the first where neither is larger or one is a NaN. -/
def Fmt.larger (F : Fmt) (x y : Nat) : Nat := if F.lt x y then y else x

/-- The pattern's value is a number (no NaN, no infinity). -/
def Fmt.finite (F : Fmt) (x : Nat) : Bool :=
  match F.val x with | .fin _ _ _ => true | _ => false

/-- The pattern is a zero of either sign. -/
def Fmt.isZero (F : Fmt) (x : Nat) : Bool :=
  match F.val x with | .fin _ m _ => m == 0 | _ => false

/-- `⌊x · num / den⌋` exactly; none where x is no number (R236). -/
def Fmt.floorMul (F : Fmt) (x num den : Nat) : Option Int :=
  match F.val x with
  | .fin s m e =>
    let v : Int := (if s then -(m : Int) else m) * num
    some (if e < 0 then v / ((den : Int) * 2 ^ (-e).toNat) else v * 2 ^ e.toNat / den)
  | _ => none

/-- The integer nearest to x · 2^k, ties to even; none where x is no number (R299). -/
def Fmt.toFixed (F : Fmt) (x k : Nat) : Option Int :=
  match F.val x with
  | .fin s m e =>
    let q : Int := roundAt m 1 (-(e + k))
    some (if s then -q else q)
  | _ => none

/-- The nearest integer, ties to even, cut to [lo, hi]; an infinity gives its limit, a NaN an integer that
the manual does not state. -/
def Fmt.toInt (F : Fmt) (x : Nat) (lo hi : Int) : Int :=
  match F.val x with
  | .nan => min hi (max lo (Config.nanInt (BitVec.ofNat 64 x)))
  | .inf s => if s then lo else hi
  | .fin _ _ _ => min hi (max lo ((F.toFixed x 0).getD 0))

/-- The FP32 constants 0, 1. -/
def zero32 : Nat := 0
def one32 : Nat := 0x3F800000

/-- FP32 read from little-endian bytes. -/
def f32At (b : Bytes) (off : Nat) : Nat := fieldLE b off 4

/-! ## Sine, cosine and the exponential, in fixed point

Values are integers in units of 2⁻²⁵⁶. -/

/-- 1, π and ln 2. -/
def fixOne : Int := 2 ^ 256
def fixPi : Int := 0x3243f6a8885a308d313198a2e03707344a4093822299f31d0082efa98ec4e6c89
def fixLn2 : Int := 0xb17217f7d1cf79abc9e3b39803f2f6af40f343267298b62d8a0d175b8baafa2b

/-- A product. -/
def fixMul (a b : Int) : Int := a * b / fixOne

/-- `n` terms of the series of the sine (from `k` = 1 and `t` = x) or the cosine (from 0 and 1); `xx` is x². -/
def trigSeries (xx : Int) : Nat → Int → Int → Int
  | 0, _, _ => 0
  | n + 1, k, t => t + trigSeries xx n (k + 2) (-fixMul t xx / ((k + 1) * (k + 2)))

/-- Sine and cosine of an angle in radians, of at most a few turns. -/
def fixSin (x : Int) : Int := trigSeries (fixMul x x) 64 1 x
def fixCos (x : Int) : Int := trigSeries (fixMul x x) 64 0 fixOne

/-- Sine and cosine of an angle in 0.01 degree. -/
def sinCentideg (a : Int) : Int := fixSin (a % 36000 * fixPi / 18000)
def cosCentideg (a : Int) : Int := fixCos (a % 36000 * fixPi / 18000)

/-- `n` terms of the series of the exponential, from `k` = 1 and `t` = 1. -/
def expSeries (x : Int) : Nat → Int → Int → Int
  | 0, _, _ => 0
  | n + 1, k, t => t + expSeries x n (k + 1) (fixMul t x / k)

/-- A square root. -/
def fixSqrt (x : Int) : Int := isqrt (x * fixOne).toNat

/-- The arc cosine, by halving the angle `k` times and then the series of the arc sine. -/
def fixAcos (c : Int) : Nat → Int
  | 0 =>
    let s := fixSqrt (fixOne - fixMul c c)
    let ss := fixMul s s
    let term (t : Int) (n : Int) : Int := fixMul t ss * (2 * n - 1) / (2 * n)
    let t1 := term s 1; let t2 := term t1 2; let t3 := term t2 3; let t4 := term t3 4
    s + t1 / 3 + t2 / 5 + t3 / 7 + t4 / 9
  | k + 1 => 2 * fixAcos (fixSqrt ((fixOne + c) / 2)) k

/-- A finite FP32 value (R233); 0 for a pattern that is no number. -/
def fix32 (x : Nat) : Int :=
  match f32.val x with
  | .fin s m e => scaled s m e (-256)
  | _ => 0

/-- A value of function `id` of its operands, to FP32. -/
def fixToF32 (id : Nat) (args : List Int) (v : Int) : Nat :=
  f32.faithful (Config.roundsUp id args) (v < 0) v.natAbs fixOne.toNat

/-- The exponential in FP32 (R318). -/
def exp32 (x : Nat) : Nat :=
  match f32.val x with
  | .nan => f32.nanBits
  | .inf s => if s then 0 else f32.infBits false
  | .fin _ _ _ =>
    let v := fix32 x
    if v < -150 * fixOne then 0
    else if v > 100 * fixOne then f32.infBits false
    else
      let k := v / fixLn2
      let e := (expSeries (v % fixLn2) 64 1 fixOne).toNat
      let up := Config.roundsUp 2 [x]
      if k < 0 then f32.faithful up false e (2 ^ (256 + (-k).toNat)) else f32.faithful up false (e * 2 ^ k.toNat) (2 ^ 256)

/-- FP32 sums in list order, from +0. -/
def sum32 (xs : List Nat) : Nat := xs.foldl f32.add 0

/-- FP64 sums in list order, from +0. -/
def sum64 (xs : List Nat) : Nat := xs.foldl f64.add 0

end Sys2Proof.Machine
end

