-- ==== Sys2Proof/Machine/Layout.lean ====
section
/-!
DEFINITION. Where the structures of package memory lie: addresses (R25, R29, R255), map-table segments
(R291 to R294), slice rings (Table 9-4), hash tables (R258), the pose ring and the segment pools, and
who owns a line (R355).
-/
namespace Sys2Proof.Machine

/-! ## Addresses -/

/-- The end of the usable local range (R25), the size of a module's span range (R29), and where the
shelves begin in `State.mem`. -/
def localEnd : Nat := 0x1F00000000
def moduleSpan : Nat := 0x2000000000
def shelfBase : Nat := 2 ^ 39
def shelfSize : Nat := 2 ^ 25

/-- Module `m` can be accessed: this module, or a member that the head shows ACTIVE. -/
def State.activeModule (s : State) (m : Nat) : Bool :=
  m == s.self || (s.reg SPAN_STATUS.STATE == 2 && s.reg SPAN_MEMBER_STATUS.STATE (4 * m) == 2)

/-- The address in `mem` of a local offset of this module. -/
def State.localAddr (s : State) (off : Nat) : Nat := s.self * moduleSpan + off

/-- A range of `len` bytes at an operator address (R255, R29, R288): its address in `mem`, or the status
it completes with. `cat` lets it overlap the catalogue. -/
def State.locate (s : State) (cat : Bool) (addr len : Nat) : Nat ⊕ Nat :=
  if addr ≥ 2 ^ 63 then
    let off := addr - 2 ^ 63
    if off + len ≤ shelfSize && off < 2 ^ 25 then .inl (shelfBase + s.self * shelfSize + off) else .inr ERR_ACCESS
  else
    let m := addr / moduleSpan
    let off := addr % moduleSpan
    if m ≥ 4 || off + len > localEnd then .inr ERR_ACCESS
    else if !cat && off < 0x10000 && len != 0 then .inr ERR_ACCESS
    else if !s.activeModule m then .inr ERR_SPAN_LOST
    else .inl addr

/-- A range at a local offset of this module (R25); it never names another module. -/
def State.locateLocal (s : State) (off len : Nat) : Nat ⊕ Nat :=
  if off + len > localEnd then .inr ERR_ACCESS
  else if off < 0x10000 && len != 0 then .inr ERR_ACCESS
  else .inl (s.localAddr off)

/-- The DRAM channel of a package-memory line (R350). -/
def channelOf (line : Nat) : Nat := line / 4 % 8

/-- A line of a shelf. -/
def isShelf (line : Nat) : Bool := line ≥ shelfBase / 64

/-- The domain of a shelf line (R255). -/
def shelfDomain (line : Nat) : Nat := if (line * 64 - shelfBase) % shelfSize < 2 ^ 24 then 241 else 242

/-- A line's address in the form of ZRC_PLOG_ADDR (Table 15-6). -/
def plogAddr (line : Nat) : Nat :=
  if isShelf line then 2 ^ 63 + (line * 64 - shelfBase) % shelfSize else line * 64

/-- The line that an `Upset` names. -/
def upsetLine (u : Upset) : Nat :=
  if u.line ≥ 2 ^ 63 then (shelfBase + u.line % shelfSize) / 64 else u.line / 64

/-! ## Map tables -/

def tdD (t : Nat) : Nat := selD t

def State.tRows (s : State) (t : Nat) : Nat := s.reg TD_ROWS_M1.ROWS_M1 (tdD t) + 1
def State.tDim (s : State) (t : Nat) : Nat := s.reg TD_DIM.DIM (tdD t)
/-- PLACEMENT: 0 LOCAL, 1 COLUMN_SPLIT, 2 POOL. -/
def State.tPlace (s : State) (t : Nat) : Nat := s.reg TD_CTRL.PLACEMENT (tdD t)
/-- The modules that hold a part, ascending. -/
def State.tMods (s : State) (t : Nat) : List Nat :=
  (List.range 4).filter fun m => bit (s.reg TD_CTRL.MODULES (tdD t)) m
/-- The columns a module holds (R291). -/
def State.tDl (s : State) (t : Nat) : Nat :=
  if s.tPlace t = 1 then s.tDim t / max 1 (s.tMods t).length else s.tDim t
/-- A row carries an Adagrad accumulator (R292). -/
def State.tHasG (s : State) (t : Nat) : Bool := s.reg TD_CTRL.OPTIM (tdD t) == 2
/-- The record size of class `c` (Table 12-1). -/
def State.recSize (s : State) (t c : Nat) : Nat :=
  let d := s.tDl t
  let v := if c = 0 then 4 * d else if c = 1 then 2 * d else if c = 2 then d + 4 else d / 2 + 4
  roundUp (v + if s.tHasG t then 4 else 0) 16
def State.tCap (s : State) (t c : Nat) : Nat := s.reg TD_CAP.CAP (tdD t + 4 * c)
/-- The shard length in rows; SHARD_LOG2 above 8 is taken as 8. -/
def State.shardRows (s : State) (t : Nat) : Nat := 2 ^ (12 + min 8 (s.reg TD_CTRL.SHARD_LOG2 (tdD t)))
/-- Module `m` holds the directory (R291, Table 12-3). -/
def State.hasDir (s : State) (t m : Nat) : Bool := if s.tPlace t = 2 then m == 0 else true

def page (n : Nat) : Nat := roundUp n 4096
/-- The segment of version `v` on module `m`, and its regions (Table 12-3), as addresses in `mem`. -/
def State.segAt (s : State) (t v m : Nat) : Nat :=
  m * moduleSpan + s.reg64 TD_SEG_BASE_LO.ADDR TD_SEG_BASE_HI.ADDR (tdD t + 8 * v) / 4096 * 4096
def State.dirAt (s : State) (t v m : Nat) : Nat := s.segAt t v m + 4096
def State.popAt (s : State) (t v m : Nat) : Nat := s.dirAt t v m + page (8 * s.tRows t)
def State.loadAt (s : State) (t v m : Nat) : Nat := s.popAt t v m + page (2 * s.tRows t)
def State.loadSize (s : State) (t m : Nat) : Nat :=
  if s.tPlace t = 2 && m == 0 then page (4 * ceilDiv (s.tRows t) (s.shardRows t)) else 0
def State.poolAt (s : State) (t v m c : Nat) : Nat :=
  let base := if s.hasDir t m then s.loadAt t v m + s.loadSize t m else s.segAt t v m + 4096
  base + ((List.range c).map fun k => page (s.tCap t k * s.recSize t k)).sum
def State.segEnd (s : State) (t v m : Nat) : Nat :=
  s.poolAt t v m 4 + ((List.range 4).map fun k => page (4 * s.tCap t k)).sum
/-- The versions set up. -/
def State.tVersions (s : State) (t : Nat) : List Nat :=
  (List.range 4).filter fun v => bit (s.reg TD_CTRL.VERSIONS_VALID (tdD t)) v
/-- The staging area on module `m`: its bytes per row are not stated (R300). -/
def State.stageArea (s : State) (t m : Nat) : Nat × Nat :=
  (m * moduleSpan + s.reg64 TD_STAGE_BASE_LO.ADDR TD_STAGE_BASE_HI.ADDR (tdD t) / 4096 * 4096,
   s.reg TD_STAGE_ROWS.ROWS (tdD t) * Config.stageRowBytes (s.tDl t))
/-- The hot area of module `m`'s shelf: base in `mem`, and slot size (R297). A slot holds a record of any
class, so it has the size of the largest (DEDUCED, log entry 106). -/
def State.hotSlot (s : State) (t : Nat) : Nat := s.recSize t 0
def State.hotAt (s : State) (t m slot : Nat) : Nat :=
  shelfBase + m * shelfSize + s.reg TD_HOT_BASE.OFFSET (tdD t) / 64 * 64 + slot * s.hotSlot t

/-! ## Hash tables -/

def brlD (t : Nat) : Nat := 0x18 * t
/-- LOG2_SLOTS, values out of 8 to 28 taken as 16 (R283); PROBE_MAX, 0 taken as 8. -/
def State.brlLog (s : State) (t : Nat) : Nat :=
  let v := s.reg BRL_T_CTRL.LOG2_SLOTS (brlD t)
  if 8 ≤ v ∧ v ≤ 28 then v else 16
def State.brlProbe (s : State) (t : Nat) : Nat :=
  let v := s.reg BRL_T_CTRL.PROBE_MAX (brlD t)
  if v = 0 then 8 else v
def State.brlSize (s : State) (t : Nat) : Nat := 16 * 2 ^ s.brlLog t
def State.brlOffset (s : State) (t : Nat) : Nat :=
  s.reg64 BRL_T_BASE_LO.ADDR BRL_T_BASE_HI.ADDR (brlD t) / 64 * 64
/-- The table's range lies in usable memory, or in the shelf (R283). -/
def State.brlFits (s : State) (t : Nat) : Bool :=
  s.brlOffset t + s.brlSize t ≤ if s.regB BRL_T_CTRL.LOC (brlD t) then shelfSize else localEnd
def State.brlAt (s : State) (t : Nat) : Nat :=
  if s.regB BRL_T_CTRL.LOC (brlD t) then shelfBase + s.self * shelfSize + s.brlOffset t
  else s.localAddr (s.brlOffset t)

/-! ## Rings and pools -/

/-- The point area of a slice ring begins this far into it (P of Table 9-4's text). -/
def Port.pointsOff (p : Port) : Nat := page (64 * p.slots)
def Port.ringSize (p : Port) : Nat := p.pointsOff + 16 * p.slotPts * p.slots
def State.hdrAt (s : State) (p : Port) (n : Nat) : Nat := s.localAddr (p.ringBase + 64 * (n % max 1 p.slots))
def State.ptsAt (s : State) (p : Port) (n : Nat) : Nat :=
  s.localAddr (p.ringBase + p.pointsOff + 16 * p.slotPts * (n % max 1 p.slots))

/-- The pose ring: entries, and the offset of entry k (R223). -/
def State.poseSize (s : State) : Nat := 2 ^ log2In 10 16 (s.reg GNT_POSE_SIZE.LOG2)
def State.poseOff (s : State) (k : Nat) : Nat :=
  s.reg64 GNT_POSE_BASE_LO.ADDR GNT_POSE_BASE_HI.ADDR / 4096 * 4096 + 64 * (k % s.poseSize)

/-- The segment pool of module `m` (R313). -/
def segBytes : Nat := 65536
def State.poolBase (s : State) (m : Nat) : Nat :=
  m * moduleSpan + s.reg64 AGT_POOL_BASE_LO.ADDR AGT_POOL_BASE_HI.ADDR (selD m) / segBytes * segBytes
def State.poolSegs (s : State) (m : Nat) : Nat := s.reg AGT_POOL_SEGS.SEGS (selD m)

/-! ## Owners of lines (R355, Table 15-1) -/

/-- Address `a` lies in the `len` bytes from `base`. -/
def within (a base len : Nat) : Bool := base ≤ a && a < base + len

/-- The class, identifier and instance of the owner of a map-table line: journal, segment or staging. -/
def State.tableOwner (s : State) (a t : Nat) : Option (Nat × Nat × Nat) :=
  let inst := s.reg TD_CTRL.OWNER (tdD t)
  let m := a / moduleSpan
  if !(s.tMods t).contains m then none
  else if (s.tVersions t).any fun v => within a (s.segAt t v m) 4096 then some (8, t, inst)
  else if (s.tVersions t).any fun v => within a (s.segAt t v m) (s.segEnd t v m - s.segAt t v m)
    then some (1, t, inst)
  else if within a (s.stageArea t m).1 (s.stageArea t m).2 then some (2, t, inst)
  else none

/-- The first answer over a list. -/
def firstSome {α β : Type} (f : α → Option β) : List α → Option β
  | [] => none
  | x :: xs => match f x with | some y => some y | none => firstSome f xs

/-- The owner of a package-memory line: class, identifier, instance whose ring is told. -/
def State.ownerOf (s : State) (line : Nat) : Nat × Nat × Nat :=
  let a := line * 64
  let m := a / moduleSpan
  let off := a % moduleSpan
  if off < 0x10000 then (3, off / 256, 0)
  else match firstSome (fun t => s.tableOwner a t) ((List.range 256).filter fun t =>
      s.reg TD_CTRL.MODULES (tdD t) != 0) with
  | some o => o
  | none => match s.ports.find? fun p => p.2.bound && m == s.self && within off p.2.ringBase p.2.ringSize with
    | some p => (4, p.1, s.reg GNT_P_CTRL.OWNER (portD p.1))
    | none =>
      if m == s.self && s.regB GNT_POSE_CTRL.EN && within off (s.poseOff 0) (64 * s.poseSize) then (5, s.reg GNT_POSE_CTRL.PORT, 0)
      else match (List.range 32).find? fun t => s.regB BRL_T_CTRL.EN (brlD t)
          && !s.regB BRL_T_CTRL.LOC (brlD t) && within a (s.brlAt t) (s.brlSize t) with
      | some t => (6, t, 0)
      | none => if within a (s.poolBase m) (segBytes * s.poolSegs m) then (7, m, 0) else (0, 0, 0)

end Sys2Proof.Machine
end

