-- ==== Sys2Proof/Machine/Memory.lean ====
section
/-!
DEFINITION. Package memory and the shelf as every block sees them (chapter 15): bytes, correctable and
uncorrectable errors, poison and its log, write-backs, and writes that cover lines whole or in part.
-/
namespace Sys2Proof.Machine
open Host (Outcome)

/-- Flag sets joined. -/
def flags (a b : Nat) : Nat := Nat.lor a b

/-! ## Bytes -/

/-- The byte at an address of `mem`; one not listed is zero. -/
def State.byteAt (s : State) (a : Nat) : Byte := SMap.get s.mem a 0

/-- `n` bytes as they stand. -/
def State.peek (s : State) (a n : Nat) : Bytes := (List.range n).map fun i => s.byteAt (a + i)

/-- Bytes stored one after another, a zero leaving the list. -/
def putBytes (m : SMap Byte) (a : Nat) : Bytes → SMap Byte
  | [] => m
  | b :: bs => putBytes (SMap.put m a b 0) (a + 1) bs

/-- The bytes of a range made zero. -/
def zeroBytes (m : SMap Byte) (a n : Nat) : SMap Byte := m.filter fun c => !within c.1 a n

/-- The lines that a range touches. -/
def linesOf (a n : Nat) : List Nat :=
  if n = 0 then [] else (List.range ((a + n - 1) / 64 - a / 64 + 1)).map (a / 64 + ·)

def State.isPoison (s : State) (line : Nat) : Bool := SMap.get s.poison line false

/-- Channel `c` is FAILED (R365). -/
def State.channelFailed (s : State) (c : Nat) : Bool := s.reg ZRC_C_STATE.STATE (0x20 * c) == 2

/-- A line of this module's package memory that lies on a FAILED channel. -/
def State.lineFailed (s : State) (line : Nat) : Bool :=
  !isShelf line && line * 64 / moduleSpan == s.self && s.channelFailed (channelOf line)

/-! ## Errors found by reads -/

/-- How a read came about, as the poison log numbers it (Table 15-6). -/
inductive ReadKind where
  | demand | scrub | region (writeBack : Bool)
deriving DecidableEq, Repr

def ReadKind.source : ReadKind → Nat
  | .demand => 1 | .scrub => 2 | .region _ => 3

/-- An entry of the poison log (Table 15-6). -/
def State.logPoison (s : State) (line source cls id : Nat) : State :=
  let n := s.reg ZRC_PLOG_WR.COUNT % 64
  { (s.count ZRC_PLOG_WR.COUNT) with plog := SMap.ins s.plog n ⟨plogAddr line, source, cls, id⟩ }

/-- The line is marked poisoned; any error in it is met. -/
def State.markPoison (s : State) (line : Nat) : State :=
  { s with poison := SMap.put s.poison line true false,
           ceLines := SMap.put s.ceLines line false false,
           ueLines := SMap.put s.ueLines line false false }

/-- The line holds fresh data and check bits: no poison, no error, no write-back due (R352, R353). -/
def State.freshLine (s : State) (line : Nat) : State :=
  let c := channelOf line
  { s with poison := SMap.put s.poison line false false,
           ceLines := SMap.put s.ceLines line false false,
           ueLines := SMap.put s.ueLines line false false,
           wbQueue := SMap.put s.wbQueue c ((SMap.get s.wbQueue c []).filter (· != line)) [] }

/-- CE_THRESH of channel `c`, once its counter has reached the threshold (R14). -/
def State.checkThresh (s : State) (c : Nat) : State :=
  let v := s.reg ZRC_C_CE_CNT.COUNT (0x20 * c)
  if v ≥ s.reg ZRC_CE_THRESH.COUNT then
    ({ s with armed := SMap.put s.armed (satWord ZRC_C_CE_CNT.COUNT (0x20 * c)) true false } : State).pfEvent 0x0501
      (some c) v
  else s

/-- A threshold written (R14): its events are armed again (the pools' marks, from key 2^32 on, stay), and raised where the
value is already there. -/
def State.writeThresh (s : State) (v : Nat) : State :=
  (List.range 8).foldl State.checkThresh { (s.setReg ZRC_CE_THRESH.COUNT 0 v) with armed := s.armed.filter (2 ^ 32 ≤ ·.1) }

/-- A line of another module's package memory, whose own Zircon counts and logs what its reads find. -/
def State.lineAway (s : State) (line : Nat) : Bool := !isShelf line && line * 64 / moduleSpan != s.self

/-- A correctable error counted (R353): CE_THRESH once, when the threshold is reached (R14). -/
def State.countCe (s : State) (c : Nat) : State :=
  let s := s.count ZRC_C_CE_CNT.COUNT (0x20 * c)
  if SMap.get s.armed (satWord ZRC_C_CE_CNT.COUNT (0x20 * c)) false then s else s.checkThresh c

/-- A write-back is queued, at most 16 a channel (R353). -/
def State.queueWb (s : State) (line : Nat) : State :=
  let c := channelOf line
  let q := SMap.get s.wbQueue c []
  if q.contains line || q.length ≥ 16 then s
  else { s with wbQueue := SMap.ins s.wbQueue c (q ++ [line]) }

/-- A corrected error on a read of package memory, or of the shelf (R353, R360, R362). -/
def State.corrected (s : State) (k : ReadKind) (line : Nat) : State :=
  if isShelf line then
    ({ s with ceLines := SMap.put s.ceLines line false false } : State).count ZRC_SRAM_CE_CNT.COUNT
  else if s.lineAway line then { s with ceLines := SMap.put s.ceLines line false false }
  else
    let s := s.countCe (channelOf line)
    match k with
    | .region wb => if wb then { s with ceLines := SMap.put s.ceLines line false false } else s
    | _ => if s.regB ZRC_CTRL.CE_WRITEBACK then s.queueWb line else s

/-- A directory search falls due (R361): a scrub has found a line of a map-table segment. -/
def State.wantSearch (s : State) (k : ReadKind) (line cls : Nat) : State :=
  if k == .demand || cls != 1 then s else { s with searches := s.searches ++ [line] }

/-- The registers of table `t`'s open step cleared. -/
def State.stepRegs (s : State) (t : Nat) : State :=
  let d := tdD t
  let s := ((s.setReg TD_CTRL.STEP_OPEN d 0).setReg TD_STAGED.ROWS d 0).setReg TD_CONTRIB.COUNT d 0
  s.setReg TD_CONTRIB.OVERFLOW d 0

/-- The words of a catalogue entry (Tables 12-8 and 12-9): byte offset, fields, their displacement. -/
def tdWords : List (Nat × List Fld × Nat) :=
  (regsSpn.filter fun r => 0x5D00 ≤ r.off).flatMap fun r => match r.dims with
    | [] => [(r.off - 0x5D00, r.flds, 0)]
    | (k, n) :: _ => (List.range n).map fun i => (r.off - 0x5D00 + k * i, r.flds, k * i)

/-- A word as its fields give it. -/
def State.wordOf (s : State) (flds : List Fld) (d : Nat) : Nat := (flds.map fun F => s.reg F d * 2 ^ F.lo).sum

/-- The catalogue entry of table `t`: 256 B. -/
def State.catalogueEntry (s : State) (t : Nat) : Bytes :=
  (List.range 64).flatMap fun i => leBytes 4 (match tdWords.find? fun w => w.1 == 4 * i with
    | some w => s.wordOf w.2.1 (tdD t + w.2.2)
    | none => 0)

/-- The other modules that hold a part of the table, at the head: those that hold a copy of its entry (R288). -/
def State.copyHolders (s : State) (t : Nat) : List Nat :=
  if s.reg SPAN_STATUS.STATE = 2 then (s.tMods t).filter (· != s.self) else []

/-- The copies of the entry follow a change of it since `old` (R288). -/
def State.spreadFrom (s old : State) (t : Nat) : State :=
  let ms := s.copyHolders t
  if ms.isEmpty || s.catalogueEntry t == old.catalogueEntry t then s
  else ms.foldl (fun u m => u.sendTo m 0 0 (.ctrl (.catalogue t (s.catalogueEntry t)))) s

/-- The wait of a TABLE_SWITCH for the readers of an old version. -/
def heldReaders : Nat := 7

/-- A TABLE_SWITCH of table `t` is under way. -/
def State.switching (s : State) (t : Nat) : Bool :=
  s.ops.any fun e => match e.2.phase with
    | .held w args => w == heldReaders && args.headD 256 == t
    | _ => false

/-- A COMMIT of table `t`'s open step is under way. -/
def State.committing (s : State) (t : Nat) : Bool :=
  match SMap.get? s.steps t with | some st => st.stage != 0 | none => false

def State.migrating (s : State) (t : Nat) : Bool := (SMap.get? s.migs t).isSome

/-- The event of a migration whose table is gone with package memory (R125, R126). -/
def settledEvent (e : Nat × Migration) : Nat × Nat := (if e.2.recorded then 0x0510 else 0x0511, e.1)

/-- TD_CTRL.BUSY: a commit, switch or migration is under way (Table 12-8). -/
def State.settleBusy (s : State) (t : Nat) : State :=
  s.setReg TD_CTRL.BUSY (tdD t) (b2n (s.committing t || s.switching t || s.migrating t))

/-- How far the COMMIT of table `t`'s step is. -/
def State.setStage (s : State) (t n : Nat) : State :=
  match SMap.get? s.steps t with
  | some st => ({ s with steps := SMap.ins s.steps t { st with stage := n } } : State).settleBusy t
  | none => s

/-- The COMMIT of table `t`'s step has taken effect (R301): its records are written. -/
def State.commitTaken (s : State) (t : Nat) : Bool :=
  match SMap.get? s.steps t with | some st => st.stage == 3 | none => false

/-- The open step of table `t` closes, its staged values gone. -/
def State.closeStep (s : State) (t : Nat) : State :=
  { (s.stepRegs t) with steps := SMap.del s.steps t }

/-- The operation is a STAGE or COMMIT of step `step` of table `t` in flight. -/
def Op.ofStep (o : Op) (t step : Nat) : Bool :=
  match o.sqe? with
  | none => false
  | some q => q.opcode == 0x0402 && q.fld 32 1 == t && q.fld 36 4 == step && match o.phase with
    | .handoff => true
    | .held _ _ => q.fld 33 1 == 0
    | .started => !o.prog.isEmpty
    | _ => false

/-- Table `t`'s open step is discarded on every owner; a STAGE or COMMIT of it in flight completes with `status`
(Table 12-6, R311). A step whose COMMIT has taken effect is no longer discarded (DEDUCED, log entry 146). -/
def State.discardStep (s : State) (t status : Nat) : State :=
  if !s.regB TD_CTRL.STEP_OPEN (tdD t) || s.commitTaken t then s
  else
    let step := s.reg TD_STEP.STEP (tdD t)
    let u := (s.closeStep t).settleBusy t
    let u : State := { u with
      handoffs := u.handoffs.filter fun h => !(h.func == 8 && h.args.headD 256 == t)
      ops := u.ops.map fun (e : Nat × Op) =>
        if e.2.ofStep t step then (e.1, { e.2 with phase := .done status none none }) else e }
    u.spreadFrom s t

/-- A poisoned line in a staging area discards the table's open step, and one in a catalogue entry clears EN (R311). -/
def State.spoilStaging (s : State) (cls t : Nat) : State :=
  if cls = 2 then s.discardStep t ABORT_RESET else if cls = 3 then (s.setReg TD_CTRL.EN (tdD t) 0).spreadFrom s t else s

/-- A new uncorrectable error (R354, R362). -/
def State.uncorrected (s : State) (k : ReadKind) (line : Nat) : State :=
  let s := s.markPoison line
  if isShelf line then
    let s := (s.count ZRC_SRAM_UE_CNT.COUNT).logPoison line 5 0 0
    s.pfEvent 0x0504 (some (shelfDomain line)) (plogAddr line)
  else
    let c := channelOf line
    let o := s.ownerOf line
    let s := if s.lineAway line then s
      else (s.count ZRC_C_UE_CNT.COUNT (0x20 * c)).logPoison line k.source o.1 o.2.1
    let code := if k == .demand then 0x0502 else 0x0503
    (s.event o.2.2 { code := code, detail := some (o.1 + 2 ^ 8 * o.2.1 + 2 ^ 16 * c),
                     arg := line * 64 }).wantSearch k line o.1 |>.spoilStaging o.1 o.2.1

/-- A read reaches a line (R353, R354, R365). -/
def State.touch (s : State) (k : ReadKind) (line : Nat) : State :=
  if s.isPoison line then s
  else if s.lineFailed line || SMap.get s.ueLines line false then s.uncorrected k line
  else if SMap.get s.ceLines line false then s.corrected k line
  else s

/-- A read of a range. -/
def State.touchAll (s : State) (a n : Nat) : State :=
  (linesOf a n).foldl (fun t l => t.touch .demand l) s

/-- A line of the range is poisoned. -/
def State.poisonIn (s : State) (a n : Nat) : Bool := (linesOf a n).any s.isPoison

/-- A demand read: the bytes, whether any line was poisoned, and the state after. -/
def State.read (s : State) (a n : Nat) : Bytes × Bool × State :=
  let t := s.touchAll a n
  (t.peek a n, t.poisonIn a n, t)

/-- The data of a line are wrong, whatever they were, and nothing shows it (R351). -/
def State.corruptLine (s : State) (line : Nat) : State :=
  let r := s.drawBytes 64
  { r.2 with mem := putBytes r.2.mem (64 * line) r.1 }

/-- The errors that the environment shows in the memory arrays with a command. A line already poisoned
takes no further error. -/
def State.plant (s : State) (us : List Upset) : State :=
  us.foldl (fun t u =>
    let l := upsetLine u
    if t.isPoison l then t
    else if u.silent then t.corruptLine l
    else if u.ue then { t with ueLines := SMap.put t.ueLines l true false }
    else { t with ceLines := SMap.put t.ceLines l true false }) s

/-! ## Writes -/

/-- What a write in part of a poisoned line does: nothing (R352), or Garnet's and Spinel's rewriting of
the line with zeros elsewhere (Table 15-2). -/
inductive WriteKind where
  | plain | rewrite
deriving DecidableEq, Repr

/-- A write of bytes within one line. The flag says that a poisoned line kept them out. -/
def State.writeLine (s : State) (w : WriteKind) (a : Nat) (data : Bytes) : State × Bool :=
  let line := a / 64
  if s.lineFailed line then (if data.length = 64 then s else s.touch .demand line, false)
  else if data.length = 64 then
    ({ (s.freshLine line) with mem := putBytes s.mem a data }, false)
  else
    let t := s.touch .demand line
    if t.isPoison line then
      match w with
      | .plain => (t, true)
      | .rewrite =>
        ({ (t.freshLine line) with mem := putBytes (zeroBytes t.mem (64 * line) 64) a data }, false)
    else ({ (t.freshLine line) with mem := putBytes t.mem a data }, false)

/-- The part of a run of bytes at `a` that falls in line `l`: its address and bytes. -/
def linePart (a : Nat) (data : Bytes) (l : Nat) : Nat × Bytes :=
  let lo := max a (64 * l)
  let hi := min (a + data.length) (64 * l + 64)
  (lo, (data.drop (lo - a)).take (hi - lo))

/-- A write of a run of bytes: poison met in part-covered lines is reported. -/
def State.writeAs (s : State) (w : WriteKind) (a : Nat) (data : Bytes) : State × Bool :=
  (linesOf a data.length).foldl (fun r l =>
    let p := linePart a data l
    let t := r.1.writeLine w p.1 p.2
    (t.1, r.2 || t.2)) (s, false)

/-- An operator's write. -/
def State.write (s : State) (a : Nat) (data : Bytes) : State × Bool := s.writeAs .plain a data

/-- A write by Garnet or Spinel (Table 15-2). -/
def State.writeOver (s : State) (a : Nat) (data : Bytes) : State := (s.writeAs .rewrite a data).1

/-- A line receives a poison mark by propagation (R357): logged, no event. -/
def State.spreadPoison (s : State) (line : Nat) : State :=
  if s.lineFailed line then s
  else
    let o := if isShelf line then (0, 0, 0) else s.ownerOf line
    let s := (s.freshLine line).markPoison line
    if s.lineAway line then s else s.logPoison line 4 o.1 o.2.1

/-- A range made zero, with fresh check bits: whole lines only. -/
def State.zeroRange (s : State) (a n : Nat) : State :=
  { s with mem := zeroBytes s.mem a n, poison := s.poison.filter fun e => !within (64 * e.1) a n,
           ceLines := s.ceLines.filter fun e => !within (64 * e.1) a n,
           ueLines := s.ueLines.filter fun e => !within (64 * e.1) a n }

/-- A choice among several that the manual leaves open. -/
def State.pick (s : State) (l : List Nat) : Option Nat × State :=
  match l with
  | [] => (none, s)
  | [x] => (some x, s)
  | _ => (l[Config.freeNat s.free % l.length]?, { s with free := s.free + 1 })

/-! ## Zircon's commands -/

/-- CE_WRITEBACK (R353): the oldest queued write-back of channel `c` is made. -/
def execCeWriteback (c : Nat) (s : State) : Outcome State Fault Refusal :=
  match SMap.get s.wbQueue c [] with
  | [] => unitStep c 8 false s s
  | l :: _ => unitStep c 8 (s.power.on && (s.dom (188 + c)).up && !s.channelFailed c) (s.freshLine l) s

/-- The lines of a channel in this module: 15.5 GiB in 64 B lines. -/
def channelLines : Nat := 260046848

/-- Line `i` of channel `c` in address order (R350). -/
def State.channelLine (s : State) (c i : Nat) : Nat := s.localAddr (2048 * (i / 4) + 256 * c) / 64 + i % 4

/-- The end of a scrub pass (R358). -/
def State.passDone (s : State) (c : Nat) : State :=
  let s := (s.setReg ZRC_C_SCRUB_POS.LINES (0x20 * c) 0).count ZRC_C_PASSES.COUNT (0x20 * c)
  let s := { s with scrubTold := SMap.put s.scrubTold c false false }
  if s.regB ZRC_CTRL.PASS_EVT_EN then
    s.pfEvent 0x0507 (some c) (s.reg ZRC_C_PASSES.COUNT (0x20 * c))
  else s

/-- A burst of 64 lines (R358). -/
def State.scrubBurst (s : State) (c : Nat) : State :=
  let p := s.reg ZRC_C_SCRUB_POS.LINES (0x20 * c)
  let n := min 64 (channelLines - p)
  let s := (List.range n).foldl (fun t i => t.touch .scrub (t.channelLine c (p + i))) s
  let s := s.setReg ZRC_C_SCRUB_POS.LINES (0x20 * c) (p + n)
  if p + n ≥ channelLines then s.passDone c else s

/-- SCRUB_BEHIND (R359): once for a pass. -/
def execScrubBehind (c : Nat) (s : State) : Outcome State Fault Refusal :=
  unitStep c 8 (s.ready && s.regB ZRC_CTRL.SCRUB_EN && !SMap.get s.scrubTold c false)
    (({ s with scrubTold := SMap.put s.scrubTold c true false } : State).pfEvent 0x0508 (some c)
      (channelLines - s.reg ZRC_C_SCRUB_POS.LINES (0x20 * c))) s

/-- The state of channel `c`, and its failed retrainings in a row, after one period (R365). -/
def State.retrain (s : State) (c ns : Nat) (ok retryOk : Bool) : State :=
  let d := 0x20 * c
  let s := s.setReg ZRC_C_STATE.RETRAIN_NS d (min ns 0xFFF)
  let s := if ok then s else s.count ZRC_C_RETRAIN_FAIL.COUNT d
  if ok || retryOk then
    { (s.setReg ZRC_C_STATE.STATE d 0) with retrainRun := SMap.put s.retrainRun c 0 0 }
  else
    let n := SMap.get s.retrainRun c 0 + 1
    let s := { (s.count ZRC_C_RETRAIN_FAIL.COUNT d) with retrainRun := SMap.put s.retrainRun c n 0 }
    let s := s.pfEvent 0x0505 (some c)
    if n ≥ 3 then (s.setReg ZRC_C_STATE.STATE d 2).pfEvent 0x0506 (some c)
    else s.setReg ZRC_C_STATE.STATE d 1

/-- CALIBRATEs that wait for channel `c` end with its retraining (R377, Table 16-5). -/
def State.calibrated (s : State) (c ns : Nat) (good : Bool) : State :=
  if s.anyHeld heldCal [0, c] then
    (if good then s else s.testFail 0 c s.self true).finishHeld heldCal [0, c] OK (some (min ns 0xFFF))
  else s

/-- Channel `c` retrains, and what waited for that goes on. -/
def State.retrained (s : State) (c ns : Nat) (ok retryOk : Bool) : State :=
  (s.retrain c ns ok retryOk).calibrated c ns (ok || retryOk)

/-- DRAM_RETRAINING (R364, R365). One that falls due while the channel is in self-refresh is kept, with what it will
measure, for the exit (R72). -/
def execDramRetraining (c ns : Nat) (ok retryOk : Bool) (s : State) : Outcome State Fault Refusal :=
  unitStep c 8 (s.power.on && !s.channelFailed c)
    (if (s.dom (188 + c)).up then s.retrained c ns ok retryOk
     else { s with retrainDue := SMap.ins s.retrainDue c (ns, ok, retryOk) }) s

/-- A Zircon channel leaves self-refresh: a retraining that fell due meanwhile is carried out (R72). -/
def State.selfRefreshExit (s : State) (n : Nat) : State :=
  let c := n - 188
  if n < 188 || 196 ≤ n then s
  else match SMap.get? s.retrainDue c with
    | none => s
    | some (ns, ok, retryOk) => ({ s with retrainDue := SMap.del s.retrainDue c } : State).retrained c ns ok retryOk

end Sys2Proof.Machine
end

