-- ==== Sys2Proof/Machine/Domains.lean ====
section
/-!
DEFINITION. Quartz's domains (chapter 3): idling, power-down through DRAIN, COMMIT and the rails,
parking, wakes with their grants and failures, floors and DOMAIN_HINT.
-/
namespace Sys2Proof.Machine
open Host (Outcome)

/-- The domains of the module. -/
def nDomains : Nat := 244

/-! ## Wakes -/

/-- Topaz has deferred the grant for a wake: WAKE_DEFERRED (R79), and the wake waits. -/
def State.deferWake (s : State) (n : Nat) : State :=
  (s.setDom n { s.dom n with grantWait := true }).pfEvent 0x0101 (some n)

/-- The wake of a facet's memory goes with its core's: both have the one grant of Table 4-1. -/
def State.besideCore (s : State) (n : Nat) : Bool :=
  104 ≤ n && n ≤ 167 && ((s.dom (n - 64)).grantWait || s.topaz.items.contains (.facet (n - 104)))

/-- A wake toward a state begins: a domain with no charge of its own, or a wake to RETAIN, needs no grant (R395);
otherwise Topaz is asked first, unless the item waits already. -/
def State.beginWake (s : State) (n prio : Nat) (tgt : DState) : State :=
  let s := s.setDom n { s.dom n with wakePend := true, wakeTo := tgt, lift := false, wakePrio := prio }
  match itemOf n, tgt with
  | none, _ => s.attempt n tgt
  | _, .retain => s.attempt n tgt
  | some i, _ =>
    if s.besideCore n then
      if (s.dom (n - 64)).grantWait then s.deferWake n else (s.addItem i).attempt n tgt
    else if s.topaz.queue.any (·.item == i) then s.deferWake n
    else
      let r := (s.setDom n { s.dom n with grantWait := true }).request i prio
      if r.2 then r.1 else r.1.deferWake n

/-- Quartz brings domain `n` up (R73). -/
def State.wake (s : State) (n prio : Nat) (tgt : DState) : State := s.wakeBy n prio tgt (·.beginWake n prio tgt)

/-- A wake of a facet core wakes its memory in parallel (R71). -/
def State.wakeOn (s : State) (n prio : Nat) : State :=
  let s := s.wake n prio .on
  if 40 ≤ n && n ≤ 103 then s.wake (n + 64) prio .on else s

/-- The effective floor has risen: the domain comes up to it (R395, Table 3-6). A floor of RETAIN cancels a DRAIN toward
OFF, and sets CANCEL, as one of IDLE does (DESIGN CHOICE, log entry 133). Grants that a floor asks for have
priority P7 (DESIGN CHOICE, log entry 131). -/
def State.meetFloor (s : State) (n : Nat) : State :=
  let f := s.effFloor n
  let d := s.dom n
  match f with
  | .off => s
  | .retain => if d.st == .off && d.phase == .none then s.wake n 7 .retain
      else if d.phase == .rails && d.target == .off then s.wake n 7 .retain
      else if d.phase == .drain && d.target == .off then s.cancelDown n else s
  | .idle => if d.phase != .none || d.st == .off || d.st == .retain then s.wakeOn n 7 else s
  | .on => if d.st == .on && d.phase == .none then s else s.wakeOn n 7

/-- Operations that wait for domain `n` to come up go on without it; one that waits for no more is
completed with the result it had. `args` is the result followed by the domains. -/
def State.domainReached (s : State) (n : Nat) : State :=
  ({ s with ops := s.ops.map fun (e : Nat × Op) =>
      match e.2.phase with
      | .held w args =>
        if w == heldDomains then
          let rest := args.drop 2 |>.filter (· != n)
          if rest.isEmpty then
            (e.1, { e.2 with phase := .done OK (some (args.headD 0)) (some (args.getD 1 0)) })
          else (e.1, { e.2 with phase := .held heldDomains (args.take 2 ++ rest) })
        else e
      | _ => e } : State).feed

/-- Packets that failed to reach a FAILED domain: their operations complete ABORT_RESET with detail
0x0103 (R82). -/
def State.abortPackets (s : State) (ps : List Pkt) : State :=
  ps.foldl (fun t p => match p.tag with
    | none => t
    | some tag => match t.op? tag with
      | none => t
      | some o => match o.phase with
        | .done _ _ _ => t
        | _ => t.finish tag ABORT_RESET none (some 0x0103)) s

/-- Every parked and held packet is delivered, in parking order (R76, R77). -/
def State.deliver (s : State) (n : Nat) : State :=
  let d := s.dom n
  let ps := (d.parked ++ d.stalled).map (·.pkt)
  let s := s.setDom n { d with parked := [], stalled := [] }
  if ps.isEmpty then s else s.emit (.delivered n ps)

/-- The HOT bit of a directory entry cleared. -/
def State.coldRow (s : State) (a : Nat) : State :=
  { s with mem := putBytes s.mem a [s.byteAt a &&& 0xF7] }

/-- The hot area of table `t` is emptied on module `m`, and every HOT bit of version `v` cleared (R297). -/
def State.emptyHot (s : State) (t v m : Nat) : State :=
  (List.range (s.tRows t)).foldl (fun u r => u.coldRow (u.dirAt t v m + 8 * r)) s

/-- The banks of a shelf range lie in shelf domain `n`. -/
def inShelfDomain (n off len : Nat) : Bool :=
  if n = 241 then off < 2 ^ 24 && len != 0 else off + len > 2 ^ 24

/-- A shelf domain reaches OFF (R256, R297): contents gone, its hash tables LOST, hot areas in it emptied, of disabled
tables too. -/
def State.shelfOff (s : State) (n : Nat) : State :=
  let s := s.zeroRange (shelfBase + s.self * shelfSize + (if n = 241 then 0 else 2 ^ 24)) (2 ^ 24)
  let s := (List.range 32).foldl (fun u t =>
    if u.regB BRL_T_CTRL.EN (brlD t) && u.regB BRL_T_CTRL.LOC (brlD t)
      && inShelfDomain n (u.brlOffset t) (u.brlSize t) then u.setReg BRL_T_CTRL.LOST (brlD t) 1 else u) s
  (List.range 256).foldl (fun u t =>
    if (u.tVersions t).contains (u.reg TD_CTRL.ACTIVE_VER (tdD t)) && (u.tMods t).contains u.self
      && inShelfDomain n (u.reg TD_HOT_BASE.OFFSET (tdD t)) (u.hotSlot t * u.reg TD_HOT_SLOTS.SLOTS (tdD t))
      && u.hasDir t u.self
    then u.emptyHot t (u.reg TD_CTRL.ACTIVE_VER (tdD t)) u.self else u) s

/-- Contents that a domain loses at OFF (R71, R256): the shelf, or a facet's pinned weights. -/
def State.lostAtOff (s : State) (n : Nat) : State :=
  if n = 241 || n = 242 then s.shelfOff n
  else if 104 ≤ n && n ≤ 167 then s.setFacet (n - 104) { s.facet (n - 104) with pin := none }
  else s

/-! ## The commands -/

/-- DOMAIN_IDLE (R67); under step 5 of Table 4-3 a domain outside the floor goes on down (R94). -/
def State.domainIdle (s : State) (n : Nat) : State :=
  let s := s.setDom n { s.dom n with st := .idle }
  if s.charged > s.budget then s.forceDown n else s

/-- Domain `n` is a facet's that computes a tile. -/
def State.computes (s : State) (n : Nat) : Bool := 40 ≤ n && n ≤ 167 && (s.facet ((n - 40) % 64)).cur.isSome

/-- Domain `n` is not Peridot's, or Peridot is at depth `k` at least (Table 6-7: ON in Active, IDLE in Idle). -/
def State.peridotMay (s : State) (n k : Nat) : Bool := (n != 234 && n != 235) || s.reg QTZ_STATUS.DEPTH ≥ k

/-- DOMAIN_IDLE (R67): a floor of ON forbids it, as does a tile that a facet computes, or Peridot's Active depth. -/
def execDomainIdle (n : Nat) (s : State) : Outcome State Fault Refusal :=
  let d := s.dom n
  unitStep n nDomains (s.power.on && d.st == .on && d.phase == .none && (s.effFloor n).code < 3 && !s.computes n
      && s.peridotMay n 1)
    (s.domainIdle n) s

/-- A power-down from IDLE goes to OFF only with that floor and RETAIN_HOLD 0 (R68). -/
def State.downTarget (s : State) (n : Nat) : DState :=
  if s.effFloor n == .off && s.reg QTZ_DOM.RETAIN_HOLD (domD n) == 0 then .off else .retain

/-- POWER_DOWN_START (R68): Peridot goes down in its Deep depth only (Table 6-7), and a held facet keeps its rail
(R86). -/
def execPowerDownStart (n : Nat) (s : State) : Outcome State Fault Refusal :=
  let d := s.dom n
  unitStep n nDomains (s.power.on && d.st == .idle && d.phase == .none && d.parked.isEmpty
      && (s.effFloor n).code < 2 && d.holdoff ≤ s.ticks && !s.heldFacet n && s.peridotMay n 2)
    (s.setDom n { d with phase := .drain, target := s.downTarget n, fromRetain := false }) s

/-- RETAIN_HOLD_EXPIRY (R68): only to a floor of OFF, and never where the timer started with RETAIN_HOLD 0xFF (R80). -/
def execRetainHoldExpiry (n : Nat) (s : State) : Outcome State Fault Refusal :=
  let d := s.dom n
  unitStep n nDomains (s.power.on && d.st == .retain && d.phase == .none && s.effFloor n == .off
      && d.retainHold != 0xFF && d.parked.isEmpty && !d.wakePend
      && d.holdoff ≤ s.ticks)
    (s.setDom n { d with phase := .drain, target := .off, fromRetain := true }) s

/-- DRAIN_COMPLETE (R68): the COMMIT cycle passes and the rails switch. -/
def execDrainComplete (n : Nat) (s : State) : Outcome State Fault Refusal :=
  let d := s.dom n
  unitStep n nDomains (s.power.on && d.phase == .drain) (s.setDom n { d with phase := .rails }) s

/-- The charge of a domain that has reached RETAIN or OFF is released (R90); a pair's only when both
of its domains are down. -/
def State.releaseDomain (s : State) (n : Nat) : State :=
  match itemOf n with
  | none => s
  | some i =>
    let busy := (domainsOf i).any fun m => (s.dom m).up || (s.dom m).attempt != 0
    if s.topaz.items.contains i && !busy then s.release i else s.rebalance

/-- POWER_DOWN_COMPLETE (R90): the target is reached, contents not kept there are lost, the charge is
released, and a wake asked for meanwhile starts at once (R76). -/
def State.downComplete (s : State) (n : Nat) : State :=
  let d := s.dom n
  let s := s.setDom n { d with st := d.target, phase := .none, fromRetain := false,
                               retainHold := s.reg QTZ_DOM.RETAIN_HOLD (domD n) }
  let s := (if d.target == .off then s.lostAtOff n else s).releaseDomain n
  if d.wakePend then s.beginWake n d.wakePrio d.wakeTo else s

/-- POWER_DOWN_COMPLETE (R90). -/
def execPowerDownComplete (n : Nat) (s : State) : Outcome State Fault Refusal :=
  unitStep n nDomains (s.power.on && (s.dom n).phase == .rails) (s.downComplete n) s

/-- DRAIN_TIMEOUT (R81): no further attempt for 1 ms, which is 4,000 QCLK ticks. -/
def State.drainTimeout (s : State) (n : Nat) : State :=
  let d := s.dom n
  (s.setDom n { d with phase := .none, fromRetain := false, holdoff := s.ticks + 4000,
                       st := if d.fromRetain then .retain else .on }).pfEvent 0x0102 (some n)

/-- DRAIN_TIMEOUT (R81). -/
def execDrainTimeout (n : Nat) (s : State) : Outcome State Fault Refusal :=
  unitStep n nDomains (s.power.on && (s.dom n).phase == .drain) (s.drainTimeout n) s

/-- FLOOR_WRITE (R395, R84). -/
def execFloorWrite (n val : Nat) (s : State) : Outcome State Fault Refusal :=
  if n < nDomains ∧ val < 4 then
    stepIf s.running ((s.setReg QTZ_DOM.FLOOR (domD n) val).meetFloor n) s
  else .fault .noSuchUnit

/-- A packet is parked in its segment, whose 4 slots back-pressure the senders when full (R76, R77). -/
def State.park (s : State) (n seg : Nat) (p : Pkt) : State :=
  let d := s.dom n
  if (d.parked.filter (·.seg == seg)).length < 4 && !(d.stalled.any (·.seg == seg)) then
    s.setDom n { d with parked := d.parked ++ [⟨seg, p⟩] }
  else s.setDom n { d with stalled := d.stalled ++ [⟨seg, p⟩] }

/-- The priority of the operation that sent a packet, or P7 (R89). -/
def State.pktPrio (s : State) (p : Pkt) : Nat :=
  match p.tag.bind s.op? with
  | some o => s.effPrio o
  | none => 7

/-- A packet presented at a domain's ingress (R74 to R76, R82). -/
def State.ingress (s : State) (n seg : Nat) (p : Pkt) : State :=
  let d := s.dom n
  if d.failed then s.abortPackets [p]
  else if d.up && d.phase == .none then (s.setDom n { d with st := .on }).emit (.delivered n [p])
  else if d.phase == .drain && !d.fromRetain then (s.cancelDown n).emit (.delivered n [p])
  else
    let first := d.parked.isEmpty
    let s := s.park n seg p
    if first || !d.wakePend then s.wakeOn n (s.pktPrio p) else s

/-- A packet on its way through segment `seg`. Where the segment is not ON or IDLE, the packet waits at its sender and
the segment's wake is raised (R78); a segment that only drains takes it, as any domain in DRAIN does (R74). -/
def State.arrive (s : State) (n seg : Nat) (p : Pkt) : State :=
  let g := s.dom seg
  if (s.dom n).failed || g.failed then s.abortPackets [p]
  else if g.phase == .drain then (s.cancelDown seg).ingress n seg p
  else if g.up && g.phase == .none then (s.setDom seg { g with st := .on }).ingress n seg p
  else (s.setDom seg { g with atSender := g.atSender ++ [(n, p)] }).wakeOn seg (s.pktPrio p)

/-- The packets that waited at their senders for segment `seg` go on through it, in their order (R78). -/
def State.passOn (s : State) (seg : Nat) : State :=
  let ps := (s.dom seg).atSender
  ps.foldl (fun t x => t.ingress x.1 seg x.2) (s.setDom seg { s.dom seg with atSender := [] })

/-- PACKET_ARRIVAL (R75). -/
def execPacketArrival (n seg : Nat) (p : Pkt) (s : State) : Outcome State Fault Refusal :=
  if n < nDomains ∧ 204 ≤ seg ∧ seg ≤ 219 then stepIf s.power.on (s.arrive n seg p) s
  else .fault .noSuchUnit

/-- The domains that a wake source of Table 3-4 reaches, in this state. -/
def State.wakeAllowed (s : State) (n : Nat) : WakeSource → Bool
  | .packet => !(s.dom n).parked.isEmpty
  | .floor => (s.effFloor n).code > (s.dom n).st.code
  | .hint => true
  | .peridot => s.running
  | .deepPoll => n == 228 || n == 229 || n == 234 || n == 235
  | .pcie => n == 228 || n == 229
  | .linkEnergy => 4 ≤ n && n ≤ 23 && s.regB GNT_P_CTRL.CABLE_DETECT (portD ((n - 4) % 10))
  | .span => 220 ≤ n && n ≤ 227
  | .debug => (n == 239 || n == 243) && s.reg LPS_STATUS.DBG_LEVEL != 0
  | .eventRing => n == 228 || n == 229 || n == 234 || n == 235
  | .scrub => 188 ≤ n && n ≤ 195 && s.regB ZRC_CTRL.SCRUB_EN && s.regB ZRC_CTRL.SCRUB_WAKE

/-- WAKE (R73): a floor of RETAIN brings a domain at OFF to RETAIN only (R395). -/
def execWake (n : Nat) (src : WakeSource) (s : State) : Outcome State Fault Refusal :=
  unitStep n nDomains (s.power.on && s.wakeAllowed n src)
    (if src == .floor then s.meetFloor n else s.wakeOn n 7) s

/-- WAKE_COMPLETE (R76): parked packets are delivered, and operations that waited go on; a hint's hold
starts (R387), and a channel retrains where that fell due in RETAIN (R72). A wake to RETAIN delivers nothing, and
the wake to ON that was asked for meanwhile follows it. -/
def State.wakeComplete (s : State) (n : Nat) : State :=
  let d := s.dom n
  let s := s.setDom n { d with st := d.wakeTo, attempt := 0, wakePend := false, lift := false, wakePrio := 7,
                               holds := if d.wakeTo == .retain then d.holds else d.holds ++ d.holdsNext,
                               holdsNext := if d.wakeTo == .retain then d.holdsNext else [],
                               retainHold := s.reg QTZ_DOM.RETAIN_HOLD (domD n) }
  if d.wakeTo == .retain then
    (if d.lift || !d.parked.isEmpty || !d.atSender.isEmpty then s.wakeOn n d.wakePrio else s)
  else (((s.selfRefreshExit n).deliver n).passOn n).domainReached n

/-- WAKE_COMPLETE (R76). A facet core is ON only once its memory is up (R71). -/
def execWakeComplete (n : Nat) (s : State) : Outcome State Fault Refusal :=
  let d := s.dom n
  let memUp := !(40 ≤ n && n ≤ 103) || d.wakeTo == .retain || (s.dom (n + 64)).up
  unitStep n nDomains (s.power.on && (d.attempt == 1 || d.attempt == 2) && memUp) (s.wakeComplete n) s

/-- A BIND_PORT that waits for domain `n` completes ABORT_RESET with detail 0x0103 as its parked work
does (R82), and its binding is undone. -/
def State.bindFailed (s : State) (n : Nat) : State :=
  s.ops.foldl (fun t e =>
    match e.2.phase, e.2.sqe? with
    | .held w args, some q =>
      if w == heldDomains && q.opcode == 0x0101 && (args.drop 2).contains n then
        let p := q.fld 32 1
        ((t.setPort p portReset).setReg GNT_P_STATUS.PIPELINE (portD p) 0xF).finish e.1 ABORT_RESET none (some 0x0103)
      else t
    | _, _ => t) s

/-- The second attempt has failed (R82): the domain is FAILED and stays where its power cycle left it;
operations whose packets were parked complete ABORT_RESET, but a facet's tiles go to other facets. -/
def State.wakeFail (s : State) (n : Nat) : State :=
  let d := s.dom n
  let ps := (d.parked ++ d.stalled).map (·.pkt) ++ d.atSender.map (·.2)
  let s := s.setDom n { d with failed := true, attempt := 0, wakePend := false, lift := false, holdsNext := [],
                               parked := [], stalled := [], atSender := [] }
  let s := ((s.pfEvent 0x0103).releaseDomain n).bindFailed n
  let s := if 40 ≤ n && n ≤ 167 then s.returnTile ((n - 40) % 64) else s.abortPackets ps
  s.domainReached n

/-- POWER_CYCLE_COMPLETE (R82). -/
def execPowerCycleComplete (n : Nat) (s : State) : Outcome State Fault Refusal :=
  let d := s.dom n
  unitStep n nDomains (s.power.on && d.attempt == 3) (s.setDom n { d with attempt := 2 }) s

/-- Quartz asks for the charge of an item's domains that are down, before it powers them up; a request for another
charge (PoDL, a channel's traffic) is Topaz's alone (R85, R89). -/
def State.askFor (s : State) (i : Item) (prio : Nat) : State :=
  let down := (domainsOf i).filter fun n =>
    !(s.dom n).up && (s.dom n).phase == .none && !(s.dom n).wakePend && !(s.dom n).failed
  if down.isEmpty then (s.request i prio).1 else down.foldl (fun t n => t.wakeOn n prio) s

/-- GRANT_REQUEST (R89): an item that waits already is not asked for again. -/
def execGrantRequest (i : Item) (prio : Nat) (s : State) : Outcome State Fault Refusal :=
  if itemExists i && prio < 8 then
    stepIf (s.power.on && !s.topaz.queue.any (·.item == i)) (s.askFor i prio).rebalance s
  else .fault .noSuchUnit

/-- DEEP_SLEEP_POLL (R144): PCIe and Peridot are woken for one doorbell scan. -/
def execDeepSleepPoll (s : State) : Outcome State Fault Refusal :=
  stepIf (s.running && s.reg QTZ_STATUS.DEPTH == 2)
    (([228, 229, 234, 235].foldl (fun t n => t.wakeOn n 7) s).pollAll) s

/-- LINK_ENERGY_DETECT (R73). -/
def execLinkEnergyDetect (p : Nat) (s : State) : Outcome State Fault Refusal :=
  unitStep p 10 (s.running && s.regB GNT_P_CTRL.CABLE_DETECT (portD p))
    ((s.wakeOn (4 + p) 7).wakeOn (14 + p) 7) s

/-! ## DOMAIN_HINT (R387) -/

/-- The domains that the four ranges name, each once. -/
def hintDomains (e : Sqe) : List Nat :=
  (List.range nDomains).filter fun n => (List.range 4).any fun k =>
    let first := e.fld (40 + 2 * k) 1
    first ≤ n && n < first + e.fld (41 + 2 * k) 1

/-- The field checks of DOMAIN_HINT. -/
def hintOk (e : Sqe) : Bool :=
  (e.fld 32 1 == 2 || e.fld 32 1 == 3) && e.fld 33 1 < 2 && e.fld 36 4 ≤ 1000000
    && e.rsv [(34, 2), (48, 16)]
    && (List.range 4).all fun k =>
      e.fld (41 + 2 * k) 1 == 0 || e.fld (40 + 2 * k) 1 + e.fld (41 + 2 * k) 1 - 1 ≤ 243

/-- Skipped and counted in DETAIL: FAILED domains, and domain 243 while no debug session is accepted. -/
def State.hintSkips (s : State) (n : Nat) : Bool :=
  (s.dom n).failed || (n == 243 && s.reg LPS_STATUS.DBG_LEVEL == 0)

/-- A domain below the target, or in any phase of a power-down. -/
def State.belowTarget (s : State) (target : DState) (n : Nat) : Bool :=
  (s.dom n).st.code < target.code || (s.dom n).phase != .none

/-- The domain comes up at once: it only idles, or a power-down from IDLE is cancelled. -/
def State.upAtOnce (s : State) (n : Nat) : Bool :=
  let d := s.dom n
  (d.phase == .none && d.st == .idle) || (d.phase == .drain && !d.fromRetain)

/-- The hint reaches one domain: a low one is woken and held from when it is ON, another only held. -/
def State.hintOne (s : State) (target : DState) (prio n : Nat) : State :=
  let d := s.dom n
  if s.belowTarget target n && !s.upAtOnce n then
    (s.setDom n { d with holdsNext := d.holdsNext ++ [target] }).wakeOn n prio
  else
    let t := s.setDom n { d with holds := d.holds ++ [target] }
    if !s.belowTarget target n then t
    else if d.phase == .drain then (t.cancelDown n).wakeOn n prio
    else t.wakeOn n prio

/-- DOMAIN_HINT's effect: RESULT counts the woken domains, DETAIL the skipped ones. -/
def State.hintOp (s : State) (tag : Nat) (o : Op) (e : Sqe) : State :=
  let target := DState.ofCode (e.fld 32 1)
  let named := hintDomains e
  let use := named.filter fun n => !s.hintSkips n
  let woken := use.filter (s.belowTarget target)
  let skipped := named.length - use.length
  let s := use.foldl (fun t n => t.hintOne target (t.effPrio o) n) s
  let low := woken.filter fun n => (s.dom n).st != .on || (s.dom n).phase != .none
  if e.fld 33 1 = 1 || low.isEmpty then s.finish tag OK (some woken.length) (some skipped)
  else match s.op? tag with
    | none => s
    | some o => s.setOp tag { o with phase := .held heldDomains (woken.length :: skipped :: low) }

/-- DOMAIN_HINT (R387). -/
def execDomainHint (tag : Nat) (_ : OpIo) (s : State) : Outcome State Fault Refusal :=
  answer s (s.runOp tag 0x0030 anyone (fun _ e => orDescriptor (hintOk e)) fun o e => s.hintOp tag o e)

/-- DOMAIN_HINT_HOLD_EXPIRY (R387): hold number `k` of those that domain `n` has ends. -/
def execDomainHintHoldExpiry (n k : Nat) (s : State) : Outcome State Fault Refusal :=
  unitStep n nDomains (s.power.on && k < (s.dom n).holds.length)
    (s.setDom n { s.dom n with holds := (s.dom n).holds.eraseIdx k }) s

end Sys2Proof.Machine
end

