-- ==== Sys2Proof/Machine/Power.lean ====
section
/-!
DEFINITION. The power input, the thermal steps, the supply measurements and the SMBus target
(chapter 2). Times that a condition must have held are the commands' own claims.
-/
namespace Sys2Proof.Machine
open Host (Outcome)

/-- A power-on reset at the instant S (R106): everything is as `State.reset` has it but the fuses, the
levels of the pins, what R125 and R126 have the firmware report, and the model's own queue, outputs and counters. TRIPPED says that the last power
fail was a thermal trip (Table 2-16). -/
def State.powerOn (s : State) : State :=
  let t : State := { State.reset with
    pending := s.pending, out := s.out ++ [.uartStage 1], ticks := s.ticks, free := s.free,
    boot := { State.reset.boot with svn := s.boot.svn },
    pcie := { State.reset.pcie with perst := s.pcie.perst },
    node := { State.reset.node with spres := s.node.spres },
    migTold := s.migTold ++ s.migs.map settledEvent }
  if s.power.trip then t.setReg GBL_THERMAL.TRIPPED 0 1 else t

/-- A power fail (R37): the outputs go off and internal power goes. The restart waits for the hold, a
new qualification and a new charge (R394). -/
def State.powerFail (s : State) (hold : Hold) (trip closed : Bool) : State :=
  let s := (s.setReg JDE_STATUS.OUT_A 0 0).setReg JDE_STATUS.OUT_B 0 0
  { s with power := ⟨false, false, false, closed, hold, trip, false, [0, 0, 0]⟩ }

/-- The conditions of R106 for S. -/
def State.tryStart (s : State) : State :=
  if s.power.charged && s.power.qualified && s.power.closed && s.power.hold == .none then s.powerOn
  else s

/-- BULK_CHARGE_COMPLETE (R35). -/
def execBulkChargeComplete (s : State) : Outcome State Fault Refusal :=
  stepIf (!s.power.on && s.power.closed && s.power.hold == .none && !s.power.charged)
    ({ s with power := { s.power with charged := true } } : State).tryStart s

/-- INPUT_QUALIFIED (R36). -/
def execInputQualified (s : State) : Outcome State Fault Refusal :=
  stepIf (!s.power.on && s.power.closed && s.power.hold == .none)
    ({ s with power := { s.power with qualified := true } } : State).tryStart s

/-- The input has failed while the module was off: the qualification restarts from zero (R36). -/
def State.unqualify (s : State) : State := { s with power := { s.power with qualified := false } }

/-- VIN_UNDERVOLTAGE (R37). -/
def execVinUndervoltage (s : State) : Outcome State Fault Refusal :=
  answer s (if s.power.on then s.powerFail .none false true else s.unqualify)

/-- VIN_BELOW_12V (R37). -/
def execVinBelow12v (s : State) : Outcome State Fault Refusal :=
  answer s (if s.power.on then s.powerFail .none false true else s.unqualify)

/-- DRAW_OVER_28W (R37). -/
def execDrawOver28w (s : State) : Outcome State Fault Refusal :=
  stepIf s.power.on (s.powerFail .none false true) s

/-- VIN_OVERVOLTAGE (R36): the input switch opens; a hold that runs keeps running. -/
def execVinOvervoltage (s : State) : Outcome State Fault Refusal :=
  answer s (if s.power.on then s.powerFail .none false false
    else { s with power := { s.power with charged := false, qualified := false, closed := false } })

/-- OVERVOLTAGE_RECOVERY (R36): the switch closes and the bulk capacitance recharges; VIN has stayed
within its limits for the qualification time. -/
def execOvervoltageRecovery (s : State) : Outcome State Fault Refusal :=
  stepIf (!s.power.on && !s.power.closed)
    { s with power := { s.power with charged := false, closed := true,
                                     qualified := s.power.hold == .none } } s

/-- HOLD_TIME_EXPIRY (R394). -/
def execHoldTimeExpiry (s : State) : Outcome State Fault Refusal :=
  stepIf (!s.power.on && s.power.hold != .none) { s with power := { s.power with hold := .none } } s

/-! ## Thermal steps (R58) -/

/-- The thermal step of a die reading in 0.1 °C (Table 2-12). -/
def thermalStep (die : Int) : Nat :=
  if die ≥ 1100 then 3 else if die ≥ 1050 then 2 else if die ≥ 1000 then 1 else 0

/-- The threshold of a step in 0.1 °C. -/
def stepThreshold (k : Nat) : Int := [0, 1000, 1050, 1100].getD k 1100

/-- Entry into a higher step: FCLK is capped, and THERMAL_STEP is raised once with the step in force. -/
def State.enterStep (s : State) (k : Nat) : State :=
  let s := (s.setReg GBL_THERMAL.STEP 0 k).setReg GBL_PWR_EVENTS.THERM 0 1
  let s := if s.fclkCharged > s.thermalCap then s.lowerFclk s.thermalCap else s
  (s.pfEvent 0x01E1 (some k)).rebalance

/-- The reading is at least 5 °C below the threshold of step `k`. -/
def coolFor (die : Int) (k : Nat) : Bool := die ≤ stepThreshold k - 50

/-- The runs of readings below the exit of each step, after one more sample. -/
def State.coolRuns (s : State) (die : Int) : List Nat :=
  [1, 2, 3].map fun k =>
    if !coolFor die k then 0
    else let t := s.power.cool.getD (k - 1) 0
      if t = 0 then s.ticks + 1 else t

/-- One sample of the four die sensors; the highest is reported, and 120 °C trips. -/
def State.dieSample (s : State) (die : Int) : State :=
  let s := s.setReg GBL_THERMAL.DIE_C 0 (unsigned 12 die)
  let s := { s with power := { s.power with cool := s.coolRuns die } }
  if die ≥ 1200 then s.powerFail .sec1 true true
  else if thermalStep die > s.reg GBL_THERMAL.STEP then s.enterStep (thermalStep die)
  else s

/-- DIE_TEMPERATURE_SAMPLE (R58): readings in 0.1 °C. The sensors run from stage 0x2 on (R394). -/
def execDieTemperatureSample (a b c d : Int) (s : State) : Outcome State Fault Refusal :=
  stepIf s.sensing (s.dieSample (max (max a b) (max c d))) s

/-- With the step `k` left, the reading has been at least 5 °C below the threshold of step `j` for 10 ms (40,000
ticks) too: as long as for `k`, or that long by the ticks. -/
def State.cooled (s : State) (k j : Nat) : Bool :=
  let t := s.power.cool.getD (j - 1) 0
  t != 0 && (t ≤ s.power.cool.getD (k - 1) 0 || t + 40000 ≤ s.ticks + 1)

/-- The highest of the steps up to `n` that is still in force once step `k` is left. -/
def State.exitStep (s : State) (k : Nat) : Nat → Nat
  | 0 => 0
  | n + 1 => if s.cooled k (n + 1) then s.exitStep k n else n + 1

/-- THERMAL_STEP_EXIT (R58): the reading has stayed at least 5 °C below the threshold of the step in force for
10 ms. The highest lower step whose own 10 ms have not passed stays in force; no event. -/
def execThermalStepExit (s : State) : Outcome State Fault Refusal :=
  let k := s.reg GBL_THERMAL.STEP
  stepIf (s.power.on && k != 0 && s.power.cool.getD (k - 1) 0 != 0)
    (s.setReg GBL_THERMAL.STEP 0 (s.exitStep k (k - 1))).rebalance s

/-! ## Measurements -/

/-- SUPPLY_MEASUREMENT (R63, Tables 2-15 and 2-18): VIN in mV, STOP_VS in 0.1 V, current in mA. -/
def State.measure (s : State) (vinMv : Int) (dv ma : Nat) : State :=
  let v := vinMv.toNat
  let s := s.setReg GBL_SUPPLY.VIN_MV 0 (min v 0xFFFF)
  let s := (s.setReg GBL_SUPPLY.STOPVS_DV 0 (min dv 0xFFF)).setReg GBL_SUPPLY.STOPVS_OK 0 (b2n (dv ≥ 160))
  let s := s.setReg GBL_INPUT.IIN_MA 0 (min ma 0xFFFF)
  s.setReg GBL_INPUT.PIN_DW 0 (min (v * ma / 100000) 0xFFFF)

/-- SUPPLY_MEASUREMENT (R63). -/
def execSupplyMeasurement (vinMv : Int) (stopvsDv iinMa : Nat) (s : State) :
    Outcome State Fault Refusal :=
  stepIf s.power.on (s.measure vinMv stopvsDv iinMa) s

/-- ALERT_N is driven low: some bit of GBL_PWR_EVENTS is set (R62). The pin is released with the last bit; it is
an open drain, so without internal power nothing drives it. -/
def State.alertLow (s : State) : Bool :=
  s.power.on && (s.regB GBL_PWR_EVENTS.STOP_OC || s.regB GBL_PWR_EVENTS.STOPVS_LOW || s.regB GBL_PWR_EVENTS.THERM
    || s.regB GBL_PWR_EVENTS.PODL)

/-- The word of a GBL measurement register that SMBus serves (R40). -/
def State.smbusWord (s : State) (cmd : Nat) : Option Nat :=
  if cmd = 0x80 then some (s.reg GBL_SUPPLY.VIN_MV + 2 ^ 16 * s.reg GBL_SUPPLY.STOPVS_DV
    + 2 ^ 28 * s.reg GBL_SUPPLY.STOPVS_OK)
  else if cmd = 0x84 then some (s.reg GBL_THERMAL.DIE_C + 2 ^ 12 * s.reg GBL_THERMAL.STEP
    + 2 ^ 14 * s.reg GBL_THERMAL.TRIPPED)
  else none

/-- SMBUS_BLOCK_READ (R40): the target answers from the end of stage 0x1, whatever PERST_N is, and
through an MRESET_N reset. -/
def execSmbusBlockRead (addr cmd : Nat) (s : State) : Outcome State Fault Refusal :=
  answer s (s.emit (match s.smbusWord cmd with
    | some w => if s.sensing && addr == 0x4C
        then .smbus (leBytes 4 w) else .smbusNoAck
    | none => .smbusNoAck))

end Sys2Proof.Machine
end

