-- ==== Sys2Proof/Machine/Jade.lean ====
section
/-!
DEFINITION. Jade (R239 to R254): the guard test of a point, field selection from speed, stops, restart,
test pulses, feedback, faults, and GUARD_FIELD_LOAD. Both lanes run in step; what makes them differ is
an operand of the command.
-/
namespace Sys2Proof.Machine
open Host (Outcome)

/-- A time in ms in QCLK ticks. -/
def msTicks (ms : Nat) : Nat := 4000 * ms

/-- A register value with 0 taken as another. -/
def orIf0 (v d : Nat) : Nat := if v = 0 then d else v

/-! ## Blocks in force -/

/-- i32 at a byte offset. -/
def i32At (b : Bytes) (off : Nat) : Int := signed 32 (fieldLE b off 4)

/-- A prism of a field set (Table 10-12). -/
structure Prism where
  mask : Nat
  zMin : Int
  zMax : Int
  verts : List (Int × Int)
deriving DecidableEq, Repr

def prismAt (b : Bytes) (k : Nat) : Prism :=
  let o := 16 + 80 * k
  { mask := fieldLE b (o + 2) 2, zMin := i32At b (o + 4), zMax := i32At b (o + 8),
    verts := (List.range (fieldLE b o 1)).map fun i => (i32At b (o + 16 + 8 * i), i32At b (o + 20 + 8 * i)) }

/-- The prisms of a set's block. -/
def prisms (b : Bytes) : List Prism := (List.range (fieldLE b 0 1)).map (prismAt b)

/-- Entry `i` of the velocity table: UPPER_MMS and SET. -/
def State.vEntry (s : State) (i : Nat) : Nat × Nat :=
  let e := fieldLE s.jade.vtab (4 * i) 4
  (bits e 0 16, bits e 16 3)

/-- A velocity table is loaded; set `k` is loaded; port `p` has a transform. -/
def State.vLoaded (s : State) : Bool := !s.jade.vtab.isEmpty
def State.setLoaded (s : State) (k : Nat) : Bool := (SMap.get? s.jade.sets k).isSome
def State.xformLoaded (s : State) (p : Nat) : Bool := (SMap.get? s.jade.xforms p).isSome

/-- The sets that the velocity table names. -/
def State.namedSets (s : State) : List Nat :=
  if s.vLoaded then ((List.range 16).map fun i => (s.vEntry i).2).eraseDups else []

/-- The guard runs: its rails are up from the end of stage 0x2, and no warm reset or recovery stops it (R32, R117, R119,
R253). -/
def State.guardRuns (s : State) : Bool := s.power.on && s.reg GBL_BOOT_STATUS.STAGE ≥ 3

/-- JDE_STATUS.STATE (Table 10-9). -/
def State.jState (s : State) : Nat := s.reg JDE_STATUS.STATE
def State.setJState (s : State) (v : Nat) : State := s.setReg JDE_STATUS.STATE 0 v

/-! ## The test of a point (R242, R243) -/

/-- A coordinate in 2⁻¹⁴⁹ m, exactly, of a finite FP32. -/
def exact32 (x : Nat) : Option Int :=
  match f32.val x with
  | .fin s m e => some (scaled s m e (-149))
  | _ => none

/-- Units of the exact body frame: 2⁻²⁹ · 2⁻¹⁴⁹ µm in one micrometre. -/
def umUnit : Int := 2 ^ 178

/-- The point in the body frame, in units of 1/`umUnit` µm: rotation in units of 2⁻²⁹, translation in µm;
the identity without a transform (R243). -/
def State.bodyPoint (s : State) (p : Nat) (x y z : Int) : Int × Int × Int :=
  match SMap.get? s.jade.xforms p with
  | none => (x * 1000000 * 2 ^ 29, y * 1000000 * 2 ^ 29, z * 1000000 * 2 ^ 29)
  | some b =>
    let row (i : Nat) : Int := (i32At b (12 * i) * x + i32At b (12 * i + 4) * y + i32At b (12 * i + 8) * z)
      * 1000000 + i32At b (36 + 4 * i) * umUnit
    (row 0, row 1, row 2)

/-- How surely a point lies in a prism: outside or inside by at least Jade's error, or nearer to a face. -/
inductive Sure where
  | out | near | inside
deriving DecidableEq, Repr

/-- The edges of a polygon. -/
def edges (vs : List (Int × Int)) : List ((Int × Int) × (Int × Int)) :=
  match vs with
  | [] => []
  | v :: rest => vs.zip (rest ++ [v])

/-- How far left of the line through an edge a point lies, times the edge's length. -/
def leftOf (a b : Int × Int) (x y : Int) : Int :=
  (b.1 - a.1) * (y - a.2 * umUnit) - (b.2 - a.2) * (x - a.1 * umUnit)

/-- The square of an edge's length. -/
def edge2 (a b : Int × Int) : Int := (b.1 - a.1) * (b.1 - a.1) + (b.2 - a.2) * (b.2 - a.2)

/-- A point `dz` above or below an edge's face is nearer than `tol` to the face's border. -/
def nearEdge (a b : Int × Int) (x y dz tol : Int) : Bool :=
  let px := x - a.1 * umUnit
  let py := y - a.2 * umUnit
  let qx := x - b.1 * umUnit
  let qy := y - b.2 * umUnit
  let t := px * (b.1 - a.1) + py * (b.2 - a.2)
  if t ≤ 0 then px * px + py * py + dz * dz < tol * tol
  else if t ≥ edge2 a b * umUnit then qx * qx + qy * qy + dz * dz < tol * tol
  else leftOf a b x y * leftOf a b x y + dz * dz * edge2 a b < tol * tol * edge2 a b

/-- A point of the body frame against a prism, when Jade may misplace it by `tol` (R242). -/
def prismSure (q : Prism) (x y z tol : Int) : Sure :=
  let zi := min (z - q.zMin * umUnit) (q.zMax * umUnit - z)
  let es := edges q.verts
  let within := es.all fun e => leftOf e.1 e.2 x y ≥ 0
  if within && zi ≥ 0 then
    if zi < tol || es.any fun e => nearEdge e.1 e.2 x y 0 tol then .near else .inside
  else
    let dz := max 0 (-zi)
    if (within && dz < tol) || es.any fun e => nearEdge e.1 e.2 x y dz tol then .near else .out

/-- Jade's error for a point of the sensor frame: 1 mm within 50 m of the sensor (R242), and in proportion to the
distance beyond (DESIGN CHOICE, log entry 89). -/
def jadeError (x y z : Int) : Int :=
  let r : Int := isqrt (x * x + y * y + z * z).toNat + 1
  if x * x + y * y + z * z ≤ (50 * 2 ^ 149) * (50 * 2 ^ 149) then 1000 * umUnit
  else 1000 * umUnit * r / (50 * 2 ^ 149) + 1

/-- A coordinate in 2⁻¹⁴⁹ m is within the i32 µm that Jade converts it to (Table 10-7). -/
def inI32 (x : Int) : Bool := x * 1000000 < 2 ^ 31 * 2 ^ 149 && -(2 ^ 31 * 2 ^ 149) ≤ x * 1000000

/-- A point of the sensor frame as Jade has it: its place in the body frame, and Jade's error. None where a coordinate is
no number or beyond i32 µm, for which the manual states no result (DESIGN CHOICE, log entry 89). -/
def State.placed (s : State) (port : Nat) (x y z : Nat) : Option ((Int × Int × Int) × Int) :=
  match exact32 x, exact32 y, exact32 z with
  | some a, some b, some c =>
    if inI32 a && inI32 b && inI32 c then some (s.bodyPoint port a b c, jadeError a b c) else none
  | _, _, _ => none

/-- The lowest prism of the set in force that a point lies in. Nearer to a face than Jade's error the manual lets the
decision go either way: a free choice, as it is for a point that Jade cannot place. -/
def State.testPrisms (s : State) (pt : Option ((Int × Int × Int) × Int)) (port : Nat) :
    List (Nat × Prism) → State × Option Nat
  | [] => (s, none)
  | (k, q) :: rest =>
    if !bit q.mask port then s.testPrisms pt port rest
    else
      match (match pt with
        | none => Sure.near
        | some w => prismSure q w.1.1 w.1.2.1 w.1.2.2 w.2) with
      | .inside => (s, some k)
      | .out => s.testPrisms pt port rest
      | .near =>
        let r := s.drawBool
        if r.1 then (r.2, some k) else r.2.testPrisms pt port rest

/-- Prisms with their numbers. -/
def numbered (l : List Prism) : List (Nat × Prism) := (List.range l.length).zip l

/-- Jade tests a point of a port, given in the sensor frame (R242): the prism it hits, if any. -/
def State.testPoint (s : State) (port : Nat) (x y z : Nat) : State × Option Nat :=
  if s.jState == 0 && s.reg LPS_STATUS.DBG_LEVEL == 3 then (s, none)
  else match SMap.get? s.jade.sets (s.reg JDE_STATUS.SET) with
    | none => (s, none)
    | some b => s.testPrisms (s.placed port x y z) port (numbered (prisms b))

/-! ## Outputs, stops and faults -/

/-- Both outputs are driven. A test pulse that this cuts short ends here, and its output changes with the other. -/
def State.outputs (s : State) (on : Bool) : State :=
  let ch (F : Fld) (k old : Nat) : Nat := if s.regB F = on && s.jade.pulse != some k then old else s.ticks + 1
  let pe (k old : Nat) : Nat := if s.jade.pulse = some k then s.ticks + 1 else old
  let j := { s.jade with changeA := ch JDE_STATUS.OUT_A 0 s.jade.changeA,
                         changeB := ch JDE_STATUS.OUT_B 1 s.jade.changeB, pulse := none,
                         pulseEndA := pe 0 s.jade.pulseEndA, pulseEndB := pe 1 s.jade.pulseEndB }
  ((({ s with jade := j } : State).setReg JDE_STATUS.OUT_A 0 (b2n on)).setReg JDE_STATUS.OUT_B 0 (b2n on))

/-- DETAIL of GUARD_STOP (Table 10-15). -/
def State.stopDetail (s : State) (cause : Nat) : Nat :=
  cause + 2 ^ 8 * s.reg JDE_CAUSE.PORT + 2 ^ 16 * s.reg JDE_CAUSE.PRISM + 2 ^ 21 * s.reg JDE_STATUS.SET

/-- A stop cause of Table 10-10 (R249): in RUN both outputs go off, the cause is recorded and GUARD_STOP
raised; the state is STOPPED, or the one given. -/
def State.stop (s : State) (cause : Nat) (tgt : Nat := 3) : State :=
  if s.jState == 2 then
    let s := ((s.outputs false).setJState tgt).setReg JDE_CAUSE.CAUSE 0 cause
    let s := { s with jade := { s.jade with needGo := true } }
    (s.count JDE_STOP_CNT.COUNT).pfEvent 0x0401 (some (s.stopDetail cause))
  else s

/-- A Jade fault (R254): the bit is set, its event raised once while it is set (for each part at fault), and FAULT
entered; debug level 3 keeps Jade DISABLED (R124). -/
def State.jadeFault (s : State) (F : Fld) (code : Nat) (details : List Nat) : State :=
  let s := if s.regB F then s else details.foldl (fun t d => t.pfEvent code (some d)) (s.setReg F 0 1)
  if s.reg LPS_STATUS.DBG_LEVEL = 3 then s
  else if s.jState == 2 then s.stop 8 4 else (s.outputs false).setJState 4

/-! ## Field selection (R244 to R246) -/

/-- The lowest-numbered entry at or above a speed, with `margin` to spare. -/
def State.stepFor (s : State) (speed margin : Nat) : Option Nat :=
  (List.range 16).find? fun i => speed + margin ≤ (s.vEntry i).1

/-- A step comes into force with its set; FIELD_STEP is raised if asked for. -/
def State.setStep (s : State) (k : Nat) : State :=
  let old := s.reg JDE_STATUS.STEP
  let s := s.setReg JDE_STATUS.STEP 0 k
  let s := if s.vLoaded then s.setReg JDE_STATUS.SET 0 (s.vEntry k).2 else s
  if s.regB JDE_CTRL.STEP_EVT_EN && old != k then
    s.pfEvent 0x0403 (some (k + 16 * s.reg JDE_STATUS.SET))
  else s

/-- The speed of a pose frame in mm/s (R244), rounded up to a whole number; none where it is no number or
beyond every table. -/
def State.poseSpeed (s : State) (vx vy yaw : Nat) : Option Nat :=
  match exact32 vx, exact32 vy, exact32 yaw with
  | some x, some y, some w =>
    let n2 := (1000 * 1000 * (x * x + y * y)).toNat
    let r := isqrt n2 + (if isqrt n2 * isqrt n2 = n2 then 0 else 1)
    some (ceilDiv (r + w.natAbs * s.reg JDE_VEL.ROT_RADIUS_MM) (2 ^ 149))
  | _, _, _ => none

/-- The speed exceeds every UPPER_MMS: OVERSPEED, with step 15 in force (R244). -/
def State.overspeed (s : State) : State := (s.setStep 15).stop 3

/-- Speeds are kept, newest first, for the longest DOWN_MS, with the newest before that. -/
def keepSpeeds (ticks : Nat) (l : List (Nat × Option Nat)) : List (Nat × Option Nat) :=
  l.takeWhile (fun e => ticks < e.1 + msTicks 65536) ++ (l.dropWhile fun e => ticks < e.1 + msTicks 65536).take 1

/-- s has stayed at or below `limit` for `ticks` (R245): the speed in force at the start of that time and every later one. -/
def State.stayedBelow (s : State) (limit ticks : Nat) : Bool :=
  let low (e : Nat × Option Nat) : Bool := match e.2 with
    | some v => v ≤ limit
    | none => false
  let recent := s.jade.speeds.takeWhile fun e => s.ticks + 1 < e.1 + ticks
  match s.jade.speeds.drop recent.length with
  | [] => false
  | e :: _ => low e && recent.all low

/-- A fresh velocity (R244 to R246): a higher step at once; a lower one waits for FIELD_STEP_DOWN. -/
def State.velocity (s : State) (vx vy yaw : Nat) : State :=
  let v := s.poseSpeed vx vy yaw
  let s := s.setReg JDE_SPEED.SPEED_MMS 0 (match v with | some x => min x 0xFFFF | none => 0xFFFF)
  let s := { s with jade := { s.jade with velAt := s.ticks + 1, speeds := keepSpeeds s.ticks ((s.ticks + 1, v) :: s.jade.speeds) } }
  let s := if s.regB JDE_STATUS.VEL_STALE then
      (s.setReg JDE_STATUS.VEL_STALE 0 0).pfEvent 0x0405 (some (s.reg JDE_SPEED.SPEED_MMS))
    else s
  if !s.vLoaded then s
  else match v.bind fun x => s.stepFor x 0 with
    | none => s.overspeed
    | some k => if k > s.reg JDE_STATUS.STEP then s.setStep k else s

/-- The lowest step at or below whose UPPER_MMS − HYST_MMS s has stayed for DOWN_MS (R245). -/
def State.lowStep (s : State) : Option Nat :=
  (List.range 16).find? fun i => s.reg JDE_SEL.HYST_MMS ≤ (s.vEntry i).1
    && s.stayedBelow ((s.vEntry i).1 - s.reg JDE_SEL.HYST_MMS) (msTicks (s.reg JDE_SEL.DOWN_MS))

/-- FIELD_STEP_DOWN (R245). -/
def execFieldStepDown (s : State) : Outcome State Fault Refusal :=
  match s.lowStep with
  | none => .next s
  | some k => stepIf (s.guardRuns && s.vLoaded && !s.regB JDE_STATUS.VEL_STALE && k < s.reg JDE_STATUS.STEP)
      (s.setStep k) s

/-- The velocity is stale (R246): step 15, the event, and the stop if STALE_STOP asks for it. The time of DOWN_MS starts
afresh with the next velocity (DESIGN CHOICE, log entry 90). -/
def State.goStale (s : State) : State :=
  let s : State := { s with jade := { s.jade with speeds := [] } }
  let s := ((s.setReg JDE_STATUS.VEL_STALE 0 1).setStep 15).pfEvent 0x0404 (some 0)
  if s.regB JDE_CTRL.STALE_STOP then s.stop 4 else s

/-- VEL_STALE (R246): no velocity for VEL_TMO_MS. -/
def execVelStale (s : State) : Outcome State Fault Refusal :=
  stepIf (s.guardRuns && !s.regB JDE_STATUS.VEL_STALE
    && s.jade.velAt + msTicks (orIf0 (s.reg JDE_VEL.VEL_TMO_MS) 50) ≤ s.ticks + 1) s.goStale s

/-! ## Arming, running and restart (R247, R248) -/

/-- A required port is bound and has had a frame within PORT_TMO_MS. -/
def State.portHeard (s : State) (p : Nat) : Bool :=
  let at_ := SMap.get s.jade.lastFrame p 0
  (s.port p).bound && at_ != 0 && s.ticks + 1 < at_ + msTicks (orIf0 (s.reg JDE_REQ_PORTS.PORT_TMO_MS) 100)

/-- The ports of JDE_REQ_PORTS.MASK. -/
def State.reqPorts (s : State) : List Nat := (List.range 10).filter (bit (s.reg JDE_REQ_PORTS.MASK))

/-- Some JDE_FAULT bit is set. -/
def State.faultBits (s : State) : Bool :=
  s.regB JDE_FAULT.FB_A || s.regB JDE_FAULT.FB_B || s.regB JDE_FAULT.STUCK_A || s.regB JDE_FAULT.STUCK_B
    || s.regB JDE_FAULT.LANE || s.regB JDE_FAULT.STORE_CRC

/-- Turn-on conditions 1 to 6 of R247, in order. -/
def State.turnOn (s : State) : List Bool :=
  [s.namedSets.all s.setLoaded && s.vLoaded,
   s.regB GBL_SUPPLY.STOPVS_OK && !s.regB GBL_PWR_EVENTS.STOP_OC,
   !s.faultBits && s.reg LPS_STATUS.DBG_LEVEL != 3,
   s.reqPorts.all fun p => s.portHeard p && s.xformLoaded p,
   !s.regB JDE_STATUS.VEL_STALE || !s.regB JDE_CTRL.STALE_STOP,
   s.jade.lastHit = 0 || s.jade.lastHit + msTicks (orIf0 (s.reg JDE_RESTART.CLEAR_MS) 2000) ≤ s.ticks + 1]

/-- Jade moves to RUN and drives both outputs on (R247); a speed beyond every step stops it again. -/
def State.guardRun (s : State) : State :=
  let s := ((s.setJState 2).outputs true).applyStaged JDE_TEST.EN
  let s := (s.applyStaged JDE_TEST.PERIOD_MS).applyStaged JDE_TEST.PULSE_US
  let s := { s with jade := { s.jade with needGo := false } }
  let s := s.pfEvent 0x0402 (some (s.reg JDE_STATUS.STEP + 16 * s.reg JDE_STATUS.SET))
  if !s.regB JDE_STATUS.VEL_STALE && (s.stepFor (s.reg JDE_SPEED.SPEED_MMS) 0).isNone then s.overspeed
  else s

/-- Armed, and in a state that leads to RUN. -/
def State.mayRun (s : State) : Bool := s.regB JDE_CTRL.ARM && (s.jState == 1 || s.jState == 3)

/-- GUARD_RUN (R247): every condition holds, and no restart request is wanted. -/
def execGuardRun (s : State) : Outcome State Fault Refusal :=
  stepIf (s.guardRuns && s.mayRun && s.turnOn.all id && !(s.jade.needGo && s.regB JDE_RESTART.MANUAL))
    s.guardRun s

/-- A restart request (R247, R254): refused while a condition fails, and not kept. In FAULT, where only a GO write
counts (`go`), it leads to RUN, or with ARM clear to DISARMED. In RUN, or with ARM clear, it finds nothing to
restart. -/
def State.restart (s : State) (go : Bool) : State :=
  match (List.range 6).find? fun i => !s.turnOn.getD i false with
  | some i => s.pfEvent 0x0420 (some (i + 1))
  | none =>
    if s.jState == 4 then (if !go then s else if s.regB JDE_CTRL.ARM then s.guardRun else s.setJState 1)
    else if s.mayRun then s.guardRun else s

/-- RESTART_REQUEST (R248): GO written by PF 0; ignored with SRC set, but in FAULT it acts whatever SRC
says (R254). -/
def execRestartRequest (by_ : Nat) (s : State) : Outcome State Fault Refusal :=
  if by_ < 16 then
    stepIf (s.ready && by_ == 0 && (!s.regB JDE_RESTART.SRC || s.jState == 4)) (s.restart true) s
  else .fault .noSuchUnit

/-- GPIO0_RESTART_PULSE (R248): at the falling edge of a pulse of 100 ms to 5 s. It is no GO write, so it
does not end FAULT (R254). -/
def execGpio0RestartPulse (ms : Nat) (s : State) : Outcome State Fault Refusal :=
  stepIf (s.guardRuns && s.regB JDE_RESTART.SRC && 100 ≤ ms && ms ≤ 5000) (s.restart false) s

/-- ARM is written 1: the guard is armed, no velocity has been accepted since (R246), and the first move
to RUN needs no restart request. -/
def State.armOn (s : State) : State :=
  if s.regB JDE_CTRL.ARM then s
  else
    let s := s.setReg JDE_CTRL.ARM 0 1
    let s := { s with jade := { s.jade with needGo := false } }
    if s.regB JDE_STATUS.VEL_STALE then s else s.goStale

/-- ARM is written 0: in RUN a stop with cause DISARMED; FAULT and DISABLED stay. -/
def State.armOff (s : State) : State :=
  let s := s.setReg JDE_CTRL.ARM 0 0
  if s.jState == 2 then s.stop 7 1 else if s.jState == 3 then s.setJState 1 else s

/-- ARM_WRITE (R247). -/
def execArmWrite (arm : Bool) (s : State) : Outcome State Fault Refusal :=
  stepIf s.ready (if arm then s.armOn else s.armOff) s

/-- PORT_SILENT (R249): a required port is unbound or has had no accepted frame for PORT_TMO_MS. -/
def execPortSilent (p : Nat) (s : State) : Outcome State Fault Refusal :=
  unitStep p 10 (s.power.on && bit (s.reg JDE_REQ_PORTS.MASK) p && !s.portHeard p) (s.stop 2) s

/-! ## Supply and current of the outputs (R61) -/

/-- STOP_VS_LOW (R61): `dv` is STOP_VS in 0.1 V. -/
def execStopVsLow (dv : Nat) (s : State) : Outcome State Fault Refusal :=
  let t := (s.setReg GBL_SUPPLY.STOPVS_DV 0 (min dv 0xFFF)).setReg GBL_SUPPLY.STOPVS_OK 0 0
  let t := (t.setReg GBL_PWR_EVENTS.STOPVS_LOW 0 1).pfEvent 0x04E0 (some (min dv 0xFFF))
  stepIf (s.power.on && dv < 160) (t.stop 5) s

/-- STOP_OVERCURRENT (R61): 0 is STOP_A, 1 STOP_B. -/
def execStopOvercurrent (out : Nat) (s : State) : Outcome State Fault Refusal :=
  unitStep out 2 (s.power.on && s.regB (if out = 0 then JDE_STATUS.OUT_A else JDE_STATUS.OUT_B))
    (((s.setReg GBL_PWR_EVENTS.STOP_OC 0 1).pfEvent 0x04E1 (some out)).stop 6) s

/-! ## Test pulses and feedback (R50, R250, R251) -/

def outFld (out : Nat) : Fld := if out = 0 then JDE_STATUS.OUT_A else JDE_STATUS.OUT_B

/-- The read-back of an output that is off (R250). -/
def State.readBack (s : State) (out : Nat) (stuck : Bool) : State :=
  if stuck then
    s.jadeFault (if out = 0 then JDE_FAULT.STUCK_A else JDE_FAULT.STUCK_B) 0x0411 [out]
  else s

/-- Staged JDE_TEST values come into force at the next period, which STOP_A's pulse begins. -/
def State.testPeriod (s : State) (out : Nat) : State :=
  if out = 0 then
    ((s.applyStaged JDE_TEST.EN).applyStaged JDE_TEST.PERIOD_MS).applyStaged JDE_TEST.PULSE_US
  else s

/-- The read-back of a stop falls within 100 µs of it (R250). -/
def State.readsBack (s : State) (out : Nat) : Bool :=
  let change := if out = 0 then s.jade.changeA else s.jade.changeB
  !s.regB (outFld out) && change != 0 && s.ticks + 1 ≤ change + 400

/-- TEST_PULSE (R250): in RUN one output is switched off and read back. In any other state it is the read-back that
follows a stop. -/
def execTestPulse (out : Nat) (stuck : Bool) (s : State) : Outcome State Fault Refusal :=
  let t := s.testPeriod out
  let off := ({ t with jade := { t.jade with pulse := some out } } : State).setReg (outFld out) 0 0
  unitStep out 2 s.guardRuns
    (if s.jState == 2 then
      (if t.regB JDE_TEST.EN && s.jade.pulse.isNone then off.readBack out stuck else t)
     else if s.readsBack out then s.readBack out stuck else s) s

/-- TEST_PULSE_END (R50): the output goes on again unless a stop holds it off. -/
def execTestPulseEnd (out : Nat) (s : State) : Outcome State Fault Refusal :=
  let j := if out = 0 then { s.jade with pulse := none, pulseEndA := s.ticks + 1 }
    else { s.jade with pulse := none, pulseEndB := s.ticks + 1 }
  unitStep out 2 (s.power.on && s.jade.pulse == some out && s.jState == 2)
    (({ s with jade := j } : State).setReg (outFld out) 0 1) s

/-- No comparison is made of either input from the start of a test pulse until 1 ms after its end (R251). -/
def State.pulseOver (s : State) : Bool :=
  let past (t : Nat) : Bool := t = 0 || t + msTicks 1 ≤ s.ticks + 1
  s.jade.pulse.isNone && past s.jade.pulseEndA && past s.jade.pulseEndB

/-- A sample of one feedback input is compared now (R251): enabled, past TMAX_MS after a change, and past any pulse. -/
def State.fbCompared (s : State) (en : Bool) (change : Nat) : Bool :=
  en && s.pulseOver && (change = 0 || change + msTicks (orIf0 (s.reg JDE_FB.TMAX_MS) 30) ≤ s.ticks + 1)

/-- The count of consecutive mismatches after a sample; a sample not compared breaks the run. -/
def fbRun (compared expected sample : Bool) (n : Nat) : Nat :=
  if compared && expected != sample then n + 1 else 0

/-- The level expected at a feedback input. -/
def fbExpect (pol out : Bool) : Bool := if pol then !out else out

/-- FEEDBACK_SAMPLE (R251). -/
def State.feedback (s : State) (a b : Bool) : State :=
  let s := (s.setReg JDE_STATUS.FB_A 0 (b2n a)).setReg JDE_STATUS.FB_B 0 (b2n b)
  let na := fbRun (s.fbCompared (s.regB JDE_FB.EN_A) s.jade.changeA)
    (fbExpect (s.regB JDE_FB.POL_A) (s.regB JDE_STATUS.OUT_A)) a s.jade.badA
  let nb := fbRun (s.fbCompared (s.regB JDE_FB.EN_B) s.jade.changeB)
    (fbExpect (s.regB JDE_FB.POL_B) (s.regB JDE_STATUS.OUT_B)) b s.jade.badB
  let s := { s with jade := { s.jade with badA := na, badB := nb } }
  let s := if na ≥ 2 then s.jadeFault JDE_FAULT.FB_A 0x0410 [0] else s
  if nb ≥ 2 then s.jadeFault JDE_FAULT.FB_B 0x0410 [1] else s

/-- FEEDBACK_SAMPLE (R251). -/
def execFeedbackSample (a b : Bool) (s : State) : Outcome State Fault Refusal :=
  stepIf s.guardRuns (s.feedback a b) s

/-! ## Storage (R252, R254) -/

/-- The blocks in force, by scope × 16 + index. -/
def State.guardBlocks (s : State) : List (Nat × Bytes) :=
  s.jade.sets ++ (if s.vLoaded then [(16, s.jade.vtab)] else [])
    ++ s.jade.xforms.map fun e => (32 + e.1, e.2)

/-- STORE_CRC_CHECK (R254): the CRCs that the two lanes recompute. -/
def execStoreCrcCheck (crcA crcB : Nat) (s : State) : Outcome State Fault Refusal :=
  let bad := ([(0, crcA), (1, crcB)].filter fun e => e.2 != s.reg JDE_CRC.CRC).map (·.1)
  stepIf (s.guardRuns && !bad.isEmpty) (s.jadeFault JDE_FAULT.STORE_CRC 0x0413 bad) s

/-- CRC-32 of IEEE 802.3, bit by bit, least significant bit first. -/
def crcStep (c : Nat) : Nat → Nat
  | 0 => c
  | k + 1 => crcStep (if c % 2 = 1 then Nat.xor (c / 2) 0xEDB88320 else c / 2) k
def crc32 (b : Bytes) : Nat :=
  Nat.xor (b.foldl (fun c x => crcStep (Nat.xor c x.toNat) 8) 0xFFFFFFFF) 0xFFFFFFFF

/-- Cross product of the turn at b. -/
def turn (a b c : Int × Int) : Int := (b.1 - a.1) * (c.2 - b.2) - (b.2 - a.2) * (c.1 - b.1)

/-- A polygon is convex and counter-clockwise, with no repeated vertex: every other vertex lies to the
left of every edge or on its line, and it turns left somewhere at each vertex run. -/
def convexCcw (vs : List (Int × Int)) : Bool :=
  vs.length ≥ 3 && vs.eraseDups.length == vs.length
    && (edges vs).all (fun e => vs.all fun v => turn e.1 e.2 v ≥ 0)
    && vs.any fun v => match vs with
      | a :: b :: _ => turn a b v > 0
      | _ => false

/-- One prism's block is in range (Table 10-12). -/
def prismOk (b : Bytes) (k : Nat) : Bool :=
  let o := 16 + 80 * k
  let n := fieldLE b o 1
  let q := prismAt b k
  3 ≤ n && n ≤ 8 && fieldLE b (o + 1) 1 == 0 && q.mask < 1024 && fieldLE b (o + 12) 4 == 0
    && q.zMin ≤ q.zMax && allZero (byteSlice b (o + 16 + 8 * n) (8 * (8 - n))) && convexCcw q.verts

/-- A field set's block is in range. -/
def setOk (b : Bytes) : Bool :=
  let n := fieldLE b 0 1
  1 ≤ n && n ≤ 32 && b.length == 16 + 80 * n && allZero (byteSlice b 1 15)
    && (List.range n).all (prismOk b)

/-- A velocity table's block is in range: order, zeros, and loaded sets. -/
def State.vtabOk (s : State) (b : Bytes) : Bool :=
  let e (i : Nat) : Nat := fieldLE b (4 * i) 4
  b.length == 64 && (List.range 16).all (fun i => e i < 2 ^ 19 && s.setLoaded (bits (e i) 16 3))
    && (List.range 15).all fun i => bits (e i) 0 16 ≤ bits (e (i + 1)) 0 16

/-- A transform's block is in range: R Rᵀ departs from the identity by at most 2⁻¹⁶ (R252). -/
def xformOk (b : Bytes) : Bool :=
  let r (i j : Nat) : Int := i32At b (12 * i + 4 * j)
  b.length == 48 && (List.range 3).all fun i => (List.range 3).all fun j =>
    let d := r i 0 * r j 0 + r i 1 * r j 1 + r i 2 * r j 2 - (if i = j then 2 ^ 58 else 0)
    d.natAbs ≤ 2 ^ 42

/-- The index is in range for the scope. -/
def guardIndexOk (scope idx : Nat) : Bool :=
  if scope = 0 then idx < 8 else if scope = 1 then idx = 0 else idx < 10

/-- The block passes the checks of R252. -/
def State.guardBlockOk (s : State) (scope : Nat) (b : Bytes) : Bool :=
  if scope = 0 then setOk b else if scope = 1 then s.vtabOk b else xformOk b

/-- The block comes into force in both lanes. A new velocity table re-selects the step from the last
speed; DISABLED becomes DISARMED with it (R247). -/
def State.guardPut (s : State) (scope idx : Nat) (b : Bytes) : State :=
  let j := s.jade
  let s := if scope = 0 then { s with jade := { j with sets := SMap.ins j.sets idx b } }
    else if scope = 1 then { s with jade := { j with vtab := b } }
    else { s with jade := { j with xforms := SMap.ins j.xforms idx b } }
  let s := s.setReg JDE_CRC.CRC 0 (Config.guardCrc s.guardBlocks).toNat
  if scope = 1 then
    let s := if s.jState == 0 && s.reg LPS_STATUS.DBG_LEVEL != 3 then s.setJState 1 else s
    if s.regB JDE_STATUS.VEL_STALE then s.setStep 15
    else match s.stepFor (s.reg JDE_SPEED.SPEED_MMS) 0 with
      | none => s.overspeed
      | some k => s.setStep (max k (s.reg JDE_STATUS.STEP))
  else s

/-- GUARD_FIELD_LOAD (R252), its cases in the order it lists them: `io.host` is the block read from the submitting instance's memory. -/
def execGuardFieldLoad (tag : Nat) (io : OpIo) (s : State) : Outcome State Fault Refusal :=
  answer s (s.runOp tag 0x0110 (fun o _ => o.inst == 0 && !s.regB JDE_CTRL.LOAD_LOCK)
    (fun _ e => orDescriptor (e.fld 32 1 ≤ 2 && guardIndexOk (e.fld 32 1) (e.fld 33 1)
      && e.fld 48 8 % 64 == 0 && e.rsv [(34, 2), (44, 4), (56, 8)]))
    fun o e =>
      let scope := e.fld 32 1
      let b := io.host
      let s := s.emit (.hostRead o.inst (e.fld 48 8) (e.fld 36 4))
      if !io.hostOk || !io.hostPoison.isEmpty then s.finish tag ERR_ACCESS
      else if b.length != e.fld 36 4 || crc32 b != e.fld 40 4 || !s.guardBlockOk scope b then
        s.finish tag ERR_DESCRIPTOR
      else if scope == 0 && s.namedSets.contains (e.fld 33 1) && (s.jState == 2 || s.jState == 3) then
        s.finish tag ERR_MODE
      else
        let s := s.guardPut scope (e.fld 33 1) b
        s.finish tag OK (some (s.reg JDE_CRC.CRC)))

/-! ## A frame's result (R239, R240) -/

/-- Eleven cycles after FCS acceptance: the frame's hits (point count, and the last hit's prism) are
committed, the lanes compared, and a stop latched. -/
def State.guardCommit (s : State) (port hits : Nat) (prism : Option Nat) (laneUpset : Bool) : State :=
  let s := (s.count JDE_FRAMES.COUNT).count JDE_HIT_PTS.COUNT 0 hits
  let s := { s with jade := { s.jade with lastFrame := SMap.ins s.jade.lastFrame port (s.ticks + 1) } }
  let s := match prism with
    | none => s
    | some k =>
      let s := { s with jade := { s.jade with lastHit := s.ticks + 1 } }
      ((s.setReg JDE_CAUSE.PORT 0 port).setReg JDE_CAUSE.PRISM 0 k).stop 1
  if laneUpset then s.jadeFault JDE_FAULT.LANE 0x0412 [port] else s

end Sys2Proof.Machine
end

