-- ==== Sys2Proof/Machine/Sensor.lean ====
section
/-!
DEFINITION. Garnet (chapter 9): frames, records and points, slices and sweeps, the slice ring, binding,
discovery and LLDP, pose frames, gPTP, cable tests and PoDL.
-/
namespace Sys2Proof.Machine
open Host (Outcome)

def nPorts : Nat := 10

/-! ## Events -/

/-- A port event (Table 9-9): a bound port's goes to its OWNER, any other to PF 0. -/
def State.portEvent (s : State) (p code : Nat) (detail : Option Nat) (arg : Nat := 0) : State :=
  let n := if (s.port p).bound then s.reg GNT_P_CTRL.OWNER (portD p) else 0
  s.event n { code := code, detail := detail, arg := arg }

/-- GNT_P_STATUS.STATE (Table 9-12). -/
def State.setPState (s : State) (p v : Nat) : State := s.setReg GNT_P_STATUS.STATE (portD p) v

/-! ## Format descriptors (R207, Table 9-2) -/

/-- The 32 bytes of descriptor `d`; byte 30 and bits [6:0] of byte 31 are reserved. -/
def State.descBytes (s : State) (d : Nat) : Bytes :=
  ((List.range 7).flatMap fun i => leBytes 4 (s.reg GNT_DESC.WORD (32 * d + 4 * i)))
    ++ leBytes 4 (s.reg GNT_DESC7.MAX_KPPS (32 * d) + 2 ^ 31 * s.reg GNT_DESC7.VALID (32 * d))

/-- A format descriptor's fields. -/
structure Desc where
  oui : Nat
  subtype : Nat
  model : Nat
  dport : Nat
  hdrLen : Nat
  stride : Nat
  enc : Nat
  elev : Nat
  timeSrc : Nat
  scale : Nat
  offA : Nat
  offB : Nat
  offC : Nat
  offInt : Nat
  offPtime : Nat
  tolMs : Nat
  offPkt : Nat
  rule : Nat
  sweepBit : Nat
  sweepOff : Nat
  kpps : Nat
  valid : Bool
deriving DecidableEq, Repr

def State.desc (s : State) (d : Nat) : Desc :=
  let b := s.descBytes d
  let f := fieldLE b
  { oui := f 0 3, subtype := f 3 1, model := f 4 2, dport := f 6 2, hdrLen := f 8 2, stride := f 10 1,
    enc := f 11 1, elev := f 12 1, timeSrc := f 13 1, scale := f 14 2, offA := f 16 1, offB := f 17 1,
    offC := f 18 1, offInt := f 19 1, offPtime := f 20 1, tolMs := f 21 1, offPkt := f 22 2,
    rule := f 24 1, sweepBit := bits (f 25 1) 0 3, sweepOff := f 26 2, kpps := f 28 2,
    valid := bit (f 31 1) 7 }

/-- The descriptor numbers that are VALID. -/
def State.validDescs (s : State) : List Nat := (List.range 32).filter fun d => (s.desc d).valid

/-- The descriptor can be decoded: STRIDE, ENC, ELEV_TABLE and SWEEP_RULE hold a listed value. -/
def Desc.usable (d : Desc) : Bool :=
  6 ≤ d.stride && d.stride ≤ 64 && d.enc ≤ 3 && (d.enc != 3 || d.elev ≤ 3) && d.rule ≤ 2

/-- An elevation in 0.01° (Table 9-10). -/
def State.elevation (s : State) (t i : Nat) : Int :=
  signed 16 (bits (s.reg GNT_ELEV.WORD (0x80 * t + 4 * (i / 2))) (16 * (i % 2)) 16)

/-! ## The slice ring -/

/-- Flag bits of a slice header (Table 9-4). -/
def flOpen : Nat := 1
def flFirst : Nat := 2
def flLast : Nat := 4
def flTruncated : Nat := 8
def flPad : Nat := 16
def flCapped : Nat := 32
def flGap : Nat := 64
def flTimeArrival : Nat := 128
def flTimeUnlocked : Nat := 256
def flTimeSuspect : Nat := 512
def flStepped : Nat := 1024
def flGuardHit : Nat := 2048
def flLate : Nat := 4096

/-- The slice length in ns. -/
def Port.lenNs (p : Port) : Int := 1000 * p.sliceUs

/-- A 64-bit time field. -/
def time64 (t : Int) : Bytes := leBytes 8 (unsigned 64 t)

/-- A slice header (Table 9-4). -/
def State.sliceHeader (s : State) (p : Nat) (sl : Slice) (endT : Int) (fl : Nat) : Bytes :=
  let q := s.port p
  leBytes 8 sl.seq ++ leBytes 8 sl.start ++ time64 endT ++ leBytes 4 sl.points
    ++ leBytes 4 (q.sweep + 2 ^ 32 - 1) ++ leBytes 2 fl ++ leBytes 2 (min sl.lost 0xFFFF)
    ++ leBytes 1 p ++ leBytes 1 (s.reg GNT_P_STATUS.DESC (portD p)) ++ leBytes 2 sl.vlan
    ++ leBytes 4 sl.capped ++ leBytes 4 sl.frames ++ leBytes 16 0

/-- SLICE_LOST, once 100 ms (400,000 ticks) have passed since the last (R216). -/
def State.reportLost (s : State) (p : Nat) : State :=
  let q := s.port p
  if q.lostSince != 0 && (q.lostTick = 0 || q.lostTick + 400000 ≤ s.ticks + 1) then
    (s.setPort p { q with lostSince := 0, lostTick := s.ticks + 1 }).portEvent p 0x0310
      (some q.lostSince) p
  else s

/-- A slice of port `p` is lost (R216). -/
def State.sliceLost (s : State) (p : Nat) : State :=
  let q := s.port p
  ((s.count GNT_P_SLICES_LOST.COUNT (portD p)).setPort p { q with lostSince := q.lostSince + 1 }).reportLost p

/-- OVERWRITE_OLDEST at the opening of slice `n` of a full ring: the head moves on, and the oldest slice
left shows the gap, if its header is in the ring. In a ring of one slot that is slice `n` itself. -/
def State.overwriteOldest (s : State) (p n : Nat) : State :=
  let q := s.port p
  let o := n - q.slots + 1
  let s := s.setReg GNT_P_HEAD.HEAD (portD p) o
  let a := s.hdrAt q o
  let b := s.peek a 64
  let s := if o < n && fieldLE b 0 8 == o then
      s.writeOver a (b.take 32 ++ leBytes 2 (flags (fieldLE b 32 2) flGap)
        ++ leBytes 2 (min 0xFFFF (fieldLE b 34 2 + 1)) ++ b.drop 36)
    else s
  s.sliceLost p

/-- The next slice of the sweep opens (R214, R216): its header is written before any point. -/
def State.openSlice (s : State) (p : Nat) : State :=
  let q := s.port p
  let n := s.reg GNT_P_SEQ.SEQ (portD p)
  let full := n ≥ s.reg GNT_P_HEAD.HEAD (portD p) + q.slots
  let s := if full && !q.dropNewest then s.overwriteOldest p n else s
  let s := if full && q.dropNewest then s.sliceLost p else s
  let slot := !(full && q.dropNewest)
  let q := s.port p
  let own := full && slot && q.slots = 1
  let sl : Slice := { seq := n, start := unsigned 64 (q.ts + q.j * q.lenNs), first := q.j = 0, points := 0,
                      capped := 0, frames := 0, flags := if own || (slot && q.dropRun != 0) then flGap else 0,
                      lost := (if slot then q.dropRun else 0) + b2n own, slot := slot, stalled := false, vlan := 0 }
  let s := s.setReg GNT_P_SEQ.SEQ (portD p) (n + 1)
  let s := s.setPort p { q with open_ := some sl, dropRun := if slot then 0 else q.dropRun + 1 }
  if slot then
    s.writeOver (s.hdrAt q n) (s.sliceHeader p sl (q.ts + (q.j + 1) * q.lenNs)
      (flags (flags sl.flags flOpen) (if sl.first then flFirst else 0)))
  else s

/-- The time flags of a slice at its close (R221). -/
def State.timeFlags (s : State) : Nat :=
  flags (if s.regB GNT_GPTP_CTRL.EN && s.reg GNT_GPTP_STATUS.STATE != 2 then flTimeUnlocked else 0)
    (if s.regB SPAN_STATUS.TIME_SUSPECT then flTimeSuspect else 0)

/-- Port `p` has closed a slice since the write of a SET_MODE of F0, or is bound no more (R183). -/
def State.modePort (s : State) (p : Nat) : State :=
  { s with ops := s.ops.map fun e => match e.2.phase with
      | .held w (0 :: ps) => if w == heldMode then (e.1, { e.2 with phase := .held w (0 :: ps.erase p) }) else e
      | _ => e }

/-- F0's item opens at a slice's close with the mode and the handler then in force (R181). -/
def State.openF0 (s : State) (p n : Nat) : State :=
  let s := (s.modePort p).applyMode 0
  let q := s.port p
  let v := 1 + b2n (s.regB MODE_F.MODE 0) + 2 * s.handler 0
  s.setPort p { q with sliceModes := (SMap.put q.sliceModes n v 0).filter fun e => e.1 + q.slots > n }

/-- The open slice closes (R214, R22): the header is written with OPEN clear, then the slice fence is
signalled to the number of slices closed. `now` says that END_DTIME is the close time. -/
def State.closeSlice (s : State) (p fl : Nat) (now : Bool) : State :=
  let q := s.port p
  match q.open_ with
  | none => s
  | some sl =>
    let fl := flags (flags (flags sl.flags fl) s.timeFlags) (if sl.first then flFirst else 0)
    let endT : Int := if now then s.dtimeNow else q.ts + (q.j + 1) * q.lenNs
    let s := if sl.slot then s.writeOver (s.hdrAt q sl.seq) (s.sliceHeader p sl endT fl) else s
    let s := s.setPort p { q with open_ := none, closed := q.closed + 1, j := q.j + 1 }
    (s.openF0 p sl.seq).signal q.fence (q.closed + 1) false

/-- Empty PAD slices until the sweep has S (R212, R229); `last` puts SWEEP_LAST on the final one. -/
def State.padSweep (s : State) (p fl : Nat) (last : Bool) : Nat → State
  | 0 => s
  | k + 1 =>
    let f := if last && k = 0 then flags fl flLast else fl
    ((s.openSlice p).closeSlice p (flags flPad f) true).padSweep p fl last k

/-- The sweep under way ends: its open slice closes with the flags given and SWEEP_LAST, and it is padded
with the same flags (R212, R229). -/
def State.endSweep (s : State) (p fl : Nat) (now : Bool) : State :=
  let q := s.port p
  if !q.sweepOn then s
  else
    let had := q.open_.isSome
    let s := s.closeSlice p (flags fl flLast) now
    let k := if q.perSweep = 0 then 0 else q.perSweep - (s.port p).j
    let s := s.padSweep p fl (!had) k
    s.setPort p { s.port p with sweepOn := false }

/-- A recognised sweep boundary (R23, R210). -/
def State.boundary (s : State) (p : Nat) : State :=
  let q := s.port p
  if q.sync then s.setPort p { q with sync := false }
  else s.endSweep p 0 (q.perSweep != 0 && q.j + 1 = q.perSweep)

/-- A sweep starts at a point's time (R210, R211). -/
def State.startSweep (s : State) (p : Nat) (t : Int) : State :=
  let q := s.port p
  (s.setPort p { q with sweepOn := true, ts := t, j := 0, sweep := q.sweep + 1, stepped := false }).openSlice p

/-- The open slice takes a time-based close: S is 0, it is not slice S − 1, or SWEEP_RULE is 0, whose
boundary that close is (R210, R212). -/
def Port.timed (q : Port) (rule : Nat) : Bool := q.perSweep = 0 || q.j + 1 < q.perSweep || rule = 0

/-- The open slice closes by time and the next opens; after slice S − 1 of rule 0 the sweep is over. -/
def State.nextSlice (s : State) (p : Nat) : State :=
  let q := s.port p
  if q.perSweep != 0 && q.j + 1 ≥ q.perSweep then s.endSweep p 0 true
  else (s.closeSlice p 0 false).openSlice p

/-- The stream comes to the slice that a point at time `t` falls in: slices that end at or before it close, and
after a DTIME step the next slice starts at the point (R221). `k` bounds the slices passed. -/
def State.seek (s : State) (p rule : Nat) (t : Int) : Nat → State
  | 0 => s
  | k + 1 =>
    let q := s.port p
    if !q.sweepOn then s.startSweep p t
    else match q.open_ with
      | none => if q.stepped then (s.setPort p { q with ts := t - q.j * q.lenNs, stepped := false }).openSlice p
          else (s.openSlice p).seek p rule t k
      | some _ =>
        if q.ts + (q.j + 1) * q.lenNs ≤ t && q.timed rule then (s.nextSlice p).seek p rule t k else s

/-- A bound on the slices that a point at `t` can pass. -/
def seekFuel (q : Port) (t : Int) : Nat :=
  if q.sliceUs = 0 then 2 else ((t - (q.ts + q.j * q.lenNs)) / q.lenNs).toNat + 3

/-! ## Points -/

/-- A decoded point: FP32 coordinates, intensity, time, and whether the arrival time stands in. -/
structure Pt where
  x : Nat
  y : Nat
  z : Nat
  inten : Nat
  time : Int
  fallback : Bool
deriving DecidableEq, Repr

/-- A CP16 point (Table 9-3). -/
def cp16 (pt : Pt) (toff fl : Nat) : Bytes :=
  leBytes 4 pt.x ++ leBytes 4 pt.y ++ leBytes 4 pt.z ++ leBytes 2 toff ++ leBytes 1 pt.inten ++ leBytes 1 fl

/-- The points written within the last 1 ms (R213). -/
def Port.recentPts (q : Port) (now : Nat) : Nat :=
  ((q.recent.filter fun e => now < e.1 + 1000000).map (·.2)).sum

/-- A point written is added to the count of its moment. -/
def addRecent (l : List (Nat × Nat)) (now : Nat) : List (Nat × Nat) :=
  match l with
  | (t, n) :: r => if t = now then (t, n + 1) :: r else (now, 1) :: (t, n) :: r
  | [] => [(now, 1)]

/-- A point falls in the open slice (R213): it is written, or only tested and counted as capped. -/
def State.placePoint (s : State) (p kpps : Nat) (pt : Pt) (hit : Bool) (newFrame : Bool) (vlan : Option Nat) :
    State :=
  let q := s.port p
  match q.open_ with
  | none => s
  | some sl =>
    let late := pt.time < (sl.start : Int)
    let toff := if late then 0 else min 0xFFFF ((pt.time - sl.start) / 1000).toNat
    let fl := flags (flags (if hit then flGuardHit else 0) (if pt.fallback then flTimeArrival else 0))
      (if late then flLate else 0)
    let pfl := b2n hit + 2 * b2n pt.fallback + 4 * b2n late
    let sl := { sl with flags := flags sl.flags fl,
                        frames := if newFrame then sl.frames + 1 else sl.frames,
                        vlan := match vlan with | some v => 0x8000 + v % 4096 | none => sl.vlan }
    let fits := sl.points < q.slotPts && !sl.stalled && q.recentPts s.uptime < kpps
    if !sl.slot then s.setPort p { q with open_ := some sl }
    else if fits then
      let s := s.writeOver (s.ptsAt q sl.seq + 16 * sl.points) (cp16 pt toff pfl)
      s.setPort p { q with open_ := some { sl with points := sl.points + 1 },
                           recent := (addRecent q.recent s.uptime).filter fun e =>
                             s.uptime < e.1 + 1000000 }
    else
      (s.count GNT_P_CAPPED_PTS.COUNT (portD p)).setPort p
        { q with open_ := some { sl with capped := sl.capped + 1, flags := flags sl.flags flCapped } }

/-- FP32 metres of an integer coordinate or range in LSBs of SCALE_UM µm. -/
def metres (v : Int) (scaleUm : Nat) : Nat := f32.round (v < 0) (v.natAbs * scaleUm) 1000000

/-- A coordinate of ENC 3 (R208): a range of `um` µm by a product of sines and cosines, in FP32 metres (log entry 15). -/
def polar (axis um : Nat) (a e : Int) (v : Int) : Nat :=
  f32.faithful (Config.roundsUp 0 [axis, um, a, e]) (v < 0) (um * v.natAbs) (1000000 * fixOne.toNat)

/-- A record's coordinates (R208); none for a missing return. -/
def State.decodeXyz (s : State) (d : Desc) (r : Bytes) : Option (Nat × Nat × Nat) :=
  let c (off n : Nat) : Nat := fieldLE r off n
  let abc (n : Nat) : Nat × Nat × Nat := (c d.offA n, c d.offB n, c d.offC n)
  match d.enc with
  | 0 => let v := abc 4
         if f32.isZero v.1 && f32.isZero v.2.1 && f32.isZero v.2.2 then none else some v
  | 1 => let v := abc 4
         if v.1 = 0 ∧ v.2.1 = 0 ∧ v.2.2 = 0 then none
         else some (metres (signed 32 v.1) d.scale, metres (signed 32 v.2.1) d.scale, metres (signed 32 v.2.2) d.scale)
  | 2 => let v := abc 2
         if v.1 = 0 ∧ v.2.1 = 0 ∧ v.2.2 = 0 then none
         else some (metres (signed 16 v.1) d.scale, metres (signed 16 v.2.1) d.scale, metres (signed 16 v.2.2) d.scale)
  | _ =>
    let range := c d.offA 2
    if range = 0 then none
    else
      let a : Int := c d.offB 2
      let e := s.elevation d.elev (bits (c d.offC 1) 0 6)
      let um := range * d.scale
      let rc := fixMul (cosCentideg e)
      some (polar 0 um a e (rc (cosCentideg a)), polar 1 um a e (rc (sinCentideg a)), polar 2 um a e (sinCentideg e))

/-- A record's time (R209): packet time plus per-point time, or the arrival time out of tolerance. -/
def ptTime (d : Desc) (pktTime : Option Nat) (r : Bytes) (arrival : Nat) : Int × Bool :=
  if d.timeSrc != 1 then ((arrival : Int), false)
  else match pktTime with
    | none => ((arrival : Int), true)
    | some t0 =>
      let t : Int := t0 + (if d.offPtime = 0xFF then 0 else fieldLE r d.offPtime 4)
      if (t - arrival).natAbs > 1000000 * max 1 d.tolMs then ((arrival : Int), true) else (t, false)

/-- What a frame's records have done so far: hits, the last hit's prism, the slice last counted, and whether the
write buffer fills in the frame and no slice has been open to stall yet (R217). -/
structure FrameAcc where
  hits : Nat
  prism : Option Nat
  seq : Option Nat
  stall : Bool
deriving DecidableEq, Repr

/-- A stall of the pipeline's write buffer (R217): the open slice takes no more points. -/
def State.writeStall (s : State) (p : Nat) : State :=
  let q := s.port p
  match q.open_ with
  | none => s
  | some sl =>
    if sl.stalled then s
    else (s.setPort p { q with open_ := some { sl with stalled := true, flags := flags sl.flags flCapped } }).portEvent
      p 0x0311 (some p)

/-- At the end of the frame in which its writing stalled the slice closes, CAPPED, with the points that were not
written in CAPPED_PTS (R217); slice S − 1 so ends its sweep. Points of its time that come later go to the next
slice, as LATE ones (DESIGN CHOICE, log entry 141). -/
def State.stallOver (s : State) (p : Nat) : State :=
  let q := s.port p
  match q.open_ with
  | none => s
  | some sl =>
    if !sl.stalled then s
    else if q.perSweep != 0 && q.j + 1 ≥ q.perSweep then s.endSweep p 0 true else s.closeSlice p 0 false

/-- One point: Jade decides, then it is sliced (R20, R211). -/
def State.takePoint (s : State) (p : Nat) (d : Desc) (vlan : Option Nat) (pt : Pt) (a : FrameAcc) :
    State × FrameAcc :=
  let s := if pt.fallback then s.count GNT_P_TIME_FALLBACK.COUNT (portD p) else s
  let j := s.testPoint p pt.x pt.y pt.z
  let s := j.1
  let a := match j.2 with
    | none => a
    | some k => { a with hits := a.hits + 1, prism := some k }
  if (s.port p).sync then (s, a)
  else
    let s := s.seek p d.rule pt.time (seekFuel (s.port p) pt.time)
    let s := if a.stall then s.writeStall p else s
    let cur := (s.port p).open_.map (·.seq)
    (s.placePoint p d.kpps pt j.2.isSome (cur != a.seq) vlan, { a with seq := cur, stall := false })

/-- One record: rule 1's boundary falls before it; a missing return is no point (R208, R210). Under rule 1
with coordinates the azimuth is not stated, so no boundary is recognised. -/
def State.takeRecord (s : State) (p : Nat) (d : Desc) (vlan pktTime : Option Nat) (r : Bytes)
    (a : FrameAcc) : State × FrameAcc :=
  let az := fieldLE r d.offB 2
  let wrap := d.rule = 1 && d.enc = 3 && match (s.port p).prevAz with
    | some q => az + 18000 < q
    | none => false
  let s := if wrap then s.boundary p else s
  let s := s.setPort p { s.port p with prevAz := some az }
  match s.decodeXyz d r with
  | none => (s, a)
  | some v =>
    let t := ptTime d pktTime r s.dtimeNow
    s.takePoint p d vlan { x := v.1, y := v.2.1, z := v.2.2, time := t.1, fallback := t.2,
                           inten := if d.offInt = 0xFF then 0 else fieldLE r d.offInt 1 } a

/-- The records of a datagram, in order. -/
def State.takeRecords (s : State) (p : Nat) (d : Desc) (vlan pktTime : Option Nat) (a : FrameAcc)
    (rs : List Bytes) : State × FrameAcc :=
  rs.foldl (fun x r => x.1.takeRecord p d vlan pktTime r x.2) (s, a)

/-- The records of a UDP payload. -/
def recordsOf (d : Desc) (udp : Bytes) : List Bytes :=
  (List.range ((udp.length - d.hdrLen) / d.stride)).map fun i =>
    byteSlice udp (d.hdrLen + d.stride * i) d.stride

/-- A bound port takes frames: its domains and its pipeline are up, and it is attached (R226). -/
def State.ingests (s : State) (p : Nat) : Bool :=
  let q := s.port p
  q.bound && !q.detached && (s.dom (4 + p)).up && (s.dom (14 + p)).up && (s.dom (24 + q.pipeline)).up

/-- A UDP payload of a point frame on a port with descriptor `d` in force (R231, R207). -/
def State.takeDatagram (s : State) (p : Nat) (d : Desc) (vlan : Option Nat) (udp : Bytes) (stall : Bool) :
    State × FrameAcc :=
  let none_ : FrameAcc := ⟨0, none, none, false⟩
  if !d.usable || udp.length < d.hdrLen then (s.count GNT_P_MALFORMED.COUNT (portD p), none_)
  else
    let left := (udp.length - d.hdrLen) % d.stride
    let s := if left = 0 then s else s.count GNT_P_MALFORMED.COUNT (portD p)
    if !s.ingests p then (s, none_)
    else
      let open_ := (s.port p).open_.isSome
      let s := if stall then s.writeStall p else s
      let mark := d.rule = 2 && d.sweepOff < d.hdrLen && bit (fieldLE udp d.sweepOff 1) d.sweepBit
      let s := if mark then s.boundary p else s
      let pkt := if d.offPkt + 8 ≤ d.hdrLen then some (fieldLE udp d.offPkt 8) else none
      let r := s.takeRecords p d vlan pkt { none_ with stall := stall && !open_ } (recordsOf d udp)
      (r.1.stallOver p, r.2)

/-! ## Pose frames (R222, R223) -/

/-- Operations that wait for a later pose search again. -/
def State.wakePose (s : State) : State :=
  { s with ops := s.ops.map fun (e : Nat × Op) => match e.2.phase with
      | .held w _ => if w == heldPose then (e.1, { e.2 with phase := .started }) else e
      | _ => e }

/-- A pose frame's payload is checked and kept; its velocity goes to Jade. -/
def State.poseFrame (s : State) (b : Bytes) : State :=
  let fl := fieldLE b 2 2
  let t := fieldLE b 8 8
  let old := match s.poseLast with | some x => t ≤ x | none => false
  if b.length != 64 || fieldLE b 0 2 != 1 || !bit fl 0 || old then s.count GNT_POSE_DROP.COUNT
  else
    let lag := min 0xFFFFFFFF (if s.dtimeNow < t then 0 else (s.dtimeNow - t) / 1000)
    let k := s.reg GNT_POSE_WR.COUNT
    let s := if s.poseOff k + 64 ≤ localEnd
      then s.writeOver (s.localAddr (s.poseOff k)) (b.take 60 ++ leBytes 4 lag) else s
    let s := { (s.count GNT_POSE_WR.COUNT) with poseLast := some t }
    let s := if bit fl 1 then s.velocity (fieldLE b 44 4) (fieldLE b 48 4) (fieldLE b 56 4) else s
    s.wakePose

/-- A frame accepted on port `p` is counted, and on a bound port Jade commits its result (R240). -/
def State.acceptFrame (s : State) (p : Nat) (a : FrameAcc) (laneUpset : Bool) : State :=
  let s := s.count GNT_P_FRAMES_OK.COUNT (portD p)
  if (s.port p).bound then s.guardCommit p a.hits a.prism laneUpset else s

/-- POSE_FRAME_RECEIVED (R222): the frame carries no points. -/
def execPoseFrameReceived (p : Nat) (payload : Bytes) (s : State) : Outcome State Fault Refusal :=
  unitStep p nPorts (s.power.on && s.portLink p && s.regB GNT_POSE_CTRL.EN && s.reg GNT_POSE_CTRL.PORT == p)
    (((s.count GNT_P_NONPOINT.COUNT (portD p)).acceptFrame p ⟨0, none, none, false⟩ false).poseFrame payload) s

/-! ## Frames (R203) -/

/-- The fixed addresses: LLDP's group, broadcast. -/
def lldpGroup : Bytes := [0x01, 0x80, 0xC2, 0x00, 0x00, 0x0E]
/-- The MAC address of port `p`, first byte first (R203). -/
def portMac (p : Nat) : Bytes := (leBytes 6 (Config.macBase.toNat + p)).reverse

/-- Big-endian field of a frame. -/
def beAt (b : Bytes) (off n : Nat) : Nat := leNat (byteSlice b off n).reverse

/-- What an accepted frame is: its VLAN, and its UDP destination port and payload if it has them; `frag`
marks a fragment. -/
structure FrameKind where
  vlan : Option Nat
  frag : Bool
  udp : Option (Nat × Bytes)
deriving DecidableEq, Repr

/-- An accepted frame taken apart: Ethernet II, one 0x8100 tag, IPv4 with options, UDP. The frame's last
4 bytes are its FCS. -/
def parseFrame (f : Bytes) : FrameKind :=
  let tagged := beAt f 12 2 = 0x8100
  let vlan := if tagged then some (beAt f 14 2) else none
  let l3 := f.drop (if tagged then 18 else 14)
  let ethertype := if tagged then beAt f 16 2 else beAt f 12 2
  let ihl := 4 * (beAt l3 0 1 % 16)
  let fo := beAt l3 6 2
  if ethertype != 0x0800 || beAt l3 0 1 / 16 != 4 || ihl < 20 then ⟨vlan, false, none⟩
  else if fo % 0x4000 != 0 then ⟨vlan, true, none⟩
  else if beAt l3 9 1 != 17 then ⟨vlan, false, none⟩
  else
    let u := l3.drop ihl
    let have_ := u.length - 4
    let n := min (beAt u 4 2) have_ - 8
    ⟨vlan, false, some (beAt u 2 2, (u.drop 8).take n)⟩

/-- A frame accepted on port `p` (R203): a pose frame, a point frame, or one that carries no points. -/
def State.frame (s : State) (p : Nat) (f : Bytes) (laneUpset stall : Bool) : State :=
  let k := parseFrame f
  let none_ : FrameAcc := ⟨0, none, none, false⟩
  let plain (F : Fld) : State := (s.count F (portD p)).acceptFrame p none_ laneUpset
  if k.frag then plain GNT_P_FRAG_DROP.COUNT
  else match k.udp with
    | none => plain GNT_P_NONPOINT.COUNT
    | some (port, body) =>
      if s.regB GNT_POSE_CTRL.EN && s.reg GNT_POSE_CTRL.PORT == p && s.reg GNT_POSE_CTRL.UDP_PORT == port then
        (plain GNT_P_NONPOINT.COUNT).poseFrame body
      else
        let di := s.reg GNT_P_STATUS.DESC (portD p)
        let d := s.desc di
        if di ≥ 32 || (d.dport != 0 && d.dport != port) then plain GNT_P_NONPOINT.COUNT
        else
          let r := s.takeDatagram p d k.vlan body stall
          r.1.acceptFrame p r.2 laneUpset

/-- FRAME_RECEIVED (R203): `frame` runs from the destination address to the FCS. -/
def execFrameReceived (p : Nat) (frame : Bytes) (fcsOk laneUpset stall : Bool) (s : State) :
    Outcome State Fault Refusal :=
  let dst := frame.take 6
  let mine := !s.regB GNT_P_CTRL.MAC_FILTER (portD p) || dst == portMac p || dst == lldpGroup
    || dst == List.replicate 6 0xFF
  unitStep p nPorts (s.power.on && s.portLink p)
    (if !fcsOk then s.count GNT_P_FCS_ERR.COUNT (portD p)
     else if frame.length > 9216 then s.count GNT_P_OVERSIZE.COUNT (portD p)
     else if mine then s.frame p frame laneUpset stall else s) s

/-! ## Closes by time -/

/-- SLICE_CLOSE_TIMEOUT (R211): DTIME has reached the open slice's end plus 1 ms. -/
def execSliceCloseTimeout (p : Nat) (s : State) : Outcome State Fault Refusal :=
  let q := s.port p
  let rule := (s.desc (s.reg GNT_P_STATUS.DESC (portD p))).rule
  unitStep p nPorts (s.power.on && q.bound && q.sweepOn && q.open_.isSome && q.timed rule
    && q.ts + (q.j + 1) * q.lenNs + 1000000 ≤ s.dtimeNow) (s.nextSlice p) s

/-- SWEEP_STALLED (R212). -/
def execSweepStalled (p : Nat) (s : State) : Outcome State Fault Refusal :=
  let q := s.port p
  unitStep p nPorts (s.power.on && q.bound && q.sweepOn && q.open_.isSome && q.perSweep != 0
    && q.j + 1 == q.perSweep && q.ts + (q.j + 1) * q.lenNs + 4 * q.lenNs ≤ s.dtimeNow)
    ((s.endSweep p flTruncated true).portEvent p 0x0312 (some p)) s

/-- A DTIME step reaches a port (R221): its open slice closes at once with STEPPED; slice S − 1 so ends its
sweep, any other is followed by the next slice at the first point after the step. -/
def State.stepPort (s : State) (p : Nat) : State :=
  let q := s.port p
  if q.open_.isNone then s
  else if q.perSweep != 0 && q.j + 1 = q.perSweep then s.endSweep p flStepped true
  else
    let t := s.closeSlice p flStepped false
    t.setPort p { t.port p with stepped := true }

/-! ## Discovery (R204, R206) -/

/-- The first organisationally specific TLV of an LLDPDU: OUI, subtype, first two information bytes. -/
def orgTlv (b : Bytes) : Nat → Option (Nat × Nat × Nat)
  | 0 => none
  | k + 1 =>
    let h := beAt b 0 2
    let n := h % 512
    if b.length < 2 || h / 512 = 0 then none
    else if h / 512 = 127 && n ≥ 4 then
      some (fieldLE b 2 3, fieldLE b 5 1, fieldLE (byteSlice b 6 (n - 4)) 0 2)
    else orgTlv (b.drop (2 + n)) k

/-- The lowest VALID descriptor that the LLDPDU matches. -/
def State.matchLldp (s : State) (b : Bytes) : Option Nat :=
  match orgTlv b b.length with
  | none => none
  | some t => s.validDescs.find? fun d =>
      (s.desc d).oui == t.1 && (s.desc d).subtype == t.2.1 && (s.desc d).model == t.2.2

/-- Ingest (re)starts with a new sweep (R210, R230). -/
def State.restartStream (s : State) (p : Nat) : State :=
  let rule := (s.desc (s.reg GNT_P_STATUS.DESC (portD p))).rule
  s.setPort p { s.port p with sync := rule != 0, sweepOn := false, open_ := none, prevAz := none, j := 0 }

/-- A port bound with AUTO_DESC takes a discovered descriptor: one of its mask that is VALID, and not of SWEEP_RULE 0
with no slice count (R206, R207, R210). -/
def State.autoTakes (s : State) (q : Port) (d : Nat) : Bool :=
  bit q.mask d && (s.desc d).valid && ((s.desc d).rule != 0 || q.perSweep != 0)

/-- A discovery has found descriptor `d` (R204, R206). -/
def State.foundDesc (s : State) (p d : Nat) : State :=
  let s := s.portEvent p 0x0303 (some (d + 256 * p))
  let s := s.setPort p { s.port p with found := d, discovering := false }
  let q := s.port p
  if !q.bound then (s.setReg GNT_P_STATUS.DESC (portD p) d).setPState p 3
  else if !q.auto then s.setPState p 5
  else if s.autoTakes q d then ((s.setReg GNT_P_STATUS.DESC (portD p) d).setPState p 5).restartStream p
  else (s.setPState p 4).portEvent p 0x0305 (some (d + 256 * p))

/-- A discovery ends without a descriptor. -/
def State.noDesc (s : State) (p : Nat) : State :=
  let s := (s.setPort p { s.port p with found := 0xFF, discovering := false }).portEvent p 0x0304 (some p)
  if (s.port p).bound then s.setPState p (if (s.port p).auto then 4 else 5)
  else (s.setReg GNT_P_STATUS.DESC (portD p) 0xFF).setPState p 3

/-- The end of a discovery with an LLDPDU, in hardware mode of F1. -/
def State.lldpMatch (s : State) (p : Nat) (b : Bytes) : State :=
  match s.matchLldp b with | some d => s.foundDesc p d | none => s.noDesc p

/-- The link rate code of a port (Table 9-9). -/
def State.rateCode (s : State) (p : Nat) : Nat := if p < 8 then 0 else s.reg GNT_P_CTRL.RATE (portD p)

/-- The F1 item of port `p` ends with an LLDPDU (R204); in host-assisted mode it is posted. -/
def State.lldpEnds (s : State) (p : Nat) (b : Bytes) : State :=
  let s := s.setPort p { s.port p with discovering := false }
  let m := (s.port p).f1
  if m != 0 then
    let r := s.postHandoff (m - 1) 1 none (leBytes 1 p ++ leBytes 1 (s.rateCode p)) b
      (p :: b.map (·.toNat))
    if r.2 then r.1 else r.1.lldpMatch p b
  else s.lldpMatch p b

/-- LLDPDU_RECEIVED (R204). -/
def execLldpduReceived (p : Nat) (b : Bytes) (s : State) : Outcome State Fault Refusal :=
  let t := ((s.count GNT_P_NONPOINT.COUNT (portD p)).count GNT_P_LLDP_RX.COUNT (portD p)).acceptFrame p
    ⟨0, none, none, false⟩ false
  unitStep p nPorts (s.power.on && s.portLink p)
    (if (s.port p).discovering then t.lldpEnds p b else t) s

/-- DISCOVERY_TIMEOUT (R204). -/
def execDiscoveryTimeout (p : Nat) (s : State) : Outcome State Fault Refusal :=
  let d := s.reg GNT_P_CTRL.DEFAULT_DESC (portD p)
  unitStep p nPorts (s.power.on && (s.port p).discovering)
    (if d < 32 && (s.desc d).valid then s.foundDesc p d else s.noDesc p) s

/-- One LLDP TLV. -/
def tlv (ty : Nat) (v : Bytes) : Bytes := (leBytes 2 (512 * ty + v.length)).reverse ++ v

/-- The text of the System Name TLV, "TJS-128". -/
def systemName : Bytes := [0x54, 0x4A, 0x53, 0x2D, 0x31, 0x32, 0x38]

/-- The seconds between LLDPDUs; 0 is taken as 30. -/
def State.lldpSeconds (s : State) : Nat := orIf0 (s.reg GNT_CTRL.LLDP_TX_S) 30

/-- The LLDPDU of port `p` (R205). -/
def State.lldpdu (s : State) (p : Nat) : Bytes :=
  tlv 1 ([4] ++ portMac p) ++ tlv 2 [7, 0x50, BitVec.ofNat 8 (0x30 + p)]
    ++ tlv 3 (leBytes 2 (4 * s.lldpSeconds)).reverse ++ tlv 5 systemName ++ [0, 0]

def State.sendLldp (s : State) (p : Nat) : State :=
  if s.regB GNT_CTRL.LLDP_TX_EN then s.emit (.lldp p (s.lldpdu p)) else s

/-- LLDP_TRANSMIT (R205). -/
def execLldpTransmit (p : Nat) (s : State) : Outcome State Fault Refusal :=
  unitStep p nPorts (s.power.on && s.portLink p) (s.sendLldp p) s

/-! ## Links (R219, R229, R230) -/

/-- gPTP enters HOLDOVER and moves to ALT_PORT (R219). -/
def State.holdover (s : State) : State :=
  let off := s.reg GNT_GPTP_OFFSET.NS
  let arg := unsigned 64 (signed 32 off)
  let s := { (s.setReg GNT_GPTP_STATUS.STATE 0 3) with gptpRun := 0 }
  let s := s.pfEvent 0x0321 (some (s.reg GNT_GPTP_STATUS.PORT)) arg
  let alt := s.reg GNT_GPTP_CTRL.ALT_PORT
  if alt != 0xF && alt != s.reg GNT_GPTP_STATUS.PORT then
    (((s.setReg GNT_GPTP_STATUS.PORT 0 alt).meetFloor (4 + alt)).meetFloor (14 + alt)).pfEvent 0x0323 (some alt) arg
  else s

/-- The streams end at a hot detach (R229): the sweep is closed and padded, TRUNCATED. -/
def State.cutStream (s : State) (p : Nat) : State :=
  (s.endSweep p flTruncated true).setPort p
    { (s.endSweep p flTruncated true).port p with detached := true, discovering := false }

/-- HOT_DETACH (R229): the link of a bound port has been down for 750 µs. -/
def execHotDetach (p : Nat) (s : State) : Outcome State Fault Refusal :=
  unitStep p nPorts (s.power.on && (s.port p).bound && !(s.port p).detached && !s.portLink p)
    (((s.cutStream p).setPState p 4).portEvent p 0x0302 (some p)) s

/-- PORT_LINK_DOWN (R219): an unbound port is down at once, and gPTP on the port holds over. -/
def State.portDown (s : State) (p : Nat) : State :=
  let s := s.setReg GNT_P_STATUS.LINK (portD p) 0
  let s := if (s.port p).bound then s
    else ((s.setPort p { s.port p with discovering := false, found := 0xFF }).setReg GNT_P_STATUS.DESC
      (portD p) 0xFF).setPState p 0 |>.portEvent p 0x0302 (some p)
  if s.regB GNT_GPTP_CTRL.EN && !s.regB GNT_GPTP_CTRL.SRC && s.reg GNT_GPTP_STATUS.PORT == p then s.holdover
  else s

/-- PORT_LINK_DOWN (R219). -/
def execPortLinkDown (p : Nat) (s : State) : Outcome State Fault Refusal :=
  unitStep p nPorts (s.power.on && s.portLink p) (s.portDown p) s

/-- Discovery starts on a port whose link has come up (R204): an F1 item opens, with the mode then in force (R181). -/
def State.startDiscovery (s : State) (p : Nat) : State :=
  let s := s.applyMode 1
  (s.setPort p { s.port p with discovering := true, found := 0xFF,
                               f1 := if s.regB MODE_F.MODE 4 then s.handler 1 + 1 else 0 }).sendLldp p

/-- A link comes up (R204, R230): its domains come up to their floor (R395), and the port is DISCOVERING until its
discovery ends. A bound port that was not detached has only missed frames (Table 9-8); one bound with a named
descriptor takes frames under it at once (R206), one bound with AUTO_DESC after its discovery. -/
def State.linkUp (s : State) (p : Nat) : State :=
  let s := ((s.setReg GNT_P_STATUS.LINK (portD p) 1).meetFloor (4 + p)).meetFloor (14 + p)
  let q := s.port p
  if q.bound && !q.detached then s
  else
    let s := s.portEvent p 0x0301 (some (p + 16 * s.rateCode p))
    let s := if !q.bound then s
      else
        let s := s.setPort p { q with detached := false }
        if q.auto then s.setReg GNT_P_STATUS.DESC (portD p) 0xFF else s.restartStream p
    (s.setPState p 2).startDiscovery p

/-- PORT_LINK_UP (R204): ports 8 and 9 link at the rate forced on them. -/
def execPortLinkUp (p rate : Nat) (s : State) : Outcome State Fault Refusal :=
  unitStep p nPorts (s.power.on && !s.portLink p && rate == s.rateCode p && (p < 8 || rate != 0)
    && s.reg GNT_P_STATUS.STATE (portD p) != 6) (s.linkUp p) s

/-! ## Binding (R224 to R226) -/

/-- The peak rate of a descriptor set in thousands of points a second: the largest in it (R225). -/
def State.maskKpps (s : State) (mask : Nat) : Nat :=
  (((List.range 32).filter (bit mask)).map fun d => (s.desc d).kpps).foldl max 0

/-- The MAX_KPPS that a bound port counts for (R225). -/
def State.portKpps (s : State) (p : Nat) : Nat :=
  let q := s.port p
  if !q.bound then 0
  else if q.auto then s.maskKpps q.mask else (s.desc (s.reg GNT_P_STATUS.DESC (portD p))).kpps

/-- GNT_STATUS.KPPS_BOUND. -/
def State.kppsBound (s : State) : Nat := ((List.range nPorts).map s.portKpps).sum

/-- The ports that a pipeline carries. -/
def State.pipePorts (s : State) (g : Nat) : Nat :=
  (s.ports.filter fun e => e.2.bound && e.2.pipeline == g).length

/-- The pipeline that BIND_PORT takes (Table 9-6). -/
def State.bindPipe (s : State) (e : Sqe) : Option Nat :=
  let want := e.fld 35 1
  if want = 0xFF then
    match (List.range 8).find? fun g => s.pipePorts g = 0 with
    | some g => some g
    | none => (List.range 8).find? fun g => s.pipePorts g = 1
  else if s.pipePorts want < 2 then some want else none

/-- The binding that the operator fields describe. -/
def State.bindingOf (s : State) (o : Op) (e : Sqe) (g : Nat) : Port :=
  let q := s.port (e.fld 32 1)
  let fl := e.fld 33 1
  { q with bound := true, binder := o.inst, pipeline := g, fence := e.fld 36 2, auto := bit fl 1,
           mask := e.fld 40 4, dropNewest := bit fl 2, sliceUs := e.fld 38 2, slots := e.fld 44 2,
           perSweep := e.fld 46 2, slotPts := e.fld 48 4, nominal := e.fld 52 2, ringBase := e.fld 56 8,
           detached := false, sync := false, sweepOn := false, ts := 0, j := 0, sweep := 0, open_ := none,
           closed := 0, prevAz := none, recent := [], dropRun := 0, lostSince := 0, lostTick := 0,
           sliceModes := [], stepped := false }

/-- The ranges of BIND_PORT's fields (Table 9-6, R225). -/
def State.bindFieldsOk (s : State) (e : Sqe) : Bool :=
  let fl := e.fld 33 1
  let d := s.desc (e.fld 34 1)
  let n := e.fld 44 2
  let sw := e.fld 46 2
  let us := e.fld 38 2
  fl < 8 && (bit fl 1 || (e.fld 34 1 < 32 && d.valid)) && (e.fld 35 1 < 8 || e.fld 35 1 == 0xFF)
    && 250 ≤ us && us ≤ 20000 && 1 ≤ e.fld 48 4 && e.fld 48 4 ≤ 1048576 && e.rsv [(54, 2)]
    && e.fld 56 8 % 4096 == 0 && n != 0
    && (if sw = 0 then ceilDiv (4 * e.fld 52 2 * 1000) us ≤ n else 4 * sw ≤ n)
    && (bit fl 1 || d.rule != 0 || sw != 0) && (s.bindPipe e).isSome

/-- The status that BIND_PORT completes with, other than OK (R225); a ring over the catalogue is ERR_ACCESS (R288). -/
def State.bindError (s : State) (o : Op) (e : Sqe) : Option Nat :=
  let p := e.fld 32 1
  let q := s.bindingOf o e 0
  if p ≥ nPorts then some ERR_DESCRIPTOR
  else if o.inst != s.reg GNT_P_CTRL.OWNER (portD p) || !s.ownsFence o.inst (e.fld 36 2)
      || q.ringBase + q.ringSize > localEnd || (q.ringBase < 0x10000 && q.ringSize != 0) then some ERR_ACCESS
  else if !s.bindFieldsOk e then some ERR_DESCRIPTOR
  else if (s.port p).bound || s.reg GNT_P_STATUS.STATE (portD p) == 6 || s.reg LPS_STATUS.DBG_LEVEL == 3 then
    some ERR_MODE
  else
    let g := (s.bindPipe e).getD 0
    let t := s.setPort p (s.bindingOf o e g)
    let kpps := if q.auto then s.maskKpps q.mask else (s.desc (e.fld 34 1)).kpps
    let back := if s.topaz.shed.contains p || s.topaz.queue.any (·.item == .podl p) then podlCharge q.podlMw else 0
    if t.floorBU + back > 768 || s.kppsBound + kpps > 96000 then some ERR_POOL_EXHAUSTED else none

/-- The domains whose hardware floor a binding raises (Table 3-2). -/
def bindDomains (p g : Nat) : List Nat :=
  [4 + p, 14 + p, 24 + g] ++ (List.range 8).map (188 + ·) ++ (List.range 16).map (204 + ·)

/-- The domains that a BIND_PORT waits for (R224, Table 3-6): the port's and its pipeline to be ON, the Zircon
channels and the fabric segments to be IDLE or above; a FAILED one is not waited for. -/
def State.bindWaits (s : State) (p g : Nat) : List Nat :=
  ((bindDomains p g).filter fun n => !(s.dom n).failed && !(s.dom n).up) ++
    ([4 + p, 14 + p, 24 + g].filter fun n => !(s.dom n).failed && (s.dom n).st == .idle)

/-- BIND_PORT takes effect (R224): the floor rises and the domains come up; the operation completes when
the port's domains and its pipeline are ON. A discovered descriptor that AUTO_DESC may not take is refused (R206). -/
def State.bindOp (s : State) (tag : Nat) (o : Op) (e : Sqe) : State :=
  let p := e.fld 32 1
  let g := (s.bindPipe e).getD 0
  let found := (s.port p).found
  let s := s.setPort p (s.bindingOf o e g)
  let q := s.port p
  let d := if !q.auto then e.fld 34 1 else if found < 32 && s.autoTakes q found then found else 0xFF
  let s := (s.setReg GNT_P_STATUS.PIPELINE (portD p) g).setReg GNT_P_STATUS.DESC (portD p) d
  let s := (s.setReg GNT_P_SEQ.SEQ (portD p) 0).setReg GNT_P_HEAD.HEAD (portD p) 0
  let up := s.portLink p
  let s := s.setPort p { s.port p with detached := !up }
  let s := (s.restartStream p).setPState p (if up && d != 0xFF then 5 else 4)
  let s := if up && d = 0xFF && found < 32 then s.portEvent p 0x0305 (some (found + 256 * p)) else s
  let s := [4 + p, 14 + p, 24 + g].foldl (fun t n => t.wakeOn n 7) ((bindDomains p g).foldl State.meetFloor s)
  let s := s.rebalance
  let wait := s.bindWaits p g
  let result := g + 256 * d
  if wait.isEmpty then s.finish tag OK (some result)
  else match s.op? tag with
    | none => s
    | some o => s.setOp tag { o with phase := .held heldDomains (result :: 0 :: wait) }

/-- The operation under `tag` is a BIND_PORT entry with FLAGS.UNBIND as given. -/
def State.isUnbind (s : State) (tag : Nat) : Bool :=
  match (s.op? tag).bind Op.sqe? with
  | some e => bit (e.fld 33 1) 0
  | none => false

/-- BIND_PORT (R224, R225). -/
def execBindPort (tag : Nat) (_ : OpIo) (s : State) : Outcome State Fault Refusal :=
  stepIf (!s.isUnbind tag) (s.runOp tag 0x0101 anyone (fun o e => s.bindError o e) (s.bindOp tag)) s

/-- The guard learns that a required port is unbound (Table 10-10). -/
def State.guardUnbound (s : State) (p : Nat) : State :=
  if bit (s.reg JDE_REQ_PORTS.MASK) p then s.stop 2 else s

/-- UNBIND (R226): a hot detach with its LINK_DOWN (R229), unless the port is detached already, after which the
floor and the pipeline are released. With the link up a discovery goes on (DEDUCED, log entry 83). -/
def State.unbindOp (s : State) (tag : Nat) (e : Sqe) : State :=
  let p := e.fld 32 1
  let g := (s.port p).pipeline
  let up := s.portLink p
  let disc := up && (s.port p).discovering
  let s := if (s.port p).detached then s else (s.cutStream p).portEvent p 0x0302 (some p)
  let q := s.port p
  let s := s.setPort p { portReset with podlMw := q.podlMw, podlFails := q.podlFails, found := q.found,
                                         discovering := disc, f1 := q.f1 }
  let s := (s.setReg GNT_P_STATUS.PIPELINE (portD p) 0xF).setReg GNT_P_STATUS.DESC (portD p) q.found
  let s := (s.setPState p (if disc then 2 else if up then 3 else 0)).guardUnbound p
  let s := s.modePort p
  let s := if s.ports.any (fun e => e.2.bound) then s.modeDone 0 else s.applyMode 0
  s.rebalance.finish tag OK (some (g + 256 * 0xFF))

/-- UNBIND (R225, R226). -/
def execUnbind (tag : Nat) (_ : OpIo) (s : State) : Outcome State Fault Refusal :=
  stepIf (s.isUnbind tag) (s.runOp tag 0x0101 anyone
    (fun o e =>
      let p := e.fld 32 1
      if p ≥ nPorts then some ERR_DESCRIPTOR
      else if !(s.port p).bound || (s.port p).binder != o.inst || o.inst != s.reg GNT_P_CTRL.OWNER (portD p)
        then some ERR_ACCESS
      else orDescriptor (e.fld 33 1 < 8 && e.rsv [(54, 2)]))
    fun _ e => s.unbindOp tag e) s

/-- SLICE_CONSUME (R215). -/
def execSliceConsume (tag : Nat) (_ : OpIo) (s : State) : Outcome State Fault Refusal :=
  answer s (s.runOp tag 0x0102
    (fun o e => e.fld 32 1 ≥ nPorts || o.inst == s.reg GNT_P_CTRL.OWNER (portD (e.fld 32 1)))
    (fun _ e => orDescriptor (e.fld 32 1 < nPorts && e.rsv [(33, 7), (48, 16)]
      && e.fld 40 8 ≤ s.reg GNT_P_SEQ.SEQ (portD (e.fld 32 1))))
    fun _ e =>
      let d := portD (e.fld 32 1)
      let s := s.setReg GNT_P_HEAD.HEAD d (max (s.reg GNT_P_HEAD.HEAD d) (e.fld 40 8))
      s.finish tag OK (some (s.reg GNT_P_HEAD.HEAD d % 2 ^ 32)))

/-! ## gPTP (R218 to R220) -/

/-- The staged gPTP settings come into force (Table 9-11). Enabling starts with acquiring on PORT. -/
def State.gptpBoundary (s : State) : State :=
  let was := s.regB GNT_GPTP_CTRL.EN
  let oldPort := s.reg GNT_GPTP_CTRL.PORT
  let s := (s.applyStaged GNT_GPTP_CTRL.EN).applyStaged GNT_GPTP_CTRL.PORT
  let s := (s.applyStaged GNT_GPTP_CTRL.ALT_PORT).applyStaged GNT_GPTP_CTRL.SRC
  if !s.regB GNT_GPTP_CTRL.EN then { (s.setReg GNT_GPTP_STATUS.STATE 0 0) with gptpRun := 0 }
  else if !was || s.reg GNT_GPTP_CTRL.PORT != oldPort then
    let p := s.reg GNT_GPTP_CTRL.PORT
    let s := (s.setReg GNT_GPTP_STATUS.STATE 0 1).setReg GNT_GPTP_STATUS.PORT 0 p
    ((({ s with gptpRun := 0 } : State).meetFloor (4 + p)).meetFloor (14 + p))
  else s

/-- A 32-bit register of a signed value, saturating. -/
def sat32 (v : Int) : Nat := unsigned 32 (max (-(2 ^ 31)) (min (2 ^ 31 - 1) v))

/-- The rate that QTZ_DTIME_RATE holds, within its limits (R65). -/
def clampRate (v : Int) : Int := max (-1000000) (min 1000000 v)

/-- The servo takes an offset in ns (R218, R220): it steps, or steers; eight good ones in a row lock. -/
def State.servo (s : State) (offset : Int) : State :=
  let s := s.setReg GNT_GPTP_OFFSET.NS 0 (sat32 offset)
  let s := if s.reg GNT_GPTP_STATUS.STATE == 3 then s.setReg GNT_GPTP_STATUS.STATE 0 1 else s
  let port := s.reg GNT_GPTP_STATUS.PORT
  if offset.natAbs > 1000 * s.reg GNT_GPTP_CTRL.STEP_THRESH_US then
    let s := { s with quartz := { s.quartz with stepPend := s.quartz.stepPend - offset }, gptpRun := 0 }
    (s.count GNT_GPTP_STEPS.COUNT).pfEvent 0x0322 (some port) (unsigned 64 offset)
  else
    let rate := clampRate (Config.servoRate offset (signed 32 (s.reg QTZ_DTIME_RATE.RATE)))
    let s := s.setReg QTZ_DTIME_RATE.RATE 0 (unsigned 32 rate)
    let run := if offset.natAbs ≤ 1000 then min 8 (s.gptpRun + 1) else 0
    let s := { s with gptpRun := run }
    if run ≥ 8 && s.reg GNT_GPTP_STATUS.STATE != 2 then
      (s.setReg GNT_GPTP_STATUS.STATE 0 2).pfEvent 0x0320 (some port) (unsigned 64 offset)
    else s

/-- GPTP_SYNC (R218): the offset of DTIME from the master, the peer delay, the grandmaster's identity. -/
def execGptpSync (offset : Int) (pdelay gm : Nat) (s : State) : Outcome State Fault Refusal :=
  let t := s.gptpBoundary
  let u := ((t.setReg GNT_GPTP_PDELAY.NS 0 (min pdelay 0xFFFFFFFF)).setReg GNT_GPTP_GM_LO.ID 0 gm).setReg
    GNT_GPTP_GM_HI.ID 0 (gm / 2 ^ 32)
  stepIf s.power.on
    (if t.regB GNT_GPTP_CTRL.EN && !t.regB GNT_GPTP_CTRL.SRC && t.portLink (t.reg GNT_GPTP_STATUS.PORT)
     then u.servo offset else t) s

/-- GPTP_ANNOUNCE_TIMEOUT (R219). -/
def execGptpAnnounceTimeout (s : State) : Outcome State Fault Refusal :=
  stepIf (s.power.on && s.regB GNT_GPTP_CTRL.EN && !s.regB GNT_GPTP_CTRL.SRC) s.holdover s

/-- The error of DTIME at an edge, in ns: its distance from the nearest whole second, but one that calls for a step
counts from the start of the second, since a step never changes the count of seconds (R220). -/
def secondError (dtime threshUs : Nat) : Int :=
  let m := dtime % 1000000000
  if m ≤ 500000000 || 1000000000 - m > 1000 * threshUs then m else (m : Int) - 1000000000

/-- SYNC_IN_EDGE (R220). -/
def execSyncInEdge (s : State) : Outcome State Fault Refusal :=
  let t := s.gptpBoundary
  stepIf s.power.on
    (if t.regB GNT_GPTP_CTRL.EN && t.regB GNT_GPTP_CTRL.SRC then t.servo (secondError t.dtimeNow (t.reg GNT_GPTP_CTRL.STEP_THRESH_US)) else t) s

/-! ## PoDL (R42 to R44) and cable tests (R228) -/

/-- PoDL power leaves port `p`, and so do a grant that it waits for and its place among the shed ports: it comes
back through detection and classification only (R228). -/
def State.podlOff (s : State) (p : Nat) : State :=
  let s := (s.setReg GNT_P_STATUS.PODL_ON (portD p) 0).setReg GNT_P_PODL_MW.MW (portD p) 0
  let s := { s with topaz := { s.topaz with queue := s.topaz.queue.filter (·.item != Item.podl p),
                                            shed := s.topaz.shed.filter (· != p) } }
  if s.topaz.items.contains (.podl p) then s.release (.podl p) else s

/-- A power of `mw` on port `p` would raise the floor above 768 BU (R100). -/
def State.podlOver (s : State) (p mw : Nat) : Bool := (s.port p).bound && s.floorBU + podlCharge mw > 768

/-- Power is asked for port `p` (R43), at P7 (DESIGN CHOICE, log entry 131): a bound port's is floor, granted at
once, after which the throttling order applies; one that would raise the floor above 768 BU is not powered, and
nothing changes (R100). -/
def State.podlPower (s : State) (p mw : Nat) : State :=
  if s.podlOver p mw then s
  else ((s.setPort p { s.port p with podlMw := mw }).request (.podl p) 7).1.rebalance

/-- PODL_CLASSIFICATION (R42, R43): the class, its power in mW, and whether it is a 12 V class. The DETAIL
of PODL_CLASS_REFUSED is not stated. -/
def execPodlClassification (p cls mw : Nat) (volts12 : Bool) (s : State) : Outcome State Fault Refusal :=
  let t := s.setReg GNT_P_STATUS.PODL_CLASS (portD p) cls
  let refused := !volts12 || mw > min 7000 (s.reg GNT_P_PODL_LIMIT.MW (portD p))
  unitStep p 8 (s.power.on && s.regB GNT_P_CTRL.PODL_EN (portD p) && !s.regB GNT_P_STATUS.PODL_ON (portD p)
      && !s.regB GNT_P_STATUS.PODL_FAULT (portD p) && s.reg GNT_P_STATUS.STATE (portD p) != 6)
    (if refused then t.portEvent p 0x03E1 none
     else t.podlPower p mw) s

/-- PODL_FAULT (R44). -/
def execPodlFault (p : Nat) (s : State) : Outcome State Fault Refusal :=
  let q := s.port p
  let t := ((s.podlOff p).setReg GNT_P_STATUS.PODL_FAULT (portD p) 1).setReg GBL_PWR_EVENTS.PODL 0 1
  unitStep p 8 (s.power.on && s.regB GNT_P_STATUS.PODL_ON (portD p))
    ((t.setPort p { t.port p with podlFails := q.podlFails + 1 }).portEvent p 0x03E0 none) s

/-- PODL_RETRY (R44): up to three times after a fault, in any state in which the ports run (Table 5-3), but not
during a cable test (R228). -/
def execPodlRetry (p : Nat) (s : State) : Outcome State Fault Refusal :=
  let n := (s.port p).podlFails
  unitStep p 8 (s.power.on && s.regB GNT_P_CTRL.PODL_EN (portD p) && s.regB GNT_P_STATUS.PODL_FAULT (portD p)
      && !s.regB GNT_P_STATUS.PODL_ON (portD p) && s.reg GNT_P_STATUS.STATE (portD p) != 6 && 1 ≤ n && n ≤ 3)
    (s.podlPower p (s.port p).podlMw) s

/-- The PSE of port `p` is armed again. -/
def State.podlClear (s : State) (p : Nat) : State :=
  (s.setReg GNT_P_STATUS.PODL_FAULT (portD p) 0).setPort p { s.port p with podlFails := 0 }

/-- PODL_FAULT_CLEAR (R44): software clears the port's fault bit. -/
def execPodlFaultClear (p : Nat) (s : State) : Outcome State Fault Refusal :=
  unitStep p nPorts s.running (s.podlClear p) s

/-- A cable test starts (R228). -/
def State.startCableTest (s : State) (p : Nat) : State :=
  let s := if s.portLink p then s.portDown p else s
  ((s.podlOff p).setPState p 6).setReg GNT_P_CABLE.BUSY (portD p) 1

/-- GNT_Pp_CTRL.CABLE_TEST written (R228): dropped with CFG_ERR on a bound port. -/
def State.cableTestWrite (s : State) (p : Nat) : State :=
  if (s.port p).bound then s.portCfgErr p
  else if s.regB GNT_P_CABLE.BUSY (portD p) then s else s.startCableTest p

/-- CABLE_TEST (R228). -/
def execCableTest (p : Nat) (s : State) : Outcome State Fault Refusal :=
  unitStep p nPorts s.running (s.cableTestWrite p) s

/-- The end of a cable test: result 1 good, 2 open, 3 short, and the distance in 0.1 m. -/
def State.endCableTest (s : State) (p result dist : Nat) : State :=
  let s := (s.setReg GNT_P_CABLE.RESULT (portD p) result).setReg GNT_P_CABLE.DIST (portD p) (min dist 0xFFF)
  let s := ((s.setReg GNT_P_CABLE.BUSY (portD p) 0).setPState p 0).portEvent p 0x0340 (some p)
  if s.anyHeld heldCable [p] then
    let bad := result != 1
    let s := if bad then s.testFail 3 p s.self false else s
    let s := s.finishHeld heldCable [p] OK (some (b2n bad)) (if bad then none else some 0)
    { s with amber := { s.amber with tests := s.amber.tests.filter fun (x : Nat × Nat) => x.1 != testCode 3 p s.self } }
  else s

/-- CABLE_TEST_DONE (R228). -/
def execCableTestDone (p result dist : Nat) (s : State) : Outcome State Fault Refusal :=
  unitStep p nPorts (s.power.on && s.regB GNT_P_CABLE.BUSY (portD p) && 1 ≤ result && result ≤ 3)
    (s.endCableTest p result dist) s

end Sys2Proof.Machine
end

