-- ==== Sys2Proof/Machine/Clock.lean ====
section
/-!
DEFINITION. Quartz's time: the QCLK tick, DTIME and its steps, SYNC_OUT, and the QCLK monitor (R48, R65,
R66, R83).
-/
namespace Sys2Proof.Machine
open Host (Outcome)

/-- One second in ns. -/
def second : Nat := 1000000000

/-- DTIME's advance at one tick, in 10⁻⁹ ns: 250 ns corrected by the rate in parts per 10⁹ (R65). -/
def State.tickAdvance (s : State) : Nat :=
  (250 * (1000000000 + clampRate (signed 32 (s.reg QTZ_DTIME_RATE.RATE)))).toNat

/-- A SYNC_OUT pulse of 1 µs, which is 4 ticks; one that falls due during another is not given (R48). -/
def State.syncOut (s : State) : State :=
  if s.ticks < s.quartz.pulseEnd then s
  else { (s.emit .syncOut) with quartz := { s.quartz with pulseEnd := s.ticks + 4 } }

/-- A pending DTIME step is applied (R66): every port's open slice closes, and DTIME never goes below 0. -/
def State.applyStep (s : State) : State :=
  let n := s.quartz.stepPend
  if n = 0 then s
  else
    let t := (s.ports.map (·.1)).foldl State.stepPort s
    { t with quartz := { t.quartz with dtime := ((t.quartz.dtime : Int) + n).toNat, stepPend := 0 } }

/-- One QCLK tick (R65): the advance, the pending step, SYNC_OUT, and the reports that a time holds back. -/
def State.qclkTick (s : State) : State :=
  let q := s.quartz
  let f := q.frac + s.tickAdvance
  let new := q.dtime + f / 1000000000
  let s := { s with ticks := s.ticks + 1, quartz := { q with dtime := new, sub := 0, frac := f % 1000000000 } }
  let passed := new / second > q.dtime / second
  let t := s.applyStep
  let jumped := q.stepPend > 0 && t.quartz.dtime / second > new / second
  let t := if passed || jumped then t.syncOut else t
  ((t.ports.map (·.1)).foldl State.reportLost t).flushAllSb

/-- QCLK_TICK (R65). -/
def execQclkTick (s : State) : Outcome State Fault Refusal := stepIf s.power.on s.qclkTick s

/-- A write of QTZ_DTIME_STEP_HI adds the step to the pending one (R66). -/
def State.addStep (s : State) (hi : Nat) : State :=
  let n := signed 64 (s.reg QTZ_DTIME_STEP_LO.STEP + 2 ^ 32 * (hi % 2 ^ 32))
  { s with quartz := { s.quartz with stepPend := s.quartz.stepPend + n } }

/-- DTIME_STEP (R66): the word written. -/
def execDtimeStep (hi : Nat) (s : State) : Outcome State Fault Refusal := stepIf s.running (s.addStep hi) s

/-- QCLK_LOSS (R83, R394): a power fail with a hold of 10 ms. -/
def execQclkLoss (s : State) : Outcome State Fault Refusal :=
  stepIf s.power.on (s.powerFail .ms10 false true) s

end Sys2Proof.Machine
end

