-- ==== Sys2Proof/Machine/Mover.lean ====
section
/-!
DEFINITION. How operators work on memory: reads whose poisoned bytes are undefined, writes, range checks
(R29, R255, R381), remote parts (R343), replies that cannot be used (R187), and the memory operators COPY,
FILL and SCRUB_REGION (R360, R392, R393).
-/
namespace Sys2Proof.Machine
open Host (Outcome)

/-! ## Reading and writing as an operator -/

/-- The state under an operator, and whether it has met poison. -/
structure Mx where
  s : State
  bad : Bool
deriving DecidableEq, Repr

def mx (s : State) : Mx := ⟨s, false⟩

/-- A read: bytes of a poisoned line are undefined, and the operator has met poison (Table 15-2). -/
def Mx.rd (m : Mx) (a n : Nat) : Bytes × Mx :=
  let r := m.s.read a n
  if r.2.1 then
    let t := r.2.2
    ((List.range n).map fun i => if t.isPoison ((a + i) / 64) then Config.freeByte (t.free + i) else t.byteAt (a + i),
     ⟨{ t with free := t.free + n }, true⟩)
  else (r.1, ⟨r.2.2, m.bad⟩)

/-- A write; a poisoned line covered in part stays as it is (R352). -/
def Mx.wr (m : Mx) (a : Nat) (data : Bytes) : Mx :=
  let r := m.s.write a data
  ⟨r.1, m.bad || r.2⟩

/-- A change of the state alone. -/
def Mx.on (m : Mx) (f : State → State) : Mx := ⟨f m.s, m.bad⟩

/-! ## Ranges -/

/-- The status of a list of operator ranges (address, length): ERR_ACCESS before ERR_SPAN_LOST (R382). -/
def State.rangesErr (s : State) (rs : List (Nat × Nat)) : Option Nat :=
  let bad (code : Nat) : Bool := rs.any fun r => match s.locate false r.1 r.2 with
    | .inl _ => false
    | .inr c => c == code
  if bad ERR_ACCESS then some ERR_ACCESS else if bad ERR_SPAN_LOST then some ERR_SPAN_LOST else none

/-- The address in `mem` of an operator address that its range check has passed (R255). -/
def State.lin (s : State) (a : Nat) : Nat :=
  if a ≥ 2 ^ 63 then shelfBase + s.self * shelfSize + a % shelfSize else a

/-- The modules that a list of operator addresses names. -/
def modulesAt (rs : List (Nat × Nat)) : List Nat :=
  ((rs.filter fun r => r.1 < 2 ^ 63 && r.2 != 0).map fun r => r.1 / moduleSpan).eraseDups

/-- An optional range: address 0 means none. -/
def optRange (a n : Nat) : List (Nat × Nat) := if a = 0 then [] else [(a, n)]

/-! ## Remote parts (R343) -/

/-- An optional value in an operation's held arguments. -/
def encOpt : Option Nat → Nat
  | none => 0 | some v => v + 1
def decOpt (n : Nat) : Option Nat := if n = 0 then none else some (n - 1)

/-- SPAN_TAG of the remote parts of the operation under device tag `t` (0 names none). -/
def spanTag (t : Nat) : Nat := t + 1

/-- An operation ends once the modules that hold remote parts of it have answered (R343, R344); with none,
at once. One that has left the span meanwhile ends it with ERR_SPAN_LOST. -/
def State.finishVia (s : State) (tag status : Nat) (result detail : Option Nat) (mods : List Nat) : State :=
  let far := mods.filter (· != s.self)
  if far.isEmpty then s.finish tag status result detail
  else if far.any fun m => !s.activeModule m then s.finish tag ERR_SPAN_LOST
  else match s.op? tag with
    | none => s
    | some o =>
      let s := far.foldl (fun t m => t.sendTo m (t.effPrio o) (spanTag tag) (.req o.inst none)) s
      s.setOp tag { o with phase := .held heldRemote ([status, encOpt result, encOpt detail] ++ far),
                           since := s.ticks }

/-- The end of an operator over memory: ERR_POISON when poison was met. -/
def Mx.done (m : Mx) (tag status : Nat) (result detail : Option Nat) (mods : List Nat) : State :=
  m.s.finishVia tag (if m.bad then ERR_POISON else status) result detail mods

/-- An operation's reply cannot be used (R187): counted for the handler, whose number follows the entry's
64 bytes, and the item is resolved as if its time had expired. -/
def State.badReply (s : State) (tag : Nat) (entry : Bytes) (func : Nat) : State :=
  let n := fieldLE entry 64 1
  (s.count HO_BAD_CNT.COUNT (winD n)).expireCount n func (some tag)

/-! ## COPY and FILL -/

/-- A length that COPY and FILL take: a multiple of 16 B from 16 B to 2³⁶ B. -/
def moveLenOk (n : Nat) : Bool := n % 16 == 0 && 16 ≤ n && n ≤ 2 ^ 36

/-- The 64 B lines of a run at host address `a` that a set of its bytes falls in, as offsets / 64 within
host memory's own lines. -/
def hostLines (a : Nat) (idx : List Nat) : List Nat := (idx.map fun i => (a + i) / 64 - a / 64).eraseDups

/-- A host destination (R392): bytes of poisoned lines go as zero, with EP if HOST_EP asks for it. -/
def State.copyToHost (s : State) (tag : Nat) (o : Op) (e : Sqe) (io : OpIo) : State :=
  let n := e.fld 56 8
  let src := s.lin (e.fld 40 8)
  let s := s.touchAll src n
  let bad := (List.range n).filter fun i => s.isPoison ((src + i) / 64)
  let data := (List.range n).map fun i => if s.isPoison ((src + i) / 64) then 0 else s.byteAt (src + i)
  let lines := hostLines (e.fld 48 8) bad
  let s := s.emit (.dma o.inst (e.fld 48 8) data (if s.regB ZRC_CTRL.HOST_EP then lines else []))
  let mods := modulesAt [(e.fld 40 8, n)]
  if !io.hostOk then s.finishVia tag ERR_ACCESS none none mods
  else s.finishVia tag (if bad.isEmpty then OK else ERR_POISON) (some lines.length) none mods

/-- A device destination: a destination line with bytes from a poisoned line is written poisoned; `poison`
says which byte indexes come from poison. Answers the count of such lines. -/
def Mx.copyIn (m : Mx) (dst : Nat) (data : Bytes) (poison : Nat → Bool) : Mx × Nat :=
  (linesOf dst data.length).foldl (fun r l =>
    let p := linePart dst data l
    if (List.range p.2.length).any fun i => poison (p.1 - dst + i) then
      (⟨r.1.s.spreadPoison l, true⟩, r.2 + 1)
    else (r.1.wr p.1 p.2, r.2)) (m, 0)

/-- A host source (R392): lines that came with EP poison their destination; after a PCIe error the
destination bytes are undefined. -/
def State.copyFromHost (s : State) (tag : Nat) (o : Op) (e : Sqe) (io : OpIo) : State :=
  let n := e.fld 56 8
  let dst := s.lin (e.fld 48 8)
  let s := s.emit (.hostRead o.inst (e.fld 40 8) n)
  let mods := modulesAt [(e.fld 48 8, n)]
  if !io.hostOk then
    let r := s.drawBytes n
    (r.2.write dst r.1).1.finishVia tag ERR_ACCESS none none mods
  else
    let r := (mx s).copyIn dst (byteSlice io.host 0 n) fun i => io.hostPoison.contains (i / 64)
    r.1.done tag OK (some r.2) none mods

/-- Package memory or shelf to the same. -/
def State.copyInside (s : State) (tag : Nat) (e : Sqe) : State :=
  let n := e.fld 56 8
  let src := s.lin (e.fld 40 8)
  let s := s.touchAll src n
  let t := s
  let r := (mx s).copyIn (s.lin (e.fld 48 8)) (s.peek src n) fun i => t.isPoison ((src + i) / 64)
  r.1.done tag OK (some r.2) none (modulesAt [(e.fld 40 8, n), (e.fld 48 8, n)])

/-- The field checks of COPY (R392). -/
def State.copyErr (s : State) (e : Sqe) : Option Nat :=
  let fl := e.fld 32 1
  let n := e.fld 56 8
  let src := e.fld 40 8
  let dst := e.fld 48 8
  if !(fl < 3 && e.rsv [(33, 7)] && src % 16 == 0 && dst % 16 == 0 && moveLenOk n) then some ERR_DESCRIPTOR
  else if fl = 0 && s.lin src < s.lin dst + n && s.lin dst < s.lin src + n then some ERR_DESCRIPTOR
  else s.rangesErr ((if bit fl 0 then [] else [(src, n)]) ++ (if bit fl 1 then [] else [(dst, n)]))

/-- COPY (R392). -/
def execCopy (tag : Nat) (io : OpIo) (s : State) : Outcome State Fault Refusal :=
  answer s (s.runOp tag 0x0601 anyone (fun _ e => s.copyErr e) fun o e =>
    let s := s.plant io.upsets
    if bit (e.fld 32 1) 1 then s.copyToHost tag o e io
    else if bit (e.fld 32 1) 0 then s.copyFromHost tag o e io else s.copyInside tag e)

/-- `n` bytes of a 32-bit pattern repeated. -/
def patternBytes (p n : Nat) : Bytes := (List.range n).map fun i => BitVec.ofNat 8 (p / 256 ^ (i % 4))

/-- FILL of device memory: whole lines clear their poison, a poisoned partial line stays (R352). -/
def State.fillInside (s : State) (tag : Nat) (e : Sqe) : State :=
  let n := e.fld 56 8
  let dst := s.lin (e.fld 48 8)
  let m := (mx s).wr dst (patternBytes (e.fld 36 4) n)
  let left := ((linesOf dst n).filter m.s.isPoison).length
  m.done tag OK (some left) none (modulesAt [(e.fld 48 8, n)])

/-- FILL (R393). -/
def execFill (tag : Nat) (io : OpIo) (s : State) : Outcome State Fault Refusal :=
  answer s (s.runOp tag 0x0602 anyone
    (fun _ e =>
      if !(e.fld 32 1 < 2 && e.rsv [(33, 3), (40, 8)] && e.fld 48 8 % 16 == 0 && moveLenOk (e.fld 56 8)) then
        some ERR_DESCRIPTOR
      else if bit (e.fld 32 1) 0 then none else s.rangesErr [(e.fld 48 8, e.fld 56 8)])
    fun o e =>
      let s := s.plant io.upsets
      if bit (e.fld 32 1) 0 then
        let s := s.emit (.dma o.inst (e.fld 48 8) (patternBytes (e.fld 36 4) (e.fld 56 8)) [])
        if io.hostOk then s.finish tag OK (some 0) else s.finish tag ERR_ACCESS
      else s.fillInside tag e)

/-! ## SCRUB_REGION (R360) -/

/-- One line of the range: the state, the lines corrected so far, and the poisoned lines found. -/
def scrubOne (wb : Bool) (r : State × Nat × List Nat) (line : Nat) : State × Nat × List Nat :=
  let ce := SMap.get r.1.ceLines line false && !SMap.get r.1.ueLines line false && !r.1.isPoison line
    && !r.1.lineFailed line
  let t := r.1.touch (.region wb) line
  (t, if ce then r.2.1 + 1 else r.2.1, if t.isPoison line then r.2.2 ++ [line] else r.2.2)

/-- SCRUB_REGION's effect. -/
def State.scrubOp (s : State) (tag : Nat) (e : Sqe) : State :=
  let base := e.fld 40 8
  let r := (linesOf base (e.fld 48 8)).foldl (scrubOne (bit (e.fld 32 1) 0)) (s, 0, [])
  let list := (r.2.2.take (e.fld 36 4)).flatMap fun l => leBytes 8 (64 * l)
  let out := e.fld 56 8
  let m := if out = 0 then mx r.1 else (mx r.1).wr (r.1.lin out) list
  m.done tag OK (some r.2.2.length) (some (min r.2.1 0xFFFF))
    (modulesAt ((base, e.fld 48 8) :: optRange out list.length))

end Sys2Proof.Machine
end

