-- ==== Sys2Proof/Machine/Beryl.lean ====
section
/-!
DEFINITION. Beryl (chapter 11): hash tables, their enabling and zeroing, HASH_BUILD, HASH_QUERY,
NEIGHBOUR_RADIUS, DOWNSAMPLE and RULEBOOK. An operation takes the table's lock for all its groups in one
step (R263): Opal's grants order whole operations here.
-/
namespace Sys2Proof.Machine
open Host (Outcome)

/-- The output entry of a key that has no row. -/
def noRow : Nat := 0xFFFFFFFF

/-! ## Keys (Table 10-4) -/

def keyI (k : Nat) : Int := signed 21 (bits k 0 21)
def keyJ (k : Nat) : Int := signed 21 (bits k 21 21)
def keyK (k : Nat) : Int := signed 21 (bits k 42 21)
def keyValid (k : Nat) : Bool := bit k 63

/-- A coordinate that a key can hold. -/
def coordOk (i : Int) : Bool := -(2 ^ 20) ≤ i && i ≤ 2 ^ 20 - 1

/-- The valid key of a voxel. -/
def mkKey (i j k : Int) : Nat := unsigned 21 i + 2 ^ 21 * unsigned 21 j + 2 ^ 42 * unsigned 21 k + 2 ^ 63

/-- The key of a voxel, if its coordinates fit. -/
def keyAt (i j k : Int) : Option Nat := if coordOk i && coordOk j && coordOk k then some (mkKey i j k) else none

/-! ## Slots (R258, R259) -/

def State.brlEpoch (s : State) (t : Nat) : Nat := s.reg BRL_T_CTRL.EPOCH (brlD t)
def State.brlCount (s : State) (t : Nat) : Nat := s.reg BRL_T_COUNT.COUNT (brlD t)

/-- The home bucket of a key. -/
def homeBucket (log key : Nat) : Nat := key * 0x9E3779B97F4A7C15 % 2 ^ 64 / 2 ^ (66 - log)

/-- What a search of a bucket finds. -/
inductive Found where
  | row (r : Nat)
  | empty (addr : Nat)
  | nothing
deriving DecidableEq, Repr

/-- Slots 0 to 3 of a bucket's 64 bytes at address `a`, from slot `i` on. -/
def scanSlots (b : Bytes) (a epoch key : Nat) : Nat → Nat → Found
  | _, 0 => .nothing
  | i, k + 1 =>
    if fieldLE b (16 * i + 12) 2 != epoch then .empty (a + 16 * i)
    else if fieldLE b (16 * i) 8 == key then .row (fieldLE b (16 * i + 8) 4)
    else scanSlots b a epoch key (i + 1) k

/-- The search of a key over `k` buckets from bucket `h` on (R259). -/
def Mx.search (m : Mx) (t key h : Nat) : Nat → Found × Mx
  | 0 => (.nothing, m)
  | k + 1 =>
    let a := m.s.brlAt t + 64 * h
    let r := m.rd a 64
    match scanSlots r.1 a (m.s.brlEpoch t) key 0 4 with
    | .nothing => r.2.search t key ((h + 1) % 2 ^ (m.s.brlLog t - 2)) k
    | f => (f, r.2)

/-- The row of a key, or 0xFFFF_FFFF. -/
def Mx.query (m : Mx) (t key : Nat) : Nat × Mx :=
  let r := m.search t key (homeBucket (m.s.brlLog t) key) (m.s.brlProbe t)
  let m := r.2.on fun s => s.count BRL_LOOKUPS.COUNT
  match r.1 with | .row x => (x, m) | _ => (noRow, m)

/-- The row of a voxel, or 0xFFFF_FFFF where none is present. -/
def Mx.queryAt (m : Mx) (t : Nat) (i j k : Int) : Nat × Mx :=
  match keyAt i j k with | some key => m.query t key | none => (noRow, m)

/-- A key that is not inserted (R282). -/
def State.keyDropped (s : State) (t : Nat) : State :=
  (s.count BRL_T_DROPS.COUNT (brlD t)).setReg BRL_T_CTRL.FULL (brlD t) 1

/-- An insertion (R259, R282): the key's row, or 0xFFFF_FFFF when the table is full for it. -/
def Mx.insert (m : Mx) (t key : Nat) : Nat × Mx :=
  let r := m.search t key (homeBucket (m.s.brlLog t) key) (m.s.brlProbe t)
  match r.1 with
  | .row x => (x, r.2)
  | .nothing => (noRow, r.2.on fun s => s.keyDropped t)
  | .empty a =>
    let m := r.2
    let n := m.s.brlCount t
    if n ≥ 7 * 2 ^ m.s.brlLog t / 8 then (noRow, m.on fun s => s.keyDropped t)
    else
      let m := m.wr a (leBytes 8 key ++ leBytes 4 n ++ leBytes 2 (m.s.brlEpoch t) ++ leBytes 2 0)
      (n, m.on fun s => (s.setReg BRL_T_COUNT.COUNT (brlD t) (n + 1)).count BRL_INSERTS.COUNT)

/-- u64 keys of a block. -/
def keysOf (b : Bytes) (n : Nat) : List Nat := (List.range n).map fun i => fieldLE b (8 * i) 8

/-- Keys that poison makes undefined (R287). -/
def Mx.freeKeys (m : Mx) (n : Nat) : List Nat × Mx :=
  let d := m.s.drawBytes (8 * n)
  (keysOf d.1 n, ⟨d.2, m.bad⟩)

/-- The keys of a table, in row order; all undefined when poison is met. -/
def Mx.rows (m : Mx) (t : Nat) : List Nat × Mx :=
  let n := 2 ^ (m.s.brlLog t - 2)
  let r := (List.range n).foldl (fun x b =>
    let y := Mx.rd x.2 (m.s.brlAt t + 64 * b) 64
    (x.1 ++ (List.range 4).filterMap fun i =>
      if fieldLE y.1 (16 * i + 12) 2 == m.s.brlEpoch t then
        some (fieldLE y.1 (16 * i + 8) 4, fieldLE y.1 (16 * i) 8) else none, y.2)) (([] : List (Nat × Nat)), m)
  let keys := (sortBy (·.1) r.1).map (·.2)
  if r.2.bad && !m.bad then r.2.freeKeys keys.length else (keys, r.2)

/-- A CLEAR (R262). -/
def State.brlClear (s : State) (t : Nat) : State :=
  let d := brlD t
  let e := s.brlEpoch t
  let wrap := e ≥ 0xFFFF
  let s := if wrap || s.regB BRL_T_CTRL.LOST d then s.zeroRange (s.brlAt t) (s.brlSize t) else s
  let s := (s.setReg BRL_T_CTRL.EPOCH d (if wrap then 1 else e + 1)).setReg BRL_T_COUNT.COUNT d 0
  (s.setReg BRL_T_CTRL.FULL d 0).setReg BRL_T_CTRL.LOST d 0

/-- The table answers an operation (R265): enabled, and not LOST unless it is a HASH_BUILD with CLEAR (R256). -/
def State.brlReady (s : State) (t : Nat) (clear : Bool) : Bool :=
  s.regB BRL_T_CTRL.EN (brlD t) && (clear || !s.regB BRL_T_CTRL.LOST (brlD t))

/-- Some of the tables is being zeroed (R262). -/
def State.brlZeroing (s : State) (ts : List Nat) : Bool := ts.any fun t => s.regB BRL_T_CTRL.ZEROING (brlD t)

/-- A hash operation: its tables are checked (ERR_MODE), and it waits while one is zeroed. -/
def State.withTables (s : State) (tag : Nat) (ts : List (Nat × Bool)) (k : State → State) : State :=
  if !(ts.all fun t => s.brlReady t.1 t.2) then s.finish tag ERR_MODE
  else if s.brlZeroing (ts.map (·.1)) then
    match s.op? tag with
    | none => s
    | some o => s.setOp tag { o with phase := .held heldZeroing (ts.map (·.1)) }
  else k s

/-! ## Enabling (R262, R283) -/

/-- A write of 1 to EN: accepted, also where EN is 1, it resets the table and starts zeroing. -/
def State.brlEnable (s : State) (t : Nat) : State :=
  let d := brlD t
  if !s.brlFits t then s.cfgErr .brl
  else
    let s := ((s.setReg BRL_T_CTRL.EN d 1).setReg BRL_T_CTRL.EPOCH d 1).setReg BRL_T_COUNT.COUNT d 0
    ((s.setReg BRL_T_CTRL.FULL d 0).setReg BRL_T_CTRL.LOST d 0).setReg BRL_T_CTRL.ZEROING d 1

/-- BRL_TABLE_ENABLE (R262). -/
def execBrlTableEnable (t : Nat) (s : State) : Outcome State Fault Refusal :=
  unitStep t 32 s.running (s.brlEnable t) s

/-- Operations that wait for tables go on once none of theirs is zeroed. -/
def State.zeroingOver (s : State) : State :=
  { s with ops := s.ops.map fun (e : Nat × Op) => match e.2.phase with
      | .held w ts => if w == heldZeroing && !s.brlZeroing ts then (e.1, { e.2 with phase := .started }) else e
      | _ => e }

/-- TABLE_ZEROING_COMPLETE (R262). -/
def execTableZeroingComplete (t : Nat) (s : State) : Outcome State Fault Refusal :=
  unitStep t 32 (s.power.on && s.regB BRL_T_CTRL.ZEROING (brlD t))
    ((s.zeroRange (s.brlAt t) (s.brlSize t)).setReg BRL_T_CTRL.ZEROING (brlD t) 0).zeroingOver s

/-! ## HASH_BUILD and HASH_QUERY (R261, R265, R282) -/

/-- The groups of up to 256 keys in which Beryl works (R263). -/
def keyGroups (keys : List Nat) : List (List Nat) :=
  (List.range (ceilDiv keys.length 256)).map fun i => (keys.drop (256 * i)).take 256

/-- `n` keys read from an address, in their groups; poison makes its group's keys undefined (R287). -/
def Mx.readKeys (m : Mx) (a n : Nat) : List (List Nat) × Mx :=
  (List.range (ceilDiv n 256)).foldl (fun (r : List (List Nat) × Mx) i =>
    let k := min 256 (n - 256 * i)
    let x := Mx.rd ⟨r.2.s, false⟩ (a + 2048 * i) (8 * k)
    let g := if x.2.bad then x.2.freeKeys k else (keysOf x.1 k, x.2)
    (r.1 ++ [g.1], ⟨g.2.s, r.2.bad || g.2.bad⟩)) ([], m)

/-- A group's work, and whether it met poison of its own. -/
def Mx.group {α : Type} (m : Mx) (work : Mx → α × Mx) : α × Bool × Mx :=
  let x := work ⟨m.s, false⟩
  (x.1, x.2.bad, ⟨x.2.s, m.bad || x.2.bad⟩)

/-- `n` u32 entries that poison makes undefined. -/
def Mx.freeRows (m : Mx) (n : Nat) : List Nat × Mx :=
  let d := m.s.drawBytes (4 * n)
  ((List.range n).map fun i => fieldLE d.1 (4 * i) 4, ⟨d.2, m.bad⟩)

/-- The keys of a group one after another: their rows, and the DETAIL bits. An invalid key is neither inserted nor
looked up (R261). -/
def groupKeys (f : Mx → Nat → Nat × Mx) (m : Mx) (keys : List Nat) : (List Nat × Nat) × Mx :=
  keys.foldl (fun (r : (List Nat × Nat) × Mx) k =>
    if keyValid k then
      let x := f r.2 k
      ((r.1.1 ++ [x.1], r.1.2), x.2)
    else ((r.1.1 ++ [noRow], flags r.1.2 1), r.2)) (([], 0), m)

/-- Groups of keys one after another: rows and DETAIL bits. The rows of a group that met poison are undefined (R287). -/
def eachKey (f : Mx → Nat → Nat × Mx) (m : Mx) (groups : List (List Nat)) : List Nat × Nat × Mx :=
  groups.foldl (fun (r : List Nat × Nat × Mx) g =>
    let x := r.2.2.group fun m => groupKeys f m g
    let y := if x.2.1 then x.2.2.freeRows g.length else (x.1.1, x.2.2)
    (r.1 ++ y.1, flags r.2.1 x.1.2, y.2)) ([], 0, m)

/-- An insertion that records TABLE_FULL: whether a key was dropped. -/
def State.brlDrops (s : State) (t : Nat) : Nat := s.reg BRL_T_DROPS.COUNT (brlD t)

/-- u32 words as bytes. -/
def words32 (l : List Nat) : Bytes := l.flatMap (leBytes 4)

/-- A key that found no place. -/
def fullBit (rows : List Nat) (keys : List Nat) : Nat :=
  if (rows.zip keys).any fun x => x.1 == noRow && keyValid x.2 then 4 else 0

/-- DETAIL of a hash operator as a status. -/
def dropStatus (detail : Nat) : Nat := if detail = 0 then OK else OK_WITH_DROPS

/-- HASH_BUILD's effect, with the keys in insertion order; OUT is in the order of the entry's own keys. -/
def State.hashBuildOp (s : State) (tag : Nat) (e : Sqe) (order : Option (List Nat)) : State :=
  let t := e.fld 32 1
  let n := e.fld 36 4
  let s := if bit (e.fld 33 1) 0 then s.brlClear t else s
  let own := (mx s).readKeys (s.lin (e.fld 40 8)) n
  let keys := match order with | none => own.1 | some l => keyGroups l
  let ins := eachKey (fun m k => m.insert t k) own.2 keys
  let out := match order with
    | none => ins
    | some _ => eachKey (fun m k => m.query t k) ins.2.2 own.1
  let detail := flags (flags ins.2.1 out.2.1) (fullBit ins.1 keys.flatten)
  let m := if e.fld 48 8 = 0 then out.2.2 else out.2.2.wr (s.lin (e.fld 48 8)) (words32 out.1)
  m.done tag (dropStatus detail) (some (m.s.brlCount t)) (some detail)
    (modulesAt ((e.fld 40 8, 8 * n) :: optRange (e.fld 48 8) (4 * n)))

/-- HASH_BUILD (R259, R271): F3's keys replace the insertion order. -/
def execHashBuild (tag : Nat) (io : OpIo) (s : State) : Outcome State Fault Refusal :=
  answer s (s.runOp tag 0x0201 anyone
    (fun _ e =>
      if !(e.fld 32 1 < 32 && e.fld 33 1 < 2 && e.rsv [(34, 2), (56, 8)]) then some ERR_DESCRIPTOR
      else s.rangesErr ((e.fld 40 8, 8 * e.fld 36 4) :: optRange (e.fld 48 8) (4 * e.fld 36 4)))
    fun o e =>
      let s := s.plant io.upsets
      let n := e.fld 36 4
      s.withTables tag [(e.fld 32 1, bit (e.fld 33 1) 0)] fun s =>
        s.item tag o e 3 (leBytes 1 (e.fld 32 1) ++ leBytes 3 0 ++ leBytes 4 n)
          (s.peek (s.lin (e.fld 40 8)) (8 * n)) fun s r => match r with
            | none => s.hashBuildOp tag e none
            | some (entry, data) =>
              if data.length == 8 * n then s.hashBuildOp tag e (some (keysOf data n))
              else (s.badReply tag entry 3).hashBuildOp tag e none)

/-- HASH_QUERY (R259, R265): OUT is required. -/
def execHashQuery (tag : Nat) (io : OpIo) (s : State) : Outcome State Fault Refusal :=
  answer s (s.runOp tag 0x0202 anyone
    (fun _ e =>
      if !(e.fld 32 1 < 32 && e.fld 48 8 != 0 && e.rsv [(33, 3), (56, 8)]) then some ERR_DESCRIPTOR
      else s.rangesErr [(e.fld 40 8, 8 * e.fld 36 4), (e.fld 48 8, 4 * e.fld 36 4)])
    fun _ e =>
      let s := s.plant io.upsets
      let n := e.fld 36 4
      s.withTables tag [(e.fld 32 1, false)] fun s =>
        let r := (mx s).readKeys (s.lin (e.fld 40 8)) n
        let q := eachKey (fun m k => m.query (e.fld 32 1) k) r.2 r.1
        let m := q.2.2.wr (s.lin (e.fld 48 8)) (words32 q.1)
        m.done tag (dropStatus q.2.1) (some (q.1.filter (· != noRow)).length) (some q.2.1)
          (modulesAt [(e.fld 40 8, 8 * n), (e.fld 48 8, 4 * n)]))

/-! ## NEIGHBOUR_RADIUS (R267) -/

/-- The offsets of a cube of edge 2r + 1, in the order of their index (R268). -/
def cubeOffsets (r : Nat) : List (Int × Int × Int) :=
  let l := (List.range (2 * r + 1)).map fun (i : Nat) => (i : Int) - r
  l.flatMap fun z => l.flatMap fun y => l.map fun x => (x, y, z)

def norm2 (d : Int × Int × Int) : Nat := (d.1 * d.1 + d.2.1 * d.2.1 + d.2.2 * d.2.2).toNat

/-- The offsets within a radius, by distance and then index. -/
def ballOffsets (r : Nat) : List (Int × Int × Int) :=
  sortBy norm2 ((cubeOffsets r).filter fun d => norm2 d ≤ r * r)

/-- The neighbours present of one key. -/
def Mx.neighbours (m : Mx) (t r key : Nat) : List Nat × Mx :=
  (ballOffsets r).foldl (fun x d =>
    let q := x.2.queryAt t (keyI key + d.1) (keyJ key + d.2.1) (keyK key + d.2.2)
    (if q.1 = noRow then x.1 else x.1 ++ [q.1], q.2)) ([], m)

/-- One query key: its entries, the DETAIL bits, and the neighbours written. -/
def Mx.neighbourKey (m : Mx) (t r maxN key : Nat) : List Nat × Nat × Nat × Mx :=
  if !keyValid key then (List.replicate maxN noRow, 1, 0, m)
  else
    let x := m.neighbours t r key
    let l := x.1.take maxN
    (l ++ List.replicate (maxN - l.length) noRow, if x.1.length > maxN then 2 else 0, l.length, x.2)

/-- The query keys of a group one after another. -/
def Mx.neighbourGroup (m : Mx) (t r maxN : Nat) (keys : List Nat) : (List Nat × Nat × Nat) × Mx :=
  keys.foldl (fun (x : (List Nat × Nat × Nat) × Mx) k =>
    let y := x.2.neighbourKey t r maxN k
    ((x.1.1 ++ y.1, flags x.1.2.1 y.2.1, x.1.2.2 + y.2.2.1), y.2.2.2)) (([], 0, 0), m)

/-- Groups of query keys: the entries, DETAIL, the neighbours written. Poison makes its group's entries undefined. -/
def Mx.neighbourGroups (m : Mx) (t r maxN : Nat) (groups : List (List Nat)) : List Nat × Nat × Nat × Mx :=
  groups.foldl (fun (x : List Nat × Nat × Nat × Mx) g =>
    let y := x.2.2.2.group fun m => m.neighbourGroup t r maxN g
    let z := if y.2.1 then y.2.2.freeRows (maxN * g.length) else (y.1.1, y.2.2)
    (x.1 ++ z.1, flags x.2.1 y.1.2.1, x.2.2.1 + y.1.2.2, z.2)) ([], 0, 0, m)

/-- NEIGHBOUR_RADIUS (R267). -/
def execNeighbourRadius (tag : Nat) (io : OpIo) (s : State) : Outcome State Fault Refusal :=
  answer s (s.runOp tag 0x0204 anyone
    (fun _ e =>
      let mn := e.fld 33 1
      if !(e.fld 32 1 < 32 && 1 ≤ mn && mn ≤ 64 && 1 ≤ e.fld 34 1 && e.fld 34 1 ≤ 8 && e.rsv [(35, 1), (56, 8)])
      then some ERR_DESCRIPTOR
      else s.rangesErr [(e.fld 40 8, 8 * e.fld 36 4), (e.fld 48 8, 4 * mn * e.fld 36 4)])
    fun _ e =>
      let s := s.plant io.upsets
      let n := e.fld 36 4
      let mn := e.fld 33 1
      s.withTables tag [(e.fld 32 1, false)] fun s =>
        let r := (mx s).readKeys (s.lin (e.fld 40 8)) n
        let q := r.2.neighbourGroups (e.fld 32 1) (e.fld 34 1) mn r.1
        let m := q.2.2.2.wr (s.lin (e.fld 48 8)) (words32 q.1)
        m.done tag (dropStatus q.2.1) (some q.2.2.1) (some q.2.1)
          (modulesAt [(e.fld 40 8, 8 * n), (e.fld 48 8, 4 * mn * n)]))

/-! ## DOWNSAMPLE (R266) -/

/-- The key with its coordinates shifted, toward minus infinity. -/
def shiftKey (k s : Nat) : Nat := mkKey (keyI k / 2 ^ s) (keyJ k / 2 ^ s) (keyK k / 2 ^ s)

/-- DOWNSAMPLE's effect with a shift. -/
def State.downsampleOp (s : State) (tag : Nat) (e : Sqe) (shift : Nat) : State :=
  let src := e.fld 32 1
  let dst := e.fld 33 1
  let s := if bit (e.fld 35 1) 0 then s.brlClear dst else s
  let s := s.setReg BRL_T_EDGE_UM.EDGE (brlD dst) (s.reg BRL_T_EDGE_UM.EDGE (brlD src) * 2 ^ shift)
  let r := (mx s).rows src
  let keys := r.1.map (shiftKey · shift)
  let x := eachKey (fun m k => m.insert dst k) r.2 (keyGroups keys)
  let detail := fullBit x.1 keys
  let m := if e.fld 48 8 = 0 then x.2.2 else x.2.2.wr (s.lin (e.fld 48 8)) (words32 x.1)
  m.done tag (dropStatus detail) (some (m.s.brlCount dst)) (some detail)
    (modulesAt (optRange (e.fld 48 8) (4 * keys.length)))

/-- The shift that a handler's voxel edge means, if any (R266). -/
def edgeShift (srcEdge edge : Nat) : Option Nat := [1, 2, 3, 4].find? fun k => srcEdge * 2 ^ k == edge

/-- ARGS of an F2 request: the manual states port and sweep number, which a hash operator does not name:
free values. -/
def State.f2Args (s : State) (count : Nat) : Bytes × State :=
  let r := s.drawBytes 5
  (r.1.take 1 ++ leBytes 3 0 ++ r.1.drop 1 ++ leBytes 4 count, r.2)

/-- DOWNSAMPLE (R266). -/
def execDownsample (tag : Nat) (io : OpIo) (s : State) : Outcome State Fault Refusal :=
  answer s (s.runOp tag 0x0205 anyone
    (fun _ e =>
      let sh := e.fld 34 1
      if !(e.fld 32 1 < 32 && e.fld 33 1 < 32 && 1 ≤ sh && sh ≤ 4 && e.fld 35 1 < 2
        && e.rsv [(36, 12), (56, 8)]) then some ERR_DESCRIPTOR
      else s.rangesErr (optRange (e.fld 48 8) (4 * s.brlCount (e.fld 32 1))))
    fun o e =>
      let s := s.plant io.upsets
      s.withTables tag [(e.fld 32 1, false), (e.fld 33 1, false)] fun s =>
        let a := s.f2Args (s.brlCount (e.fld 32 1))
        a.2.item tag o e 2 a.1 [] fun s r => match r with
          | none => s.downsampleOp tag e (e.fld 34 1)
          | some (entry, _) =>
            match edgeShift (s.reg BRL_T_EDGE_UM.EDGE (brlD (e.fld 32 1))) (fieldLE entry 20 4) with
            | some k => s.downsampleOp tag e k
            | none => (s.badReply tag entry 2).downsampleOp tag e (e.fld 34 1))

/-! ## RULEBOOK (R268 to R271) -/

/-- One pair: input row, output row, offset index. -/
structure RPair where
  inp : Nat
  outp : Nat
  n : Nat
deriving DecidableEq, Repr

/-- The pairs of one output voxel, in offset order. -/
def Mx.voxelPairs (m : Mx) (tin stride : Nat) (offs : List (Int × Int × Int)) (o key : Nat) : List RPair × Mx :=
  let st : Int := stride
  ((List.range offs.length).zip offs).foldl (fun (x : List RPair × Mx) d =>
    let q := x.2.queryAt tin (st * keyI key + d.2.1) (st * keyJ key + d.2.2.1) (st * keyK key + d.2.2.2)
    (if q.1 = noRow then x.1 else x.1 ++ [⟨q.1, o, d.1⟩], q.2)) ([], m)

/-- The pairs of a group of output voxels, from output row `o` on. -/
def Mx.groupPairs (m : Mx) (tin stride : Nat) (offs : List (Int × Int × Int)) (o : Nat) (keys : List Nat) :
    List RPair × Mx :=
  ((List.range keys.length).zip keys).foldl (fun (x : List RPair × Mx) k =>
    let y := x.2.voxelPairs tin stride offs (o + k.1) k.2
    (x.1 ++ y.1, y.2)) ([], m)

/-- Every pair of a rulebook, by output row and then offset; poison makes its group's keys undefined (R287). -/
def Mx.allPairs (m : Mx) (tin tout stride edge : Nat) : List RPair × Mx :=
  let r := m.rows tout
  let offs := cubeOffsets ((edge - 1) / 2)
  let gs := keyGroups r.1
  ((List.range gs.length).zip gs).foldl (fun (x : List RPair × Mx) g =>
    let y := x.2.group fun m => m.groupPairs tin stride offs (256 * g.1) g.2
    let z := if y.2.1 then
        let k := y.2.2.freeKeys g.2.length
        k.2.groupPairs tin stride offs (256 * g.1) k.1
      else (y.1, y.2.2)
    (x.1 ++ z.1, z.2)) ([], r.2)

/-- The shape of a rulebook (Table 11-4): section offsets and sizes. -/
structure RbShape where
  nOut : Nat
  nIn : Nat
  edge : Nat
  stride : Nat
  nmap : Bool
  tileRows : Nat
  pairs : Nat
deriving DecidableEq, Repr

def RbShape.k (r : RbShape) : Nat := r.edge * r.edge * r.edge
def RbShape.tiles (r : RbShape) : Nat := ceilDiv r.nOut r.tileRows
def RbShape.pairOff (r : RbShape) : Nat := 64 + if r.nmap then roundUp (4 * r.nOut * r.k) 64 else 0
def RbShape.tileOff (r : RbShape) : Nat := r.pairOff + roundUp (8 * r.pairs) 64
def RbShape.size (r : RbShape) : Nat := r.tileOff + 16 * r.tiles

/-- The header (Table 11-4); `nOut` is 0 in one that stands alone (R270). -/
def RbShape.header (r : RbShape) (nOut : Nat) : Bytes :=
  leBytes 4 nOut ++ leBytes 4 r.nIn ++ leBytes 1 r.edge ++ leBytes 1 r.stride ++ leBytes 1 (b2n r.nmap) ++ [0]
    ++ leBytes 2 r.tileRows ++ leBytes 2 0 ++ leBytes 4 r.tiles ++ leBytes 4 r.pairs
    ++ leBytes 8 (if r.nmap then 64 else 0) ++ leBytes 8 r.pairOff ++ leBytes 8 r.tileOff ++ leBytes 16 0

/-- The pairs of tile `t`, by offset and then local row. -/
def RbShape.tilePairs (r : RbShape) (ps : List RPair) (t : Nat) : List RPair :=
  sortBy (·.n) (sortBy (·.outp) (ps.filter fun p => p.outp / r.tileRows = t))

/-- The sections behind the header: neighbour map, pairs, tile metadata, each padded to 64 B. -/
def RbShape.body (r : RbShape) (ps : List RPair) : Bytes :=
  let pad (b : Bytes) : Bytes := byteSlice b 0 (roundUp b.length 64)
  let nmap := (List.range r.nOut).flatMap fun o => (List.range r.k).flatMap fun n =>
    leBytes 4 (match ps.find? fun p => p.outp == o && p.n == n with | some p => p.inp | none => noRow)
  let per := (List.range r.tiles).map fun t => r.tilePairs ps t
  let start (t : Nat) : Nat := ((per.take t).map List.length).sum
  let pairBytes := ((List.range r.tiles).zip per).flatMap fun x => x.2.flatMap fun p =>
    leBytes 4 p.inp ++ leBytes 2 (p.outp - x.1 * r.tileRows) ++ leBytes 1 p.n ++ [0]
  let meta_ := ((List.range r.tiles).zip per).flatMap fun x =>
    leBytes 4 (x.1 * r.tileRows) ++ leBytes 2 (min r.tileRows (r.nOut - x.1 * r.tileRows))
      ++ leBytes 1 (b2n r.nmap) ++ [0] ++ leBytes 4 (start x.1) ++ leBytes 4 x.2.length
  (if r.nmap then pad nmap else []) ++ pad pairBytes ++ meta_

/-- RULEBOOK writes its layout, or only its header when it does not fit (R270). -/
def Mx.writeRulebook (m : Mx) (tag : Nat) (e : Sqe) (ps : List RPair) : State :=
  let r : RbShape := { nOut := m.s.brlCount (e.fld 33 1), nIn := m.s.brlCount (e.fld 32 1), edge := e.fld 34 1,
                       stride := e.fld 35 1, nmap := bit (e.fld 36 1) 0, tileRows := e.fld 38 2,
                       pairs := ps.length }
  let at_ := m.s.lin (e.fld 40 8)
  let mods := modulesAt [(e.fld 40 8, e.fld 48 4)]
  if r.size > e.fld 48 4 then
    (m.wr at_ ((r.header 0).take (e.fld 48 4))).done tag ERR_POOL_EXHAUSTED (some r.size) none mods
  else (m.wr at_ (r.header r.nOut ++ r.body ps)).done tag OK (some r.pairs) (some 0) mods

/-- The pairs that an F4 reply holds, if every one is in range (R271). -/
def State.replyPairs (s : State) (e : Sqe) (data : Bytes) : Option (List RPair) :=
  let ps := (List.range (data.length / 12)).map fun i =>
    (⟨fieldLE data (12 * i) 4, fieldLE data (12 * i + 4) 4, fieldLE data (12 * i + 8) 4⟩ : RPair)
  let k := e.fld 34 1 * e.fld 34 1 * e.fld 34 1
  if data.length % 12 = 0 && ps.all fun p =>
      p.inp < s.brlCount (e.fld 32 1) && p.outp < s.brlCount (e.fld 33 1) && p.n < k
  then some ps else none

/-- RULEBOOK in hardware mode of F4. -/
def State.rulebookOp (s : State) (tag : Nat) (e : Sqe) : State :=
  let r := (mx s).allPairs (e.fld 32 1) (e.fld 33 1) (e.fld 35 1) (e.fld 34 1)
  r.2.writeRulebook tag e r.1

/-- RULEBOOK (R268 to R271). -/
def execRulebook (tag : Nat) (io : OpIo) (s : State) : Outcome State Fault Refusal :=
  answer s (s.runOp tag 0x0203 anyone
    (fun _ e =>
      let tr := e.fld 38 2
      if !(e.fld 32 1 < 32 && e.fld 33 1 < 32 && [1, 3, 5].contains (e.fld 34 1) && [1, 2].contains (e.fld 35 1)
        && e.fld 36 1 < 2 && 1 ≤ tr && tr ≤ 4096 && e.fld 40 8 % 64 == 0 && e.rsv [(37, 1), (52, 12)])
      then some ERR_DESCRIPTOR
      else s.rangesErr [(e.fld 40 8, e.fld 48 4)])
    fun o e =>
      let s := s.plant io.upsets
      s.withTables tag [(e.fld 32 1, false), (e.fld 33 1, false)] fun s =>
        s.item tag o e 4 (leBytes 1 (e.fld 32 1) ++ leBytes 3 0 ++ leBytes 4 (e.fld 48 4 / 8)) []
          fun s r => match r with
            | none => s.rulebookOp tag e
            | some (entry, data) => match s.replyPairs e data with
              | some ps => (mx s).writeRulebook tag e ps
              | none => (s.badReply tag entry 4).rulebookOp tag e)

end Sys2Proof.Machine
end

