-- ==== Sys2Proof/Machine/Motion.lean ====
section
/-!
DEFINITION. MOTION_COMP with its search of the pose ring (R232 to R235), POSE_WAIT_TIMEOUT, and VOXELISE
(R236 to R238). FP32 arithmetic rounds at each operation, in the order the formulas are written.
-/
namespace Sys2Proof.Machine
open Host (Outcome)

/-! ## FP32 vectors and matrices -/

/-- Element `i` of a list of FP32 values. -/
def at32 (v : List Nat) (i : Nat) : Nat := v.getD i 0

/-- `n` FP32 values from byte `off` of a block. -/
def f32List (b : Bytes) (off n : Nat) : List Nat := (List.range n).map fun i => f32At b (off + 4 * i)

def vadd (a b : List Nat) : List Nat := List.zipWith f32.add a b
def vsub (a b : List Nat) : List Nat := List.zipWith f32.sub a b
def vscale (u : Nat) (a : List Nat) : List Nat := a.map (f32.mul u)

/-- Products summed in order. -/
def dot32 (a b : List Nat) : Nat :=
  match List.zipWith f32.mul a b with
  | [] => zero32
  | x :: xs => xs.foldl f32.add x

/-- Row `i` of a 3×3 matrix held in row-major order. -/
def matRow (m : List Nat) (i : Nat) : List Nat := (m.drop (3 * i)).take 3
def matT (m : List Nat) : List Nat := [0, 3, 6, 1, 4, 7, 2, 5, 8].map (at32 m)
def matVec (m v : List Nat) : List Nat := (List.range 3).map fun i => dot32 (matRow m i) v
def matMul (a b : List Nat) : List Nat :=
  (List.range 3).flatMap fun i => (List.range 3).map fun j => dot32 (matRow a i) (matRow (matT b) j)

/-- The rotation of a unit quaternion (w, x, y, z). -/
def quatMat (q : List Nat) : List Nat :=
  let w := at32 q 0; let x := at32 q 1; let y := at32 q 2; let z := at32 q 3
  let dbl (a : Nat) : Nat := f32.add a a
  let d (a b : Nat) : Nat := f32.sub one32 (dbl (f32.add (f32.mul a a) (f32.mul b b)))
  let plus (a b c e : Nat) : Nat := dbl (f32.add (f32.mul a b) (f32.mul c e))
  let minus (a b c e : Nat) : Nat := dbl (f32.sub (f32.mul a b) (f32.mul c e))
  [d y z, minus x y w z, plus x z w y,
   plus x y w z, d x z, minus y z w x,
   minus x z w y, plus y z w x, d x y]

/-- The product of two quaternions. -/
def quatMul (p q : List Nat) : List Nat :=
  let g (i j k l : Nat) (s t u : Bool) : Nat :=
    let f (neg : Bool) (acc v : Nat) : Nat := if neg then f32.sub acc v else f32.add acc v
    f u (f t (f s (f32.mul (at32 p 0) (at32 q i)) (f32.mul (at32 p 1) (at32 q j)))
      (f32.mul (at32 p 2) (at32 q k))) (f32.mul (at32 p 3) (at32 q l))
  [g 0 1 2 3 true true true, g 1 0 3 2 false false true, g 2 3 0 1 true false false,
   g 3 2 1 0 false true false]

/-! ## Poses (R233) -/

/-- A pose: position and orientation. -/
structure Pose where
  pos : List Nat
  quat : List Nat
deriving DecidableEq, Repr

/-- What a search answers: a pose (and whether it was extrapolated), stale, or wait for a later entry. -/
inductive PoseFound where
  | pose (v : Pose) (extrapolated : Bool)
  | stale
  | wait
deriving DecidableEq, Repr

/-- The numbers of the entries that the pose ring holds, newest first. -/
def State.poseEntries (s : State) : List Nat :=
  let k := s.reg GNT_POSE_WR.COUNT
  (List.range (min k s.poseSize)).map fun i => k - 1 - i

/-- Entry `k`, read as one 64 B unit. -/
def Mx.poseEntry (m : Mx) (k : Nat) : Bytes × Mx := m.rd (m.s.localAddr (m.s.poseOff k)) 64

def poseTime (e : Bytes) : Nat := fieldLE e 8 8
def posOf (e : Bytes) : List Nat := f32List e 16 3
def quatOf (e : Bytes) : List Nat := f32List e 28 4

/-- The newest entry whose TIME is at or before `t`, and the entry after it. -/
def Mx.poseSearch (m : Mx) (t : Nat) (later : Option Bytes) : List Nat → Option Bytes × Option Bytes × Mx
  | [] => (none, later, m)
  | k :: ks =>
    let r := m.poseEntry k
    if poseTime r.1 ≤ t then (some r.1, later, r.2) else r.2.poseSearch t (some r.1) ks

/-- The weights of slerp: sin((1 − u)θ) / sin θ and sin(uθ) / sin θ, where θ is the angle between the quaternions; at
θ = 0, and where rounding puts the cosine beyond 1, their limits 1 − u and u. -/
def slerpWeights (d u : Nat) : Nat × Nat :=
  if !f32.finite d then (f32.nanBits, f32.nanBits)
  else if !f32.lt d one32 then (f32.sub one32 u, u)
  else
    let th := fixAcos (fix32 d) 20
    let w (id : Nat) (part : Int) : Nat :=
      f32.faithful (Config.roundsUp id [d, u]) false (fixSin (fixMul part th)).natAbs (fixSin th).natAbs
    (w 3 (fixOne - fix32 u), w 4 (fix32 u))

/-- A quaternion normalised. -/
def quatUnit (q : List Nat) : List Nat :=
  let n := f32.sqrt (dot32 q q)
  q.map fun x => f32.div x n

/-- Spherical interpolation of two quaternions whose dot product is `d`, at `u`, normalised (R233). -/
def slerp (a b : List Nat) (d u : Nat) : List Nat :=
  let w := slerpWeights d u
  quatUnit (vadd (vscale w.1 a) (vscale w.2 b))

/-- The quaternion of a turn about z by an FP32 angle in radians (R233). -/
def yawTurn (x : Nat) : List Nat :=
  if !f32.finite x then [f32.nanBits, zero32, zero32, f32.nanBits]
  else
    let h := fix32 x / 2
    let r := h % (2 * fixPi)
    [fixToF32 5 [x] (fixCos r), zero32, zero32, if f32.isZero x then x else fixToF32 6 [x] (fixSin r)]

/-- Interpolation between two entries at time `t`; u is formed in FP64 and rounded to FP32. Where the dot product is 0 its
sign counts as positive (DESIGN CHOICE, log entry 16). -/
def interpolate (a b : Bytes) (t : Nat) : Pose :=
  let span := poseTime b - poseTime a
  let u := f64.conv f32 (f64.div (f64.ofInt (t - poseTime a : Nat)) (f64.ofInt span))
  let qa := quatOf a
  let d := dot32 qa (quatOf b)
  let flip := f32.lt d zero32
  let qb := if flip then (quatOf b).map f32.neg else quatOf b
  ⟨vadd (posOf a) (vscale u (vsub (posOf b) (posOf a))), slerp qa qb (if flip then f32.neg d else d) u⟩

/-- Extrapolation from the newest entry. -/
def extrapolate (a : Bytes) (t : Nat) : Pose :=
  if bit (fieldLE a 2 2) 1 then
    let dt := f32.round false (t - poseTime a) 1000000000
    ⟨vadd (posOf a) (vscale dt (matVec (quatMat (quatOf a)) (f32List a 44 3))),
     quatMul (quatOf a) (yawTurn (f32.mul (f32At a 56) dt))⟩
  else ⟨posOf a, quatOf a⟩

/-- The limits of a search, from the parameter block and FLAGS. -/
structure PoseLimits where
  wait : Bool
  extrapMs : Nat
  gapMs : Nat
  noExtrap : Bool
deriving DecidableEq, Repr

/-- The pose at time `t` (R233). -/
def Mx.poseAt (m : Mx) (l : PoseLimits) (t : Nat) : PoseFound × Mx :=
  let r := m.poseSearch t none m.s.poseEntries
  let m := r.2.2
  match r.1, r.2.1 with
  | none, some _ => (.stale, m)
  | none, none => (if l.wait then .wait else .stale, m)
  | some a, some b =>
    if poseTime b - poseTime a ≤ 1000000 * l.gapMs then (.pose (interpolate a b t) false, m) else (.stale, m)
  | some a, none =>
    if l.wait then (.wait, m)
    else if t - poseTime a ≤ 1000000 * l.extrapMs && !l.noExtrap then (.pose (extrapolate a t) true, m)
    else (.stale, m)

/-! ## The transform (R234) -/

/-- A 3×4 transform: matrix and translation. -/
structure Xform where
  mat : List Nat
  tr : List Nat
deriving DecidableEq, Repr

/-- Rs (ROT_E x + T_E) + ps as one transform. -/
def bodyToMap (param : Bytes) (p : Pose) : Xform :=
  let r := quatMat p.quat
  ⟨matMul r (f32List param 0 9), vadd (matVec r (f32List param 36 3)) p.pos⟩

/-- The transform brought into the body frame of a reference pose. -/
def Xform.intoFrame (x : Xform) (p : Pose) : Xform :=
  let rt := matT (quatMat p.quat)
  ⟨matMul rt x.mat, matVec rt (vsub x.tr p.pos)⟩

/-- One CP16 point transformed; TOFF, INT and FLAGS are copied. -/
def Xform.point (x : Xform) (p : Bytes) : Bytes :=
  (vadd (matVec x.mat (f32List p 0 3)) x.tr).flatMap (leBytes 4) ++ byteSlice p 12 4

/-! ## MOTION_COMP -/

/-- The slice fields of a header (Table 9-4). -/
def hdrSeq (h : Bytes) : Nat := fieldLE h 0 8
def hdrFlags (h : Bytes) : Nat := fieldLE h 32 2
/-- The header is that of slice `n`, closed (R214). -/
def hdrIs (h : Bytes) (n : Nat) : Bool := hdrSeq h == n && !bit (hdrFlags h) 0
def hdrMid (h : Bytes) : Nat := (fieldLE h 8 8 + fieldLE h 16 8) / 2

/-- The transform of a MOTION_COMP in hardware mode of F0, with its DETAIL bits. -/
inductive XformFound where
  | xform (x : Xform) (detail : Nat)
  | stale (detail : Nat)
  | lost
  | wait
deriving DecidableEq, Repr

/-- The reference time (R233): REF_DTIME, or the start of the sweep's first slice; none when that slice is
no longer in the ring. -/
def Mx.refTime (m : Mx) (q : Port) (e : Sqe) : Option Nat × Mx :=
  if bit (e.fld 33 1) 1 then
    let n := e.fld 40 8 - e.fld 40 8 % max 1 q.perSweep
    let h := m.rd (m.s.hdrAt q n) 64
    (if hdrIs h.1 n then some (fieldLE h.1 8 8) else none, h.2)
  else (some (e.fld 48 8), m)

/-- The transform from the pose ring. -/
def Mx.hwXform (m : Mx) (q : Port) (e : Sqe) (l : PoseLimits) (param hdr : Bytes) : XformFound × Mx :=
  let r := m.poseAt l (hdrMid hdr)
  match r.1 with
  | .wait => (.wait, r.2)
  | .stale => (.stale 0, r.2)
  | .pose p ex =>
    let x := bodyToMap param p
    if bit (e.fld 33 1) 0 then (.xform x (if ex then 2 else 0), r.2)
    else match r.2.refTime q e with
      | (none, m) => (.lost, m)
      | (some t, m) =>
        let y := m.poseAt l t
        match y.1 with
        | .wait => (.wait, y.2)
        | .stale => (.stale (if ex then 2 else 0), y.2)
        | .pose pr ex2 => (.xform (x.intoFrame pr) (if ex || ex2 then 2 else 0), y.2)

/-- The points of the slice, transformed and written to DST (R234, R235). -/
def Mx.motionWrite (m : Mx) (tag : Nat) (q : Port) (e : Sqe) (param hdr : Bytes) (x : Xform) (detail : Nat) : State :=
  let n := min (fieldLE hdr 24 4) q.slotPts
  let k := min n (fieldLE param 56 4)
  let pts := m.rd (m.s.ptsAt q (e.fld 40 8)) (16 * k)
  let out := (List.range k).flatMap fun i => x.point (byteSlice pts.1 (16 * i) 16)
  let m := pts.2.wr (m.s.localAddr (fieldLE param 48 8)) out
  let cap := k < n
  let pad := bit (hdrFlags hdr) 4
  let trunc := bit (hdrFlags hdr) 3
  m.done tag (if trunc then OK_TRUNCATED else if cap then OK_WITH_DROPS else OK) (some k)
    (some (detail + (if cap then 8 else 0) + if pad then 16 else 0)) []

/-- MOTION_COMP in hardware mode of F0. `waits` says that a wait for a pose is still allowed. -/
def Mx.motionHw (m : Mx) (tag : Nat) (q : Port) (e : Sqe) (param hdr : Bytes) (waits : Bool) : State :=
  let l : PoseLimits := ⟨waits && fieldLE param 60 4 != 0, fieldLE param 64 1, fieldLE param 65 1, bit (e.fld 33 1) 2⟩
  let pad := if bit (hdrFlags hdr) 4 then 16 else 0
  let r := m.hwXform q e l param hdr
  match r.1 with
  | .xform x d => r.2.motionWrite tag q e param hdr x d
  | .stale d => r.2.done tag OK_WITH_DROPS (some 0) (some (4 + d + pad)) []
  | .lost => r.2.done tag OK_WITH_DROPS (some 0) (some 1) []
  | .wait => match m.s.op? tag with
    | none => m.s
    | some o => m.s.setOp tag { o with phase := .held heldPose [], since := m.s.ticks }

/-- The transform of a usable F0 reply: the rotation in the entry, the translation in 12 bytes of reply
data; a reply without data states no translation. -/
def State.replyXform (s : State) (entry data : Bytes) : Option Xform × State :=
  if data.length = 12 then (some ⟨f32List entry 20 9, f32List data 0 3⟩, s)
  else if data.isEmpty then
    let r := s.drawBytes 12
    (some ⟨f32List entry 20 9, f32List r.1 0 3⟩, r.2)
  else (none, s)

/-- The request's ARGS: port, slice mid-time, slice number. -/
def motionArgs (e : Sqe) (hdr : Bytes) : Bytes :=
  leBytes 4 (e.fld 32 1) ++ leBytes 8 (hdrMid hdr) ++ leBytes 4 (e.fld 40 8)

/-- A readable slice's course: host-assisted or not. -/
def Mx.motionRun (m : Mx) (tag : Nat) (o : Op) (q : Port) (e : Sqe) (param hdr : Bytes) (waits : Bool) : State :=
  let md := m.s.sliceMode e
  match o.reply with
  | some none => m.motionHw tag q e param hdr waits
  | some (some (entry, data)) =>
    let r := m.s.replyXform entry data
    match r.1 with
    | some x => (⟨r.2, m.bad⟩ : Mx).motionWrite tag q e param hdr x 32
    | none => (⟨m.s.badReply tag entry 0, m.bad⟩ : Mx).motionHw tag q e param hdr waits
  | none =>
    if !md.1 then m.motionHw tag q e param hdr waits
    else
      let r := m.s.postHandoff md.2 0 (some tag) (motionArgs e hdr) [] []
      if r.2 then match r.1.op? tag with
        | none => r.1
        | some o => r.1.setOp tag { o with phase := .handoff }
      else (⟨r.1.inHardware tag, m.bad⟩ : Mx).motionHw tag q e param hdr waits

/-- The checks of the parameter block (Table 10-2). -/
def State.paramErr (s : State) (param : Bytes) : Option Nat :=
  let dst := fieldLE param 48 8
  if !(dst % 16 == 0 && fieldLE param 65 1 != 0 && allZero (byteSlice param 66 62)) then some ERR_DESCRIPTOR
  else match s.locateLocal dst (16 * fieldLE param 56 4) with
    | .inr c => some c
    | .inl _ => none

/-- MOTION_COMP's effect once its own fields are checked. -/
def State.motionOp (s : State) (tag : Nat) (o : Op) (e : Sqe) (waits : Bool) : State :=
  let q := s.port (e.fld 32 1)
  let r := (mx s).rd (s.localAddr (e.fld 56 8)) 128
  if r.2.bad then r.2.done tag ERR_POISON none none []
  else match s.paramErr r.1 with
    | some c => r.2.s.finish tag c
    | none =>
      if bit (e.fld 33 1) 1 && q.bound && q.perSweep = 0 then r.2.s.finish tag ERR_DESCRIPTOR
      else if !q.bound then r.2.s.finish tag ERR_MODE
      else
        let h := r.2.rd (s.hdrAt q (e.fld 40 8)) 64
        let m := h.2
        if !hdrIs h.1 (e.fld 40 8) then m.done tag OK_WITH_DROPS (some 0) (some 1) []
        else if bit (hdrFlags h.1) 4 && !bit (hdrFlags h.1) 3 then m.done tag OK (some 0) (some 16) []
        else m.motionRun tag o q e r.1 h.1 waits

/-- The issuer is the port's OWNER; a port number out of range is a field error. -/
def State.motionIssuer (s : State) (o : Op) (e : Sqe) : Bool :=
  e.fld 32 1 ≥ nPorts || o.inst == s.reg GNT_P_CTRL.OWNER (portD (e.fld 32 1))

/-- The checks of Table 10-1. -/
def State.motionErr (s : State) (e : Sqe) : Option Nat :=
  if !(e.fld 32 1 < nPorts && e.fld 33 1 < 8 && e.rsv [(34, 6)] && e.fld 56 8 % 64 == 0) then some ERR_DESCRIPTOR
  else match s.locateLocal (e.fld 56 8) 128 with
    | .inr c => some c
    | .inl _ => none

/-- MOTION_COMP (R232 to R235). -/
def execMotionComp (tag : Nat) (io : OpIo) (s : State) : Outcome State Fault Refusal :=
  answer s (s.runOp tag 0x0103 s.motionIssuer (fun _ e => s.motionErr e)
    fun o e => (s.plant io.upsets).motionOp tag o e true)

/-- POSE_WAIT_TIMEOUT (R233): the operation goes on without a later entry. -/
def execPoseWaitTimeout (tag : Nat) (io : OpIo) (s : State) : Outcome State Fault Refusal :=
  match s.op? tag with
  | some o =>
    if o.phase == .held heldPose [] then
      let s := s.setOp tag { o with phase := .started }
      answer s (s.runOp tag 0x0103 s.motionIssuer (fun _ e => s.motionErr e)
        fun o e => (s.plant io.upsets).motionOp tag o e false)
    else .next s
  | none => .next s

/-! ## VOXELISE -/

/-- A voxel with what its rule needs: its key; the points in it; the kept point; its distance from the
centre, squared (rule 1); FP64 sums, the sum of INT and the OR of FLAGS (rule 2). -/
structure Voxel where
  key : Nat
  count : Nat
  kept : Bytes
  dist : Nat
  sx : Nat
  sy : Nat
  sz : Nat
  si : Nat
  fl : Nat
deriving DecidableEq, Repr

/-- The coordinates of a point's voxel (R236): none where one is no number or out of range. -/
def voxelOf (edge : Nat) (p : Bytes) : Option (Int × Int × Int) :=
  match f32.floorMul (f32At p 0) 1000000 edge, f32.floorMul (f32At p 4) 1000000 edge,
      f32.floorMul (f32At p 8) 1000000 edge with
  | some i, some j, some k => if coordOk i && coordOk j && coordOk k then some (i, j, k) else none
  | _, _, _ => none

/-- The exact distance of a coordinate from its voxel's centre, in units of 2⁻¹⁵⁰ µm. -/
def offCentre (edge : Nat) (x : Nat) (i : Int) : Int :=
  (exact32 x).getD 0 * 2000000 - (2 * i + 1) * edge * 2 ^ 149

def centreDist (edge : Nat) (p : Bytes) (v : Int × Int × Int) : Nat :=
  let a := offCentre edge (f32At p 0) v.1
  let b := offCentre edge (f32At p 4) v.2.1
  let c := offCentre edge (f32At p 8) v.2.2
  (a * a + b * b + c * c).toNat

/-- FP64 of an FP32 coordinate. -/
def wide (p : Bytes) (off : Nat) : Nat := f32.conv f64 (f32At p off)

/-- A voxel's first point. -/
def firstPoint (edge : Nat) (p : Bytes) (v : Int × Int × Int) : Voxel :=
  { key := mkKey v.1 v.2.1 v.2.2, count := 1, kept := p, dist := centreDist edge p v, sx := wide p 0, sy := wide p 4,
    sz := wide p 8, si := fieldLE p 14 1, fl := fieldLE p 15 1 }

/-- A further point under a sampling rule (Table 10-6). -/
def Voxel.take (w : Voxel) (rule edge : Nat) (p : Bytes) (v : Int × Int × Int) : Voxel :=
  let d := centreDist edge p v
  let keep := if rule = 1 then d < w.dist else rule = 3 && fieldLE p 14 1 > fieldLE w.kept 14 1
  { key := w.key, count := w.count + 1, kept := if keep then p else w.kept, dist := if keep then d else w.dist,
    sx := f64.add w.sx (wide p 0), sy := f64.add w.sy (wide p 4), sz := f64.add w.sz (wide p 8),
    si := w.si + fieldLE p 14 1, fl := flags w.fl (fieldLE p 15 1) }

/-- A voxel's entry in the list, or a new one at its end. -/
def takePoint (rule edge : Nat) (p : Bytes) (v : Int × Int × Int) : List Voxel → List Voxel
  | [] => [firstPoint edge p v]
  | w :: ws => if w.key = mkKey v.1 v.2.1 v.2.2 then w.take rule edge p v :: ws else w :: takePoint rule edge p v ws

/-- The voxels of points in input order, and whether one was dropped. -/
def voxels (rule edge : Nat) (pts : List Bytes) : List Voxel × Bool :=
  pts.foldl (fun (r : List Voxel × Bool) p => match voxelOf edge p with
    | none => (r.1, true)
    | some v => (takePoint rule edge p v r.1, r.2)) ([], false)

/-- A mean: the FP64 sum over the count, rounded to FP32. -/
def mean32 (sum n : Nat) : Nat := f64.conv f32 (f64.div sum (f64.ofInt n))

/-- The point that a voxel's record holds. -/
def Voxel.point (w : Voxel) (rule : Nat) : Bytes :=
  if rule = 2 then
    leBytes 4 (mean32 w.sx w.count) ++ leBytes 4 (mean32 w.sy w.count) ++ leBytes 4 (mean32 w.sz w.count)
      ++ byteSlice w.kept 12 2 ++ leBytes 1 (w.si / w.count) ++ leBytes 1 w.fl
  else w.kept

/-- An output record (R237). -/
def Voxel.record (w : Voxel) (rule : Nat) : Bytes := leBytes 8 w.key ++ leBytes 4 w.count ++ leBytes 4 0 ++ w.point rule

/-- The entries of the source list: local offset and points. -/
def sourceList (b : Bytes) (n : Nat) : List (Nat × Nat) :=
  (List.range n).map fun i => (fieldLE b (16 * i) 8, fieldLE b (16 * i + 8) 4)

/-- The points of the sources, in input order. -/
def Mx.sourcePoints (m : Mx) (src : List (Nat × Nat)) : List Bytes × Mx :=
  src.foldl (fun (r : List Bytes × Mx) x =>
    let b := r.2.rd (r.2.s.localAddr x.1) (16 * x.2)
    (r.1 ++ (List.range x.2).map fun i => byteSlice b.1 (16 * i) 16, b.2)) ([], m)

/-- VOXELISE's effect with an edge and a rule. -/
def Mx.voxeliseOp (m : Mx) (tag : Nat) (e : Sqe) (src : List (Nat × Nat)) (edge rule : Nat) : State :=
  let t := e.fld 32 1
  let pts := m.sourcePoints src
  let v := voxels rule edge pts.1
  let m := pts.2.on fun s => s.setReg BRL_T_EDGE_UM.EDGE (brlD t) edge
  let k := if pts.2.bad then
      let d := m.freeKeys v.1.length
      (d.1.map (· % 2 ^ 63 + 2 ^ 63), d.2)
    else (v.1.map (·.key), m)
  let keys := k.1
  let vs := (v.1.zip keys).map fun x => { x.1 with key := x.2 }
  let ins := eachKey (fun m k => m.insert t k) k.2 (keyGroups keys)
  let keep := bit (e.fld 34 1) 0
  let cap := e.fld 44 4
  let recs := (vs.take cap).flatMap (·.record rule)
  let m := if keep then ins.2.2.wr (m.s.localAddr (e.fld 56 8)) recs else ins.2.2
  let detail := (if v.2 then 1 else 0) + (if v.1.length > cap then 2 else 0) + fullBit ins.1 keys
  m.done tag (dropStatus detail) (some v.1.length) (some detail) []

/-- The field checks of VOXELISE (Table 10-5). -/
def State.voxeliseErr (s : State) (e : Sqe) : Option Nat :=
  let edge := e.fld 36 4
  let n := e.fld 40 4
  if !(e.fld 32 1 < 32 && e.fld 33 1 ≤ 3 && e.fld 34 1 < 2 && e.rsv [(35, 1)] && 10000 ≤ edge && edge ≤ 2560000
    && 1 ≤ n && n ≤ 4096 && e.fld 56 8 % 32 == 0) then some ERR_DESCRIPTOR
  else match s.locateLocal (e.fld 48 8) (16 * n) with
    | .inr c => some c
    | .inl _ =>
      if bit (e.fld 34 1) 0 then match s.locateLocal (e.fld 56 8) (32 * e.fld 44 4) with
        | .inr c => some c
        | .inl _ => none
      else none

/-- Every source lies in usable memory. -/
def State.sourcesOk (s : State) (src : List (Nat × Nat)) : Bool :=
  src.all fun x => match s.locateLocal x.1 (16 * x.2) with | .inl _ => true | .inr _ => false

/-- A usable F2 reply: edge and rule. -/
def f2Reply (entry : Bytes) : Option (Nat × Nat) :=
  let edge := fieldLE entry 20 4
  let rule := fieldLE entry 24 1
  if 10000 ≤ edge && edge ≤ 2560000 && rule ≤ 3 then some (edge, rule) else none

/-- VOXELISE (R236 to R238). -/
def execVoxelise (tag : Nat) (io : OpIo) (s : State) : Outcome State Fault Refusal :=
  answer s (s.runOp tag 0x0104 anyone (fun _ e => s.voxeliseErr e)
    fun o e =>
      let s := s.plant io.upsets
      let n := e.fld 40 4
      s.withTables tag [(e.fld 32 1, false)] fun s =>
        let r := (mx s).rd (s.localAddr (e.fld 48 8)) (16 * n)
        let src := sourceList r.1 n
        if r.2.bad then r.2.done tag ERR_POISON none none []
        else if !r.2.s.sourcesOk src then r.2.s.finish tag ERR_ACCESS
        else
          let a := r.2.s.f2Args (src.map (·.2)).sum
          a.2.item tag o e 2 a.1 [] fun s r => match r with
            | none => (mx s).voxeliseOp tag e src (e.fld 36 4) (e.fld 33 1)
            | some (entry, _) => match f2Reply entry with
              | some x => (mx s).voxeliseOp tag e src x.1 x.2
              | none => (mx (s.badReply tag entry 2)).voxeliseOp tag e src (e.fld 36 4) (e.fld 33 1))

end Sys2Proof.Machine
end

