-- ==== Sys2Proof/Machine/Tables.lean ====
section
/-!
DEFINITION. Map tables (chapter 12): the row directory, width classes, lookups and pooling, the hot set,
prefetch, staging, commit and assignment, the version switch, reclassification and migration, and the
directory search of R361. TABLE_UPDATE_COMMIT and TABLE_MIGRATE run in the phases of R301 and R308, each command of
the operation carrying out the next one; every other operator takes effect in one step.
-/
namespace Sys2Proof.Machine
open Host (Outcome)

/-! ## Directory entries (Table 12-2) -/

def eClass (e : Nat) : Nat := bits e 0 2
def eBad (e : Nat) : Bool := bit e 2
def eHot (e : Nat) : Bool := bit e 3
def eMig (e : Nat) : Bool := bit e 6
def eHome (e : Nat) : Nat := bits e 4 2
def eSlot (e : Nat) : Nat := bits e 8 32
def eHotSlot (e : Nat) : Nat := bits e 40 24

def mkEntry (cls : Nat) (bad hot mig : Bool) (home slot hotSlot : Nat) : Nat :=
  cls % 4 + (if bad then 4 else 0) + (if hot then 8 else 0) + 16 * (home % 4) + (if mig then 64 else 0)
    + 2 ^ 8 * (slot % 2 ^ 32) + 2 ^ 40 * (hotSlot % 2 ^ 24)

/-- What is left of an entry whose directory line was poisoned (R310): UNREADABLE, its slot lost. -/
def lostEntry : Nat := mkEntry 0 true false false 0 0xFFFFFFFF 0

/-- The modules whose directories name a row's slices (R291), each with the first column it holds. -/
def State.slices (s : State) (t : Nat) : List Nat := if s.tPlace t = 2 then [0] else s.tMods t
def State.sliceCol (s : State) (t i : Nat) : Nat := if s.tPlace t = 1 then i * s.tDl t else 0

/-- The module that holds the record of an entry found in module `dm`'s directory. -/
def State.homeOf (s : State) (t dm e : Nat) : Nat := if s.tPlace t = 2 then eHome e else dm
def State.recAt (s : State) (t v dm e : Nat) : Nat :=
  s.poolAt t v (s.homeOf t dm e) (eClass e) + eSlot e * s.recSize t (eClass e)
def State.entryAt (s : State) (t v dm row : Nat) : Nat := s.dirAt t v dm + 8 * row
/-- An entry as its bytes stand. -/
def State.rawEntry (s : State) (t v dm row : Nat) : Nat := leNat (s.peek (s.entryAt t v dm row) 8)
def State.setEntry (s : State) (t v dm row e : Nat) : State := s.writeOver (s.entryAt t v dm row) (leBytes 8 e)
def State.activeVer (s : State) (t : Nat) : Nat := s.reg TD_CTRL.ACTIVE_VER (tdD t)

/-! ## Unreadable rows (R310) -/

/-- What follows a row's becoming UNREADABLE, by HOST_BACK and the mode of F11. -/
def State.rowGone (s : State) (t v row line : Nat) : State :=
  let s := s.applyMode 11
  let arg := row + 2 ^ 32 * t + 2 ^ 40 * v
  if s.regB MODE_F.MODE 44 then
    (s.postHandoff (s.handler 11) 11 none (leBytes 4 t ++ leBytes 4 row ++ leBytes 4 0 ++ leBytes 8 (64 * line)) []
      [t, v, row]).1
  else s.event (s.reg TD_CTRL.OWNER (tdD t))
    { code := if s.reg64 TD_HOST_BACK_LO.ADDR TD_HOST_BACK_HI.ADDR (tdD t + 8 * v) != 0 then 0x0520 else 0x0521,
      detail := some 0, arg := arg }

def State.moreUnreadable (s : State) (t : Nat) : State :=
  s.setReg TD_UNREADABLE.ROWS (tdD t) (s.reg TD_UNREADABLE.ROWS (tdD t) + 1)
def State.lessUnreadable (s : State) (t : Nat) : State :=
  s.setReg TD_UNREADABLE.ROWS (tdD t) (s.reg TD_UNREADABLE.ROWS (tdD t) - 1)

/-- UNREADABLE set on a row that is readable. -/
def State.markRow (s : State) (t v dm line row : Nat) : State :=
  let e := s.rawEntry t v dm row
  if eBad e then s
  else ((s.setEntry t v dm row (mkEntry (eClass e) true (eHot e) (eMig e) (eHome e) (eSlot e) (eHotSlot e))).moreUnreadable t).rowGone
    t v row line

/-- The record of an entry has bytes in a line. -/
def State.recTouches (s : State) (t v dm line e : Nat) : Bool :=
  s.recAt t v dm e < 64 * line + 64 && 64 * line < s.recAt t v dm e + s.recSize t (eClass e)

/-- Every row whose record has bytes in the poisoned line (R310, R361). -/
def State.markLine (s : State) (t v dm line : Nat) : State :=
  (List.range (s.tRows t)).foldl (fun u row =>
    if u.recTouches t v dm line (u.rawEntry t v dm row) then u.markRow t v dm line row else u) s

/-- The eight rows of a poisoned directory line: their entries are lost, and their slots not reclaimed. -/
def State.spoilDir (s : State) (t v dm line : Nat) : State :=
  let first := (64 * line - s.dirAt t v dm) / 8
  let rows := (List.range 8).map (first + ·) |>.filter (· < s.tRows t)
  let old := rows.map fun r => (r, s.rawEntry t v dm r)
  let s := old.foldl (fun u x =>
    { u with lostSlots := SMap.put u.lostSlots (u.recAt t v dm x.2) true false }) s
  let s := s.writeOver (64 * line) (byteSlice (rows.flatMap fun _ => leBytes 8 lostEntry) 0 64)
  old.foldl (fun u x => if eBad x.2 then u else (u.moreUnreadable t).rowGone t v x.1 line) s

/-- An entry read by Spinel. -/
def Mx.entry (m : Mx) (t v dm row : Nat) : Nat × Mx :=
  let a := m.s.entryAt t v dm row
  let s := m.s.touchAll a 8
  if s.poisonIn a 8 then (lostEntry, m.on fun _ => s.spoilDir t v dm (a / 64))
  else (leNat (s.peek a 8), m.on fun _ => s)

/-! ## Records (R292) -/

/-- Four-bit values, low nibble first. -/
def nibble (b : Bytes) (off j : Nat) : Int := signed 4 (fieldLE b (off + j / 2) 1 / (if j % 2 = 0 then 1 else 16))

/-- A record decoded: the accumulator G (0 without one) and the FP32 values. -/
def State.decodeRec (s : State) (t cls : Nat) (b : Bytes) : Nat × List Nat :=
  let g := if s.tHasG t then f32At b 0 else 0
  let o := if s.tHasG t then 4 else 0
  let scale := f32At b o
  let vals := (List.range (s.tDl t)).map fun j =>
    if cls = 0 then f32At b (o + 4 * j)
    else if cls = 1 then bf16.conv f32 (fieldLE b (o + 2 * j) 2)
    else if cls = 2 then f32.mul (f32.ofInt (signed 8 (fieldLE b (o + 4 + j) 1))) scale
    else f32.mul (f32.ofInt (nibble b (o + 4) j)) scale
  (g, vals)

/-- The magnitude of an FP32 value. -/
def abs32 (x : Nat) : Nat := x % 2 ^ 31

/-- The scale of W8 and W4: max|v| over the largest step, zero for a row of zeros. -/
def scaleOf (top : Nat) (vals : List Nat) : Nat :=
  f32.div ((vals.map abs32).foldl f32.larger zero32) (f32.ofInt top)

/-- The step of a value, limited to ± top. -/
def stepOf (top : Nat) (scale v : Nat) (zeros : Bool) : Int :=
  if zeros then 0 else f32.toInt (f32.div v scale) (-(top : Int)) top

/-- A record encoded in a class. -/
def State.encodeRec (s : State) (t cls g : Nat) (vals : List Nat) : Bytes :=
  let gb := if s.tHasG t then leBytes 4 g else []
  let zeros := vals.all f32.isZero
  let body := match cls with
    | 0 => vals.flatMap (leBytes 4)
    | 1 => vals.flatMap fun v => leBytes 2 (f32.conv bf16 v)
    | 2 =>
      let sc := scaleOf 127 vals
      leBytes 4 sc ++ vals.flatMap fun v => leBytes 1 (unsigned 8 (stepOf 127 sc v zeros))
    | _ =>
      let sc := scaleOf 7 vals
      let q := fun i => unsigned 4 (stepOf 7 sc (vals.getD i 0) zeros)
      leBytes 4 sc ++ (List.range (vals.length / 2)).flatMap fun i => leBytes 1 (q (2 * i) + 16 * q (2 * i + 1))
  byteSlice (gb ++ body) 0 (s.recSize t cls)

/-- The slot on DEST that a migration under way has for a row, while the row's entry is not rewritten (R308). -/
def State.migSlot (s : State) (t v row : Nat) : Option (Nat × Nat) :=
  match SMap.get? s.migs t with
  | some g => if g.ver = v then (SMap.get? g.slots row).map fun sl => (g.dest, sl) else none
  | none => none

/-- A row's record written, with its hot copy (R297) and the copy that a migration has made of it (R308). -/
def State.putRow (s : State) (t v dm row e g : Nat) (vals : List Nat) : State :=
  let b := s.encodeRec t (eClass e) g vals
  let s := s.writeOver (s.recAt t v dm e) b
  let s := if eHot e then s.writeOver (s.hotAt t dm (eHotSlot e)) b else s
  match s.migSlot t v row with
  | some (k, sl) => s.writeOver (s.poolAt t v k (eClass e) + sl * s.recSize t (eClass e)) b
  | none => s

/-! ## Reading rows -/

/-- A row's hot copy, if it has one that can be read; a poisoned one loses its HOT bit (R363). -/
def Mx.readHot (m : Mx) (t v dm row e : Nat) : Option Bytes × Mx :=
  if eHot e && m.s.regB TD_CTRL.HOTSET_EN (tdD t) && v == m.s.activeVer t then
    let a := m.s.hotAt t dm (eHotSlot e)
    let n := m.s.recSize t (eClass e)
    let s := m.s.touchAll a n
    if s.poisonIn a n then (none, m.on fun _ => s.coldRow (s.entryAt t v dm row))
    else (some (s.peek a n), m.on fun _ => s)
  else (none, m)

/-- A row's record in package memory; poison makes the rows of its lines UNREADABLE. -/
def Mx.readPackage (m : Mx) (t v dm e : Nat) : Option Bytes × Mx :=
  let a := m.s.recAt t v dm e
  let n := m.s.recSize t (eClass e)
  let s := m.s.touchAll a n
  if s.poisonIn a n then
    (none, m.on fun _ => ((linesOf a n).filter s.isPoison).foldl (fun u l => u.markLine t v dm l) s)
  else (some (s.peek a n), m.on fun _ => s)

/-- A row read from module `k` is counted (R306). -/
def State.rowRead (s : State) (t v k : Nat) : State :=
  let s := s.count SPN_ROWS_READ.COUNT
  if v = s.activeVer t then s.count SPN_MOD_LOAD.COUNT (4 * k) else s

/-- A row's slice: G and values, or none where it is dropped. -/
def Mx.readRow (m : Mx) (t v dm row : Nat) : Option (Nat × List Nat) × Mx :=
  let r := m.entry t v dm row
  let e := r.1
  if eBad e || eSlot e ≥ m.s.tCap t (eClass e) then (none, r.2)
  else
    let h := r.2.readHot t v dm row e
    match h.1 with
    | some b => (some (m.s.decodeRec t (eClass e) b), h.2.on fun s => s.rowRead t v dm)
    | none =>
      let p := h.2.readPackage t v dm e
      match p.1 with
      | some b => (some (m.s.decodeRec t (eClass e) b), p.2.on fun s => s.rowRead t v (s.homeOf t dm e))
      | none => (none, p.2)

/-- The slices of indices on module `dm`; an index at or above ROWS has none. -/
def Mx.sliceRows (m : Mx) (t v dm : Nat) (idx : List Nat) : List (Option (List Nat)) × Mx :=
  idx.foldl (fun (r : List (Option (List Nat)) × Mx) i =>
    if i ≥ m.s.tRows t then (r.1 ++ [none], r.2)
    else
      let x := r.2.readRow t v dm i
      (r.1 ++ [x.1.map (·.2)], x.2)) ([], m)

/-! ## Checks that the table operators share (R290) -/

/-- The issuer is the table's OWNER or PF 0. -/
def State.tableIssuer (s : State) (o : Op) (e : Sqe) : Bool :=
  o.inst == 0 || o.inst == s.reg TD_CTRL.OWNER (tdD (e.fld 32 1))

/-- The catalogue entry's lines (R288). -/
def State.catLines (s : State) (t : Nat) : List Nat := (List.range 4).map fun i => s.localAddr (256 * t) / 64 + i

/-- A table operator past its fields: a poisoned catalogue entry (R311), EN, the version, the members. -/
def State.onTable (s : State) (tag t : Nat) (version : Option Nat) (k : State → State) : State :=
  let s := (s.catLines t).foldl (fun u l => u.touch .demand l) s
  if (s.catLines t).any s.isPoison then (s.setReg TD_CTRL.EN (tdD t) 0).finish tag ERR_POISON
  else if !s.regB TD_CTRL.EN (tdD t) then s.finish tag ERR_MODE
  else if version.any fun v => v != 0xFF && !(s.tVersions t).contains v then s.finish tag ERR_VERSION
  else if (s.tMods t).any fun m => !s.activeModule m then s.finish tag ERR_SPAN_LOST
  else k s

/-- The version that a field binds to. -/
def State.bindVer (s : State) (t f : Nat) : Nat := if f = 0xFF then s.activeVer t else f

/-- The table that the operation under `tag` names. -/
def State.tableOf (s : State) (tag : Nat) : Nat :=
  match (s.op? tag).bind Op.sqe? with | some e => e.fld 32 1 | none => 256

/-- A table operator's outcome, the copies of its table's entry following (R288). -/
def tableAnswer (s : State) (tag : Nat) (u : State) : Outcome State Fault Refusal :=
  answer s (u.spreadFrom s (s.tableOf tag))

/-- u32 words read from memory. -/
def Mx.rd32 (m : Mx) (addr n : Nat) : List Nat × Mx :=
  let b := m.rd (m.s.lin addr) (4 * n)
  ((List.range n).map fun i => fieldLE b.1 (4 * i) 4, b.2)

/-- Bag offsets are sound (R295). -/
def offsOk (offs : List Nat) (n : Nat) : Bool :=
  offs.headD 1 == 0 && offs.getLastD 1 == n && (offs.zip (offs.drop 1)).all fun x => x.1 ≤ x.2

/-- The bags as index ranges (start, length). -/
def bagsOf (offs : List Nat) : List (Nat × Nat) := (offs.zip (offs.drop 1)).map fun x => (x.1, x.2 - x.1)

/-- The parameter block of a table operator. -/
def State.tableParam (s : State) (e : Sqe) : Bytes × Bool × State := s.read (s.lin (e.fld 48 8)) 64

/-! ## TABLE_LOOKUP (R295, R296, R306) -/

/-- POP_SAT, the SAT bit of POP and SHARD_LOAD (R368), set; when it goes from 0 to 1, COUNTER_SAT (R369). -/
def State.popSat (s : State) (t : Nat) : State :=
  if s.regB TD_CTRL.POP_SAT (tdD t) then s
  else (s.setReg TD_CTRL.POP_SAT (tdD t) 1).satEvent TD_CTRL.POP_SAT (tdD t)

/-- A counter of `n` bytes in memory counts 1 and saturates; reaching its highest value sets POP_SAT (R12, R306). -/
def State.memCount (s : State) (t a n : Nat) : State :=
  let top := 2 ^ (8 * n) - 1
  let v := leNat (s.peek a n)
  let s := (s.write a (leBytes n (min top (v + 1)))).1
  if v + 1 = top then s.popSat t else s

/-- One more use of a row (R306). -/
def State.popUp (s : State) (t v dm row : Nat) : State := s.memCount t (s.popAt t v dm + 2 * row) 2

/-- One more row of a shard read (R306). -/
def State.shardUp (s : State) (t v row : Nat) : State :=
  s.memCount t (s.loadAt t v 0 + 4 * (row / s.shardRows t)) 4

/-- A valid index of a lookup of the active version is counted. -/
def State.countUse (s : State) (t v dm row : Nat) : State :=
  if v != s.activeVer t then s
  else
    let s := s.popUp t v dm row
    if s.tPlace t = 2 then s.shardUp t v row else s

/-- The pooled row of one bag: SUM, or MEAN over its valid indices. -/
def poolBag (mean : Bool) (dl : Nat) (weights : Option (List Nat)) (rows : List (Option (List Nat)))
    (bag : Nat × Nat) : List Nat :=
  let ix := (List.range bag.2).map (bag.1 + ·)
  let live := ix.filterMap fun i => (rows.getD i none).map fun r => (i, r)
  (List.range dl).map fun j =>
    let sum := sum32 (live.map fun x => match weights with
      | none => at32 x.2 j
      | some w => f32.mul (at32 w x.1) (at32 x.2 j))
    if mean && !live.isEmpty then f32.div sum (f32.ofInt live.length) else sum

/-- The output rows of one slice. -/
def outRows (pool dl : Nat) (weights : Option (List Nat)) (offs : List Nat) (rows : List (Option (List Nat))) :
    List (List Nat) :=
  if pool = 0 then rows.map fun r => r.getD (List.replicate dl 0)
  else (bagsOf offs).map (poolBag (pool == 2) dl weights rows)

/-- An FP32 value in the output's type. -/
def outElem (b16 : Bool) (x : Nat) : Bytes := if b16 then leBytes 2 (f32.conv bf16 x) else leBytes 4 x

/-- One slice's columns of the output rows written. -/
def Mx.putColumns (m : Mx) (out stride es col : Nat) (rows : List (List Nat)) : Mx :=
  ((List.range rows.length).zip rows).foldl (fun u x =>
    u.wr (out + x.1 * stride + col * es) (x.2.flatMap (outElem (es == 2)))) m

/-- The header of a prefetch buffer matches (R298). -/
def State.pfMatches (s : State) (h : Bytes) (t v n : Nat) : Bool :=
  fieldLE h 0 1 == t && fieldLE h 1 1 == v && fieldLE h 4 4 == s.reg TD_COMMIT_GEN.GEN (tdD t) && fieldLE h 8 4 == n

/-- The rows that a prefetch buffer holds, whole; a dropped index has none. -/
def Mx.pfRows (m : Mx) (buf dim n : Nat) : List (Option (List Nat)) × Mx :=
  let b := m.rd (buf + 64) (4 * dim * n)
  let d := b.2.rd (buf + 64 + 4 * dim * n) (64 * ceilDiv n 512)
  ((List.range n).map fun i =>
    if bit (fieldLE d.1 (i / 8) 1) (i % 8) then none else some (f32List b.1 (4 * dim * i) dim), d.2)

/-- The drops of one index over the slices: none, or how many slices dropped it for poison. -/
def poisonDrops (slices : List (List (Option (List Nat)))) (i : Nat) : Nat :=
  (slices.filter fun r => (r.getD i none).isNone).length

/-- Every slice's rows: from the prefetch buffer, whose columns they share, or from the table. -/
def Mx.allSlices (m : Mx) (t v : Nat) (idx : List Nat) (pf : Option (List (Option (List Nat)))) :
    List (List (Option (List Nat))) × Mx :=
  let sl := m.s.slices t
  let dl := m.s.tDl t
  match pf with
  | some rows => ((List.range sl.length).map fun i =>
      rows.map fun r => r.map fun x => (x.drop (m.s.sliceCol t i)).take dl, m)
  | none => sl.foldl (fun (r : List (List (Option (List Nat))) × Mx) dm =>
      let x := r.2.sliceRows t v dm idx
      (r.1 ++ [x.1], x.2)) ([], m)

/-- Drops are counted, uses of rows too (R296, R306). Answers the DETAIL bits and the valid indices. -/
def State.countDrops (s : State) (t v : Nat) (idx : List Nat) (slices : List (List (Option (List Nat))))
    (uses : Bool) : Nat × Nat × State :=
  ((List.range idx.length).zip idx).foldl (fun (r : Nat × Nat × State) x =>
    if x.2 ≥ r.2.2.tRows t then (flags r.1 1, r.2.1, r.2.2.count TD_INVALID_DROP.COUNT (tdD t))
    else
      let d := poisonDrops slices x.1
      let u := if uses then ((r.2.2.slices t).zip slices).foldl (fun w y =>
        if (y.2.getD x.1 none).isSome then w.countUse t v y.1 x.2 else w) r.2.2 else r.2.2
      if d = 0 then (r.1, r.2.1 + 1, u) else (flags r.1 2, r.2.1, u.count TD_POISON_DROP.COUNT (tdD t) d))
    (0, 0, s)

/-- TABLE_LOOKUP's ranges. -/
def State.lookupRanges (s : State) (e : Sqe) (p : Bytes) : List (Nat × Nat) :=
  let n := e.fld 36 4
  let dim := s.tDim (e.fld 32 1)
  let es := if bit (e.fld 34 1) 0 then 2 else 4
  let rows := if e.fld 33 1 = 0 then n else e.fld 40 4
  [(fieldLE p 0 8, 4 * n), (fieldLE p 24 8, rows * roundUp (es * dim) 16)]
    ++ (if e.fld 33 1 = 0 then [] else [(fieldLE p 8 8, 4 * (e.fld 40 4 + 1))]) ++ optRange (fieldLE p 16 8) (4 * n)
    ++ (if bit (e.fld 34 1) 1 then [(fieldLE p 32 8, 64 + 4 * dim * n + 64 * ceilDiv n 512)] else [])

/-- TABLE_LOOKUP once its version is bound. -/
def Mx.lookupOp (m : Mx) (tag : Nat) (e : Sqe) (p : Bytes) (v : Nat) : State :=
  let t := e.fld 32 1
  let n := e.fld 36 4
  let pool := e.fld 33 1
  let dim := m.s.tDim t
  let es := if bit (e.fld 34 1) 0 then 2 else 4
  let idx := m.rd32 (fieldLE p 0 8) n
  let offs := if pool = 0 then ([], idx.2) else idx.2.rd32 (fieldLE p 8 8) (e.fld 40 4 + 1)
  if pool != 0 && !offsOk offs.1 n then offs.2.done tag ERR_DESCRIPTOR none none []
  else
    let w := if fieldLE p 16 8 = 0 then (none, offs.2)
      else let x := offs.2.rd32 (fieldLE p 16 8) n; (some x.1, x.2)
    let buf := m.s.lin (fieldLE p 32 8)
    let usePf := bit (e.fld 34 1) 1
    let h := if usePf then w.2.rd buf 64 else ([], w.2)
    let hit := usePf && m.s.pfMatches h.1 t v n
    let pf := if hit then let x := h.2.pfRows buf dim n; (some x.1, x.2) else (none, h.2)
    let m := if usePf && !hit then pf.2.on fun s => s.count SPN_PF_STALE.COUNT else pf.2
    let sl := m.allSlices t v idx.1 pf.1
    let c := sl.2.s.countDrops t v idx.1 sl.1 true
    let m : Mx := ⟨c.2.2.count SPN_LOOKUPS.COUNT, sl.2.bad⟩
    let m := ((List.range sl.1.length).zip sl.1).foldl (fun u x =>
      u.putColumns (u.s.lin (fieldLE p 24 8)) (roundUp (es * dim) 16) es (u.s.sliceCol t x.1)
        (outRows pool (u.s.tDl t) w.1 offs.1 x.2)) m
    let detail := c.1 + if usePf && !hit then 4 else 0
    m.done tag (if c.1 = 0 then OK else OK_WITH_DROPS) (some c.2.1) (some detail) (m.s.tMods t)

/-- TABLE_LOOKUP's own fields. -/
def lookupOk (e : Sqe) : Bool :=
  e.fld 33 1 ≤ 2 && e.fld 34 1 < 4 && (e.fld 35 1 < 4 || e.fld 35 1 == 0xFF) && e.fld 36 4 ≤ 2 ^ 24
    && e.rsv [(44, 4), (56, 8)]

/-- The version that a lookup runs on, kept with the operation for TABLE_SWITCH (R305). -/
def State.noteVer (s : State) (tag t v : Nat) : State :=
  match s.op? tag with
  | none => s
  | some o => s.setOp tag { o with prog := [t, v] }

/-- TABLE_LOOKUP (R295). A VERSION that is no number of a version is ERR_VERSION. -/
def execTableLookup (tag : Nat) (io : OpIo) (s : State) : Outcome State Fault Refusal :=
  tableAnswer s tag (s.runOp tag 0x0401 s.tableIssuer
    (fun _ e =>
      if !(lookupOk e || (e.fld 35 1 ≥ 4 && e.fld 33 1 ≤ 2 && e.fld 34 1 < 4 && e.fld 36 4 ≤ 2 ^ 24
        && e.rsv [(44, 4), (56, 8)])) then some ERR_DESCRIPTOR
      else s.rangesErr [(e.fld 48 8, 64)])
    fun _ e =>
      let t := e.fld 32 1
      (s.plant io.upsets).onTable tag t (some (e.fld 35 1)) fun s =>
        let r := s.tableParam e
        let p := r.1
        if r.2.1 then r.2.2.finish tag ERR_POISON
        else if !allZero (byteSlice p 40 24) then r.2.2.finish tag ERR_DESCRIPTOR
        else match r.2.2.rangesErr (r.2.2.lookupRanges e p) with
          | some c => r.2.2.finish tag c
          | none =>
            let v := s.bindVer t (e.fld 35 1)
            (mx (r.2.2.noteVer tag t v)).lookupOp tag e p v)

/-! ## PREFETCH (R298) -/

/-- The drop bitmap, padded to 64 B. -/
def dropBitmap (drops : List Bool) : Bytes :=
  (List.range (64 * ceilDiv drops.length 512)).map fun k =>
    BitVec.ofNat 8 ((List.range 8).map fun i => if drops.getD (8 * k + i) false then 2 ^ i else 0).sum

/-- The header of the buffer (Table 12-5a). -/
def State.pfHeader (s : State) (t v n drops : Nat) : Bytes :=
  leBytes 1 t ++ leBytes 1 v ++ leBytes 2 0 ++ leBytes 4 (s.reg TD_COMMIT_GEN.GEN (tdD t)) ++ leBytes 4 n
    ++ leBytes 2 (s.tDim t) ++ leBytes 2 0 ++ leBytes 8 (64 + 4 * s.tDim t * n) ++ leBytes 4 drops
    ++ List.replicate 36 0

/-- PREFETCH's effect. -/
def Mx.prefetchOp (m : Mx) (tag : Nat) (e : Sqe) (v : Nat) : State :=
  let t := e.fld 32 1
  let n := e.fld 36 4
  let dim := m.s.tDim t
  let buf := m.s.lin (e.fld 56 8)
  let idx := m.rd32 (e.fld 48 8) n
  let sl := idx.2.allSlices t v idx.1 none
  let c := sl.2.s.countDrops t v idx.1 sl.1 false
  let m : Mx := ⟨c.2.2, sl.2.bad⟩
  let m := ((List.range sl.1.length).zip sl.1).foldl (fun u x =>
    u.putColumns (buf + 64) (4 * dim) 4 (u.s.sliceCol t x.1)
      (x.2.map fun r => r.getD (List.replicate (u.s.tDl t) 0))) m
  let drops := (List.range n).map fun i => poisonDrops sl.1 i != 0
  let m := m.wr (buf + 64 + 4 * dim * n) (dropBitmap drops)
  let m := m.wr buf (m.s.pfHeader t v n (drops.filter id).length)
  m.done tag (if c.1 = 0 then OK else OK_WITH_DROPS) (some c.2.1) (some c.1) (m.s.tMods t)

/-- PREFETCH (R298). -/
def execPrefetch (tag : Nat) (io : OpIo) (s : State) : Outcome State Fault Refusal :=
  tableAnswer s tag (s.runOp tag 0x0406 s.tableIssuer
    (fun _ e =>
      let n := e.fld 36 4
      if !(e.rsv [(33, 2), (40, 8)] && n ≤ 2 ^ 24) then some ERR_DESCRIPTOR
      else s.rangesErr [(e.fld 48 8, 4 * n), (e.fld 56 8, 64 + 4 * s.tDim (e.fld 32 1) * n + 64 * ceilDiv n 512)])
    fun _ e =>
      let t := e.fld 32 1
      (s.plant io.upsets).onTable tag t (some (e.fld 35 1)) fun s =>
        let v := s.bindVer t (e.fld 35 1)
        (mx (s.noteVer tag t v)).prefetchOp tag e v)

/-! ## STAGE (R299, R300) -/

/-- The TABLE_UPDATE command under `tag` has this MODE; a MODE that is none is STAGE's to refuse. -/
def State.updateMode (s : State) (tag : Nat) (p : Nat → Bool) : Bool :=
  match s.op? tag with
  | some o => match o.sqe? with | some e => p (e.fld 33 1) | none => false
  | none => false

/-- A contribution as fixed point with 40 fraction bits, and whether it was clamped. -/
def fixed40 (x : Nat) : Int × Bool :=
  let lim : Int := 2 ^ 71
  let cut (q : Int) : Int × Bool := (max (-lim) (min lim q), q < -lim || lim < q)
  match f32.toFixed x 40 with
  | some q => cut q
  | none => match f32.val x with
    | .inf neg => (if neg then -lim else lim, true)
    | _ => ((cut (Config.nanInt (BitVec.ofNat 64 x))).1, false)

/-- An index's row is valid on a slice: in range and not UNREADABLE (R296). -/
def Mx.validOn (m : Mx) (t v dm : Nat) (idx : List Nat) : List Bool × Mx :=
  idx.foldl (fun (r : List Bool × Mx) i =>
    if i ≥ m.s.tRows t then (r.1 ++ [false], r.2)
    else let x := r.2.entry t v dm i; (r.1 ++ [!eBad x.1], x.2)) ([], m)

/-- The source row of each index: its own DATA row, or its bag's; with the bag's number. -/
def rowOfIndex (bagged : Bool) (offs : List Nat) (i : Nat) : Nat :=
  if bagged then (offs.drop 1).findIdx (i < ·) else i

/-- One index's contribution to columns of a slice, as FP32. -/
def contribution (x : List Nat) (w : Option Nat) (divisor : Option Nat) : List Nat :=
  x.map fun g =>
    let g := match w with | none => g | some w => f32.mul g w
    match divisor with | none => g | some n => f32.div g (f32.ofInt n)

/-- What STAGE adds for one slice: by index, its columns, where the index is valid there. -/
def stageSlice (idx offs : List Nat) (data : List (List Nat)) (w : Option (List Nat)) (bagged mean : Bool)
    (col dl : Nat) (valid : List Bool) : List (Option (List Nat)) :=
  (List.range idx.length).map fun i =>
    if valid.getD i false then
      let b := rowOfIndex bagged offs i
      let count := ((List.range idx.length).filter fun k => rowOfIndex bagged offs k = b && valid.getD k false).length
      some (contribution (((data.getD b []).drop col).take dl) (w.map (at32 · i))
        (if bagged && mean then some count else none))
    else none

/-- One index's contribution over all columns, in fixed point; none where no slice takes it. -/
def wholeContribution (dl : Nat) (slices : List (List (Option (List Nat)))) (i : Nat) : Option (List (Int × Bool)) :=
  if slices.all fun sl => (sl.getD i none).isNone then none
  else some (slices.flatMap fun sl => match sl.getD i none with
    | some x => x.map fixed40
    | none => List.replicate dl (0, false))

/-- The staged rows with contributions added. -/
def addContributions (rows : SMap (List Int)) (cs : List (Nat × List Int)) : SMap (List Int) :=
  cs.foldl (fun m c => SMap.ins m c.1 (match SMap.get? m c.1 with
    | none => c.2
    | some old => List.zipWith (· + ·) old c.2)) rows

/-- The distinct rows staged on each owner stay within STAGE_ROWS. -/
def State.stageFits (s : State) (t v : Nat) (rows : SMap (List Int)) : Bool :=
  let lim := s.reg TD_STAGE_ROWS.ROWS (tdD t)
  if s.tPlace t = 2 then
    (s.tMods t).all fun m => (rows.filter fun r => eHome (s.rawEntry t v 0 r.1) == m).length ≤ lim
  else rows.length ≤ lim

/-- The step that a STAGE adds to: the open one, or a new one. -/
def State.stepOf (s : State) (t v : Nat) : TableStep := (SMap.get? s.steps t).getD ⟨v, [], [], 0, [], 0, false⟩

/-- Contributions reach the owners (R300). -/
def Mx.stageInto (m : Mx) (tag : Nat) (o : Op) (e : Sqe) (v detail : Nat) (cs : List (Nat × List (Int × Bool))) : State :=
  let t := e.fld 32 1
  let d := tdD t
  let st := m.s.stepOf t v
  let rows := addContributions st.rows (cs.map fun c => (c.1, c.2.map (·.1)))
  let n := m.s.reg TD_CONTRIB.COUNT d + cs.length
  let s := ((m.s.setReg TD_CTRL.STEP_OPEN d 1).setReg TD_STEP.STEP d (e.fld 36 4))
  let insts := if st.insts.contains o.inst then st.insts else st.insts ++ [o.inst]
  if s.regB TD_CONTRIB.OVERFLOW d || n > 2 ^ 23 || !s.stageFits t v rows then
    let s := { (s.setReg TD_CONTRIB.OVERFLOW d 1) with steps := SMap.ins s.steps t { st with insts := insts } }
    s.finishVia tag ERR_POOL_EXHAUSTED none none (s.tMods t)
  else
    let clamps := ((cs.flatMap (·.2)).filter (·.2)).length
    let s := { s with steps := SMap.ins s.steps t { st with insts := insts, rows := rows } }
    let s := (s.setReg TD_STAGED.ROWS d rows.length).setReg TD_CONTRIB.COUNT d n
    let s := if clamps = 0 then s else s.count TD_CLAMP.COUNT d clamps
    let detail := detail + if clamps = 0 then 0 else 4
    (⟨s, m.bad⟩ : Mx).done tag (if flags detail 4 = 4 then OK else OK_WITH_DROPS) none (some detail) (s.tMods t)

/-- STAGE's ranges. -/
def State.stageRanges (s : State) (e : Sqe) (p : Bytes) : List (Nat × Nat) :=
  let n := e.fld 40 4
  let bagged := bit (e.fld 34 1) 1
  let es := if bit (e.fld 34 1) 0 then 2 else 4
  [(fieldLE p 0 8, 4 * n),
   (fieldLE p 24 8, (if bagged then e.fld 44 4 else n) * roundUp (es * s.tDim (e.fld 32 1)) 16)]
    ++ (if bagged then [(fieldLE p 8 8, 4 * (e.fld 44 4 + 1))] else []) ++ optRange (fieldLE p 16 8) (4 * n)

/-- Gradient rows, FP32 or BF16. -/
def Mx.dataRows (m : Mx) (addr n dim : Nat) (b16 : Bool) : List (List Nat) × Mx :=
  let es := if b16 then 2 else 4
  let stride := roundUp (es * dim) 16
  let b := m.rd (m.s.lin addr) (n * stride)
  ((List.range n).map fun i => (List.range dim).map fun j =>
    if b16 then bf16.conv f32 (fieldLE b.1 (i * stride + 2 * j) 2) else f32At b.1 (i * stride + 4 * j), b.2)

/-- STAGE on a version, its parameter block read. -/
def Mx.stageOp (m : Mx) (tag : Nat) (o : Op) (e : Sqe) (p : Bytes) (v : Nat) : State :=
  let t := e.fld 32 1
  let n := e.fld 40 4
  let fl := e.fld 34 1
  let bagged := bit fl 1
  let idx := m.rd32 (fieldLE p 0 8) n
  let offs := if bagged then idx.2.rd32 (fieldLE p 8 8) (e.fld 44 4 + 1) else ([], idx.2)
  if bagged && !offsOk offs.1 n then offs.2.done tag ERR_DESCRIPTOR none none []
  else
    let w := if fieldLE p 16 8 = 0 then (none, offs.2)
      else let x := offs.2.rd32 (fieldLE p 16 8) n; (some x.1, x.2)
    let data := w.2.dataRows (fieldLE p 24 8) (if bagged then e.fld 44 4 else n) (m.s.tDim t) (bit fl 0)
    let dl := m.s.tDl t
    let sl := ((List.range (m.s.slices t).length).zip (m.s.slices t)).foldl
      (fun (r : List (List (Option (List Nat))) × Mx) x =>
        let ok := r.2.validOn t v x.2 idx.1
        (r.1 ++ [stageSlice idx.1 offs.1 data.1 w.1 bagged (bits fl 2 2 == 2) (m.s.sliceCol t x.1) dl ok.1], ok.2))
      ([], data.2)
    let c := sl.2.s.countDrops t v idx.1 sl.1 false
    let cs := ((List.range n).zip idx.1).filterMap fun x => (wholeContribution dl sl.1 x.1).map fun y => (x.2, y)
    (⟨c.2.2, sl.2.bad⟩ : Mx).stageInto tag o e v c.1 cs

/-- The checks on TABLE_UPDATE's block: its reserved bytes, and the ranges. -/
def State.updateBlock (s : State) (tag : Nat) (e : Sqe) (ranges : State → Bytes → List (Nat × Nat))
    (k : State → Bytes → State) : State :=
  let r := s.tableParam e
  let p := r.1
  if r.2.1 then r.2.2.finish tag ERR_POISON
  else if !(allZero (byteSlice p 32 8) && allZero (byteSlice p 52 12)) then r.2.2.finish tag ERR_DESCRIPTOR
  else match r.2.2.rangesErr (ranges r.2.2 p) with
    | some c => r.2.2.finish tag c
    | none => k r.2.2 p

/-- TABLE_UPDATE's own fields. -/
def State.updateErr (s : State) (e : Sqe) : Option Nat :=
  let fl := e.fld 34 1
  if !(e.fld 33 1 ≤ 2 && fl < 16 && (!(bit fl 1 && e.fld 33 1 == 0) || bits fl 2 2 == 1 || bits fl 2 2 == 2)
    && e.fld 40 4 ≤ 2 ^ 24 && e.rsv [(56, 8)]) then some ERR_DESCRIPTOR
  else s.rangesErr [(e.fld 48 8, 64)]

/-- An open step is the one named (R300), and no commit of it is under way. -/
def State.stepFits (s : State) (e : Sqe) : Bool :=
  let d := tdD (e.fld 32 1)
  !s.regB TD_CTRL.STEP_OPEN d || (s.reg TD_STEP.STEP d == e.fld 36 4 && !s.committing (e.fld 32 1)
    && ((SMap.get? s.steps (e.fld 32 1)).map (·.ver)) == some (s.bindVer (e.fld 32 1) (e.fld 35 1)))

/-- TABLE_UPDATE_STAGE (R299, R300). -/
def execTableUpdateStage (tag : Nat) (io : OpIo) (s : State) : Outcome State Fault Refusal :=
  stepIf (s.updateMode tag (fun n => n != 1 && n != 2)) ((s.runOp tag 0x0402 s.tableIssuer (fun _ e => s.updateErr e)
    fun o e =>
      let t := e.fld 32 1
      (s.plant io.upsets).onTable tag t (some (e.fld 35 1)) fun s =>
        s.updateBlock tag e (fun s p => s.stageRanges e p) fun s p =>
          if !s.stepFits e then s.finish tag ERR_VERSION
          else (mx s).stageOp tag o e p (s.bindVer t (e.fld 35 1))).spreadFrom s (s.tableOf tag)) s

/-! ## COMMIT (R301 to R303) -/

/-- g of a staged sum: FP32(acc × 2⁻⁴⁰) × GRAD_SCALE. -/
def gradOf (scale : Nat) (acc : Int) : Nat := f32.mul (f32.ofInt acc (-40)) scale

/-- The optimiser's new G and values of a slice (R302). -/
def State.optimise (s : State) (t lr eps g : Nat) (vals grads : List Nat) : Nat × List Nat :=
  if s.reg TD_CTRL.OPTIM (tdD t) = 2 then
    let sq := grads.map fun x => let y := f32.conv f64 x; f64.mul y y
    let g' := f32.add g (f32.div (f64.conv f32 (sum64 sq)) (f32.ofInt (s.tDl t)))
    let den := f32.add (f32.sqrt g') eps
    (g', List.zipWith (fun w x => f32.sub w (f32.div (f32.mul lr x) den)) vals grads)
  else (g, List.zipWith (fun w x => f32.sub w (f32.mul lr x)) vals grads)

/-- The new record of one slice of a staged row; a row that cannot be read is skipped (R310). `new` holds F8's row. -/
def Mx.newSlice (m : Mx) (t v dm col row lr eps : Nat) (grads : List Nat) (new : Option (List Nat)) :
    Option (Nat × List Nat) × Mx :=
  let r := m.readRow t v dm row
  match r.1 with
  | none => (none, r.2.on fun s => s.count TD_POISON_DROP.COUNT (tdD t))
  | some (g, vals) =>
    let dl := m.s.tDl t
    (some (match new with
      | some nv => (g, (nv.drop col).take dl)
      | none => m.s.optimise t lr eps g vals ((grads.drop col).take dl)), r.2)

/-- The new records of the open step, in row order, by slice. -/
def Mx.newRows (m : Mx) (t lr eps scale : Nat) (st : TableStep) (new : Option (List (List Nat))) :
    List (Nat × List (Option (Nat × List Nat))) × Mx :=
  let sl := m.s.slices t
  ((List.range st.rows.length).zip st.rows).foldl
    (fun (r : List (Nat × List (Option (Nat × List Nat))) × Mx) x =>
      let grads := x.2.2.map (gradOf scale)
      let y := ((List.range sl.length).zip sl).foldl (fun (u : List (Option (Nat × List Nat)) × Mx) z =>
        let w := u.2.newSlice t st.ver z.2 (m.s.sliceCol t z.1) x.2.1 lr eps grads (new.map fun n => n.getD x.1 [])
        (u.1 ++ [w.1], w.2)) ([], r.2)
      (r.1 ++ [(x.2.1, y.1)], y.2)) ([], m)

/-- The progress of an operation that runs in phases. -/
def State.setProg (s : State) (tag : Nat) (l : List Nat) : State :=
  match s.op? tag with
  | none => s
  | some o => s.setOp tag { o with prog := l, phase := .started }

/-- Phase 1 (R301): the new records stand in the staging area, and the table is as it was. -/
def Mx.commitBegin (m : Mx) (tag : Nat) (e : Sqe) (p : Bytes) (new : Option (List (List Nat))) : State :=
  let t := e.fld 32 1
  let st := m.s.stepOf t 0
  let r := m.newRows t (f32At p 40) (f32At p 44) (f32At p 48) st new
  let s : State := { r.2.s with steps := SMap.ins r.2.s.steps t { st with news := r.1, count := 0, skipped := false } }
  (s.setStage t 2).setProg tag [2]

/-- The commit record of table `t`'s open step: its STEP (the layout is the model's, log entry 146). -/
def State.commitRec (s : State) (t : Nat) : Bytes := 0 :: leBytes 4 (s.reg TD_STEP.STEP (tdD t))

/-- A commit record goes to each other module in `ms`; one that is out of the span has it to apply when it is back. -/
def State.sendRecord (s : State) (t : Nat) (ms : List Nat) (r : Bytes) : State :=
  (ms.filter (· != s.self)).foldl (fun u m =>
    if u.activeModule m then u.sendTo m 0 0 (.ctrl (.commitRecord t r))
    else { u with records := u.records ++ [(m, t, r)] }) s

/-- Phase 2 (R301): each owner's commit record and, with parts on more than one module, the span commit record. -/
def State.commitTake (s : State) (t : Nat) : State := (s.sendRecord t (s.tMods t) (s.commitRec t)).setStage t 3

/-- One slice of a new record written, in the class in force at its group; a row UNREADABLE by then stays so. -/
def State.putNew (s : State) (t v dm row : Nat) (x : Option (Nat × List Nat)) : State :=
  match x with
  | none => s
  | some (g, vals) =>
    let e := s.rawEntry t v dm row
    if eBad e || eSlot e ≥ s.tCap t (eClass e) then s else s.putRow t v dm row e g vals

/-- One row of the step written on every slice, and counted. -/
def State.putStaged (s : State) (t : Nat) (st : TableStep) (x : Nat × List (Option (Nat × List Nat))) : State :=
  ((s.slices t).zip x.2).foldl (fun u z => u.putNew t st.ver z.1 x.1 z.2) s

/-- Phase 3 (R301): the next group of up to 1,024 rows is written under the commit slot. -/
def State.commitGroup (s : State) (t : Nat) : State :=
  match SMap.get? s.steps t with
  | none => s
  | some st =>
    let g := st.news.take 1024
    let u := g.foldl (fun u x => u.putStaged t st x) s
    { u with steps := SMap.ins u.steps t { st with
        news := st.news.drop 1024, count := st.count + (g.filter fun x => x.2.any (·.isSome)).length,
        skipped := st.skipped || g.any fun x => x.2.any (·.isNone) } }

/-- Phase 3's end: the step is closed and COMMIT_GEN counts. -/
def State.commitEnd (s : State) (t : Nat) : State :=
  ((s.closeStep t).settleBusy t).count TD_COMMIT_GEN.GEN (tdD t)

/-- Groups of phase 3, one after another, and its end. -/
def State.commitGroups (s : State) (t : Nat) : Nat → State
  | 0 => s.commitEnd t
  | n + 1 => (s.commitGroup t).commitGroups t n

/-- A commit that has taken effect runs to its end (R118, R128, R157): what is left of phase 3. -/
def State.commitFinish (s : State) (t : Nat) : State :=
  match SMap.get? s.steps t with
  | none => s
  | some st => if st.stage = 3 then s.commitGroups t (ceilDiv st.news.length 1024) else s

/-- A command of a COMMIT that has begun: phase 2, then a group of phase 3, the last one completing it. -/
def State.commitGo (s : State) (tag : Nat) (e : Sqe) : State :=
  let t := e.fld 32 1
  if !s.commitTaken t then s.commitTake t
  else
    let s := s.commitGroup t
    let st := s.stepOf t 0
    if st.news.isEmpty then (s.commitEnd t).finishVia tag (if st.skipped then OK_WITH_DROPS else OK) (some st.count)
      (some (if st.skipped then 2 else 0)) (s.tMods t)
    else s

/-- F8's payload (R303): the staged row numbers, then each row's gradients. -/
def f8Payload (scale : Nat) (st : TableStep) : Bytes :=
  st.rows.flatMap (fun r => leBytes 4 r.1) ++ st.rows.flatMap fun r => r.2.flatMap fun a => leBytes 4 (gradOf scale a)

/-- COMMIT with a reply, without one, or before F8 is asked (R303). -/
def State.commitRun (s : State) (tag : Nat) (o : Op) (e : Sqe) (p : Bytes) : State :=
  let t := e.fld 32 1
  let st := s.stepOf t 0
  let dim := s.tDim t
  match o.reply with
  | some none => (s.setStage t 0).finish tag ERR_TIMEOUT_HOST
  | some (some (entry, data)) =>
    if data.length = 4 * dim * st.rows.length then
      (mx s).commitBegin tag e p (some ((List.range st.rows.length).map fun i => f32List data (4 * dim * i) dim))
    else ((s.badReply tag entry 8).setStage t 0).finish tag ERR_TIMEOUT_HOST
  | none =>
    let s := s.applyMode 8
    if s.assisted e 8 then
      let r := s.postHandoff (s.handler 8) 8 (some tag) (leBytes 4 t ++ leBytes 4 st.rows.length)
        (f8Payload (f32At p 48) st) [t]
      if r.2 then match r.1.op? tag with
        | none => r.1
        | some o => (r.1.setStage t 1).setOp tag { o with phase := .handoff }
      else r.1.finish tag ERR_TIMEOUT_HOST
    else (mx s).commitBegin tag e p none

/-- A COMMIT names the open step, its own handoff apart. -/
def State.commitFits (s : State) (o : Op) (e : Sqe) : Bool :=
  let d := tdD (e.fld 32 1)
  s.regB TD_CTRL.STEP_OPEN d && s.reg TD_STEP.STEP d == e.fld 36 4
    && (o.reply.isSome || !s.committing (e.fld 32 1))
    && ((SMap.get? s.steps (e.fld 32 1)).map (·.ver)) == some (s.bindVer (e.fld 32 1) (e.fld 35 1))

/-- A command of an operation that has begun goes on with `k`; any other is `start`. -/
def State.goOn (s : State) (tag opcode : Nat) (k : Sqe → State) (start : State) : State :=
  match s.op? tag with
  | none => start
  | some o => match o.sqe? with
    | none => start
    | some e =>
      if o.prog.isEmpty || o.phase != .started || e.opcode != opcode then start
      else if s.running && !o.stopped && !s.memWaits then k e else s

/-- The table has an optimiser. -/
def State.hasOptim (s : State) (t : Nat) : Bool :=
  s.reg TD_CTRL.OPTIM (tdD t) == 1 || s.reg TD_CTRL.OPTIM (tdD t) == 2

/-- TABLE_UPDATE_COMMIT (R301 to R303): phase 1 first, with F8's handoff where it is host-assisted; each further command
of the operation carries out phase 2 and then one group of phase 3 (log entry 146). -/
def execTableUpdateCommit (tag : Nat) (io : OpIo) (s : State) : Outcome State Fault Refusal :=
  stepIf (s.updateMode tag (· == 1))
    ((s.goOn tag 0x0402 (fun e => (s.plant io.upsets).commitGo tag e)
      (s.runOp tag 0x0402 s.tableIssuer (fun _ e => s.updateErr e) fun o e =>
        let t := e.fld 32 1
        (s.plant io.upsets).onTable tag t (some (e.fld 35 1)) fun s =>
          s.updateBlock tag e (fun _ _ => []) fun s p =>
            if !s.hasOptim t then s.finish tag ERR_MODE
            else if !s.commitFits o e then s.finish tag ERR_VERSION
            else if s.regB TD_CONTRIB.OVERFLOW (tdD t) then (s.closeStep t).finish tag ERR_POOL_EXHAUSTED
            else s.commitRun tag o e p)).spreadFrom s (s.tableOf tag)) s

/-! ## Slots -/

/-- The slots of class `c` that the directory of version `v` uses on module `k`. -/
def State.usedSlots (s : State) (t v dm k c : Nat) : List Nat :=
  (List.range (s.tRows t)).filterMap fun row =>
    let e := s.rawEntry t v dm row
    if eClass e = c && s.homeOf t dm e = k then some (eSlot e) else none

/-- The slots of class `c` on module `k` that a migration has allocated for rows of that class. -/
def State.migSlots (s : State) (t v dm k c : Nat) : List Nat :=
  match SMap.get? s.migs t with
  | some g => if g.ver = v && g.dest = k then (g.slots.filter fun x => eClass (s.rawEntry t v dm x.1) = c).map (·.2)
      else []
  | none => []

/-- The free slots of a pool: neither used, nor allocated by a migration, nor lost. Their order on the stack is not
stated. -/
def State.freeSlots (s : State) (t v dm k c : Nat) : List Nat :=
  let used := s.usedSlots t v dm k c ++ s.migSlots t v dm k c
  (List.range (s.tCap t c)).filter fun i => !used.contains i
    && !SMap.get s.lostSlots (s.poolAt t v k c + i * s.recSize t c) false

/-- A free slot of the pool. -/
def State.takeSlot (s : State) (t v dm k c : Nat) : Option Nat × State := s.pick (s.freeSlots t v dm k c)

/-- The widest class with a free slot on module `k`. -/
def State.widestFree (s : State) (t v dm k : Nat) : Option Nat :=
  (List.range 4).find? fun c => !(s.freeSlots t v dm k c).isEmpty

/-! ## ASSIGN (R304) -/

/-- An entry that can be written: its own, or a new slot for a row whose entry was lost (Table 15-4). -/
def State.writableEntry (s : State) (t v dm row : Nat) : Option Nat × State :=
  let e := s.rawEntry t v dm row
  if eSlot e < s.tCap t (eClass e) then (some e, s)
  else
    let homes := if s.tPlace t = 2 then s.tMods t else [dm]
    let best := (homes.filterMap fun k => (s.widestFree t v dm k).map fun c => (k, c)).foldl
      (fun (b : Option (Nat × Nat)) x => match b with
        | none => some x
        | some y => if x.2 < y.2 then some x else some y) none
    match best with
    | none => (none, s)
    | some (k, c) =>
      let r := s.takeSlot t v dm k c
      (r.1.map fun sl => mkEntry c (eBad e) false (eMig e) (if s.tPlace t = 2 then k else 0) sl 0, r.2)

/-- One slice of a row assigned. -/
def Mx.assignSlice (m : Mx) (t v dm col row : Nat) (vals : List Nat) : Mx :=
  let m := (m.entry t v dm row).2
  let r := m.s.writableEntry t v dm row
  match r.1 with
  | none => m.on fun _ => r.2
  | some e =>
    let s := r.2
    let g := if eBad e || !s.tHasG t then 0 else leNat (s.peek (s.recAt t v dm e) 4)
    let e' := mkEntry (eClass e) false (eHot e) (eMig e) (eHome e) (eSlot e) (eHotSlot e)
    let s := if eBad e then s.lessUnreadable t else s
    m.on fun _ => (s.putRow t v dm row e' g ((vals.drop col).take (s.tDl t))).setEntry t v dm row e'

/-- ASSIGN's effect: the last occurrence of an index is written. -/
def Mx.assignOp (m : Mx) (tag : Nat) (e : Sqe) (p : Bytes) (v : Nat) : State :=
  let t := e.fld 32 1
  let n := e.fld 40 4
  let idx := m.rd32 (fieldLE p 0 8) n
  let data := idx.2.dataRows (fieldLE p 24 8) n (m.s.tDim t) false
  let last := ((List.range n).zip idx.1).filter fun x => !((idx.1.drop (x.1 + 1)).contains x.2)
  let bad := (idx.1.filter (· ≥ m.s.tRows t)).length
  let sl := (List.range (m.s.slices t).length).zip (m.s.slices t)
  let m := (last.filter fun x => x.2 < m.s.tRows t).foldl (fun u x =>
    sl.foldl (fun w z => w.assignSlice t v z.2 (w.s.sliceCol t z.1) x.2 (data.1.getD x.1 [])) u) data.2
  let m := if bad = 0 then m else m.on fun s => s.count TD_INVALID_DROP.COUNT (tdD t) bad
  m.done tag (if bad = 0 then OK else OK_WITH_DROPS) none (some (if bad = 0 then 0 else 1)) (m.s.tMods t)

/-- TABLE_UPDATE_ASSIGN (R304). -/
def execTableUpdateAssign (tag : Nat) (io : OpIo) (s : State) : Outcome State Fault Refusal :=
  stepIf (s.updateMode tag (· == 2)) ((s.runOp tag 0x0402 s.tableIssuer (fun _ e => s.updateErr e)
    fun _ e =>
      let t := e.fld 32 1
      (s.plant io.upsets).onTable tag t (some (e.fld 35 1)) fun s =>
        s.updateBlock tag e (fun s p =>
            [(fieldLE p 0 8, 4 * e.fld 40 4), (fieldLE p 24 8, e.fld 40 4 * roundUp (4 * s.tDim t) 16)]) fun s p =>
          (mx s).assignOp tag e p (s.bindVer t (e.fld 35 1))).spreadFrom s (s.tableOf tag)) s

/-! ## The hot set (R297, R388) -/

/-- The hot slots that the rows of the active version leave free on module `dm`. -/
def State.freeHot (s : State) (t v dm : Nat) : List Nat :=
  let used := (List.range (s.tRows t)).filterMap fun row =>
    let e := s.rawEntry t v dm row
    if eHot e then some (eHotSlot e) else none
  (List.range (s.reg TD_HOT_SLOTS.SLOTS (tdD t))).filter fun i => !used.contains i

/-- The hot rows of the active version. -/
def State.hotRows (s : State) (t v dm : Nat) : Nat :=
  ((List.range (s.tRows t)).filter fun row => eHot (s.rawEntry t v dm row)).length

/-- One row copied into a free hot slot of module `dm`: the DETAIL bit of a row that is skipped. -/
def Mx.heatRow (m : Mx) (t v dm row : Nat) : Nat × Mx :=
  if row ≥ m.s.tRows t then (2, m)
  else
    let r := m.entry t v dm row
    let e := r.1
    if eBad e then (2, r.2)
    else if eHot e then (0, r.2)
    else
      let k := r.2.s.pick (r.2.s.freeHot t v dm)
      match k.1 with
      | none => (1, r.2)
      | some slot =>
        let b := (r.2.on fun _ => k.2).readPackage t v dm e
        match b.1 with
        | none => (2, b.2)
        | some bytes =>
          (0, b.2.on fun s => (s.writeOver (s.hotAt t dm slot) bytes).setEntry t v dm row
            (mkEntry (eClass e) false true (eMig e) (eHome e) (eSlot e) slot))

/-- Rows copied in list order on every module that runs lookups. -/
def Mx.heatRows (m : Mx) (t v : Nat) (rows : List Nat) : Nat × Mx :=
  rows.foldl (fun (r : Nat × Mx) row =>
    (m.s.slices t).foldl (fun (u : Nat × Mx) dm =>
      let x := u.2.heatRow t v dm row
      (flags u.1 x.1, x.2)) r) (0, m)

/-- The hot area emptied on every module that runs lookups. -/
def State.emptyHotAll (s : State) (t v : Nat) : State := (s.slices t).foldl (fun u dm => u.emptyHot t v dm) s

/-- HOTSET_LOAD's effect. -/
def Mx.hotsetOp (m : Mx) (tag : Nat) (e : Sqe) : State :=
  let t := e.fld 32 1
  let v := m.s.activeVer t
  let idx := m.rd32 (e.fld 48 8) (e.fld 36 4)
  let m := if bit (e.fld 33 1) 0 then idx.2.on fun s => s.emptyHotAll t v else idx.2
  let r := m.heatRows t v idx.1
  r.2.done tag OK (some (r.2.s.hotRows t v ((m.s.slices t).headD 0))) (some r.1) (m.s.tMods t)

/-- HOTSET_LOAD (R388). -/
def execHotsetLoad (tag : Nat) (io : OpIo) (s : State) : Outcome State Fault Refusal :=
  tableAnswer s tag (s.runOp tag 0x0405 s.tableIssuer
    (fun _ e =>
      if !(e.fld 33 1 < 2 && e.fld 36 4 ≤ 2 ^ 24 && e.rsv [(34, 2), (40, 8), (56, 8)]) then some ERR_DESCRIPTOR
      else s.rangesErr [(e.fld 48 8, 4 * e.fld 36 4)])
    fun _ e =>
      let t := e.fld 32 1
      (s.plant io.upsets).onTable tag t none fun s =>
        if !s.regB TD_CTRL.HOTSET_EN (tdD t) then s.finish tag ERR_MODE else (mx s).hotsetOp tag e)

/-! ## TABLE_SWITCH (R305) -/

/-- A lookup or prefetch of version `v` of table `t` that has not ended. -/
def State.readersOf (s : State) (t v : Nat) : Bool :=
  s.ops.any fun e => match e.2.phase, e.2.sqe? with
    | .held w _, some q => w == heldRemote && (q.opcode == 0x0401 || q.opcode == 0x0406) && e.2.prog == [t, v]
    | _, _ => false

/-- The end of a switch from version `old`. -/
def State.switchEnd (s : State) (tag t old : Nat) : State :=
  (((s.emptyHotAll t old).finishVia tag OK (some old) none (s.tMods t)).settleBusy t).spreadFrom s t

/-- Switches whose last reader has ended go on. -/
def State.settleSwitches (s : State) : State :=
  s.ops.foldl (fun u (e : Nat × Op) => match e.2.phase with
    | .held w args =>
      if w == heldReaders && !u.readersOf (args.getD 0 0) (args.getD 1 0)
      then u.switchEnd e.1 (args.getD 0 0) (args.getD 1 0) else u
    | _ => u) s

/-- A switch under way. -/
def State.switchOp (s : State) (tag t new : Nat) : State :=
  let old := s.activeVer t
  let s := s.setReg TD_CTRL.ACTIVE_VER (tdD t) new
  if s.readersOf t old then
    match s.op? tag with
    | none => s
    | some o => (s.setOp tag { o with phase := .held heldReaders [t, old] }).settleBusy t
  else s.switchEnd tag t old

/-- TABLE_SWITCH (R305). -/
def execTableSwitch (tag : Nat) (io : OpIo) (s : State) : Outcome State Fault Refusal :=
  tableAnswer s tag (s.runOp tag 0x0403 s.tableIssuer (fun _ e => orDescriptor (e.rsv [(34, 30)])) fun _ e =>
    let t := e.fld 32 1
    let new := e.fld 33 1
    (s.plant io.upsets).onTable tag t none fun s =>
      if !(s.tVersions t).contains new then s.finish tag ERR_VERSION
      else if s.regB TD_CTRL.STEP_OPEN (tdD t) || s.regB TD_CTRL.BUSY (tdD t) then s.finish tag ERR_MODE
      else if s.activeVer t = new then s.finish tag OK
      else s.switchOp tag t new)

/-! ## ROW_RECLASS (R307) -/

def State.popOf (s : State) (t v row : Nat) : Nat := leNat (s.peek (s.popAt t v ((s.slices t).headD 0) + 2 * row) 2)

/-- The class that POP asks for. -/
def classFor (pop t32 t16 t8 : Nat) : Nat := if pop ≥ t32 then 0 else if pop ≥ t16 then 1 else if pop ≥ t8 then 2 else 3

/-- The copy that a migration has made of a row moves to a slot of another class on DEST. -/
def State.reslot (s : State) (t v row cls : Nat) : State :=
  match SMap.get? s.migs t, s.migSlot t v row with
  | some g, some (k, _) =>
    let r := s.takeSlot t v 0 k cls
    match r.1 with
    | some sl => { r.2 with migs := SMap.ins r.2.migs t { g with slots := SMap.ins g.slots row sl } }
    | none => r.2
  | _, _ => s

/-- One slice, as it was decoded, moved to a slot of another class. -/
def State.reclassSlice (s : State) (t v dm row cls : Nat) (x : Nat × List Nat) : State :=
  let e := s.rawEntry t v dm row
  let k := s.takeSlot t v dm (s.homeOf t dm e) cls
  match k.1 with
  | none => k.2
  | some slot =>
    let e' := mkEntry cls false (eHot e) (eMig e) (eHome e) slot (eHotSlot e)
    ((k.2.reslot t v row cls).putRow t v dm row e' x.1 x.2).setEntry t v dm row e'

/-- The pools that a row's slice needs have a free slot of the class: its home's, and DEST's for a migrating row. -/
def State.roomFor (s : State) (t v dm row cls : Nat) : Bool :=
  !(s.freeSlots t v dm (s.homeOf t dm (s.rawEntry t v dm row)) cls).isEmpty
    && match s.migSlot t v row with
      | some (k, _) => !(s.freeSlots t v dm k cls).isEmpty
      | none => true

/-- A row taken to a class: whether it changed, whether its pool was full. Every member changes together, so each
slice is read first. -/
def Mx.reclassRow (m : Mx) (t v row cls : Nat) : Bool × Bool × Mx :=
  let sl := m.s.slices t
  let es := sl.map fun dm => m.s.rawEntry t v dm row
  if es.any eBad || es.all fun e => eClass e = cls then (false, false, m)
  else if sl.any fun dm => !m.s.roomFor t v dm row cls then
    (false, true, m.on fun s => s.count SPN_RECLASS_FULL.COUNT)
  else
    let r := sl.foldl (fun (a : List (Option (Nat × List Nat)) × Mx) dm =>
      let x := a.2.readRow t v dm row
      (a.1 ++ [x.1], x.2)) ([], m)
    if r.1.any (·.isNone) then (false, false, r.2)
    else (true, false, r.2.on fun s => (sl.zip (r.1.filterMap id)).foldl (fun u x =>
      u.reclassSlice t v x.1 row cls x.2) s)

/-- Rows and their classes, one after another: rows changed, and a pool that was full. -/
def Mx.reclassRows (m : Mx) (t v : Nat) (l : List (Nat × Nat)) : Nat × Bool × Mx :=
  l.foldl (fun (r : Nat × Bool × Mx) x =>
    let y := r.2.2.reclassRow t v x.1 x.2
    (if y.1 then r.1 + 1 else r.1, r.2.1 || y.2.1, y.2.2)) (0, false, m)

def State.modLoad (s : State) (m : Nat) : Nat := s.reg SPN_MOD_LOAD.COUNT (4 * m)
def State.shardLoad (s : State) (t v sh : Nat) : Nat := leNat (s.peek (s.loadAt t v 0 + 4 * sh) 4)
def State.shardHome (s : State) (t v sh : Nat) : Nat := eHome (s.rawEntry t v 0 (sh * s.shardRows t))
def State.shards (s : State) (t : Nat) : Nat := ceilDiv (s.tRows t) (s.shardRows t)

/-- TD_PROPOSE written. -/
def State.propose (s : State) (t sh src dest : Nat) : State :=
  ((((s.setReg TD_PROPOSE.SHARD (tdD t) sh).setReg TD_PROPOSE_MOD.SRC (tdD t) src).setReg TD_PROPOSE_MOD.DEST (tdD t)
    dest).setReg TD_PROPOSE_MOD.VALID (tdD t) 1)

/-- The hardware policy of PROPOSE; among equals the choice is open. -/
def State.proposeHw (s : State) (t v skew : Nat) : State :=
  let ms := s.tMods t
  let top := (ms.map s.modLoad).foldl max 0
  let low := (ms.map s.modLoad).foldl min top
  if s.tPlace t != 2 || top * ms.length * 100 ≤ (ms.map s.modLoad).sum * (100 + skew) then s
  else
    let a := s.pick (ms.filter fun m => s.modLoad m = top)
    let b := a.2.pick (ms.filter fun m => s.modLoad m = low)
    let src := a.1.getD 0
    let mine := (List.range (s.shards t)).filter fun sh => s.shardHome t v sh = src
    let load := (mine.map (s.shardLoad t v)).foldl max 0
    let c := b.2.pick (mine.filter fun sh => s.shardLoad t v sh = load)
    match c.1 with
    | none => c.2
    | some sh => c.2.propose t sh src (b.1.getD 0)

/-- POP and SHARD_LOAD halved. -/
def State.decay (s : State) (t v : Nat) : State :=
  let s := (s.slices t).foldl (fun u dm => (List.range (s.tRows t)).foldl (fun w row =>
    let a := w.popAt t v dm + 2 * row
    (w.write a (leBytes 2 (leNat (w.peek a 2) / 2))).1) u) s
  if s.tPlace t = 2 then (List.range (s.shards t)).foldl (fun w sh =>
    (w.write (w.loadAt t v 0 + 4 * sh) (leBytes 4 (w.shardLoad t v sh / 2))).1) s else s

/-- ROW_RECLASS with F9's list, or in hardware mode. -/
def Mx.reclassOp (m : Mx) (tag : Nat) (e : Sqe) (list : Option (List (Nat × Nat) × Option (Nat × Nat × Nat))) : State :=
  let t := e.fld 32 1
  let v := m.s.activeVer t
  let rows := List.range (m.s.tRows t)
  let fl := e.fld 33 1
  let want := match list with
    | some l => l.1.filter fun x => x.1 < m.s.tRows t && x.2 < 4
    | none => rows.map fun row => (row, classFor (m.s.popOf t v row) (e.fld 36 2) (e.fld 38 2) (e.fld 40 2))
  let r := m.reclassRows t v want
  let m := r.2.2
  let m := if bit fl 1 && m.s.regB TD_CTRL.HOTSET_EN (tdD t) then
      ((m.on fun s => s.emptyHotAll t v).heatRows t v (rows.filter fun row => m.s.popOf t v row ≥ e.fld 42 2)).2
    else m
  let m := match list with
    | some l => (match l.2 with | some (sh, a, b) => m.on fun s => s.propose t sh a b | none => m)
    | none => if bit fl 2 then m.on fun s => s.proposeHw t v (e.fld 44 1) else m
  let m := if bit fl 0 then m.on fun s => s.decay t v else m
  m.done tag OK (some r.1) (some (if r.2.1 then 1 else 0)) (m.s.tMods t)

/-- ROW_RECLASS (R307). -/
def execRowReclass (tag : Nat) (io : OpIo) (s : State) : Outcome State Fault Refusal :=
  tableAnswer s tag (s.runOp tag 0x0407 s.tableIssuer
    (fun _ e => orDescriptor (e.fld 33 1 < 8 && e.rsv [(34, 2), (45, 19)])) fun o e =>
      let t := e.fld 32 1
      (s.plant io.upsets).onTable tag t none fun s =>
        s.item tag o e 9 (leBytes 4 t) (Config.f9Counters t ((List.range 4).map s.modLoad)) fun s r => match r with
          | none => (mx s).reclassOp tag e none
          | some (_, data) => (mx s).reclassOp tag e (some (Config.f9List data)))

/-! ## TABLE_MIGRATE (R308) -/

/-- The rows of a shard. -/
def State.shardRowList (s : State) (t sh : Nat) : List Nat :=
  (List.range (s.shardRows t)).map (sh * s.shardRows t + ·) |>.filter (· < s.tRows t)

/-- DEST has a slot for every row of the shard that moves. -/
def State.destFits (s : State) (t v dest : Nat) (rows : List Nat) : Bool :=
  (List.range 4).all fun c =>
    (rows.filter fun r => eClass (s.rawEntry t v 0 r) = c && eSlot (s.rawEntry t v 0 r) < s.tCap t c).length
      ≤ (s.freeSlots t v 0 dest c).length

/-- A record's copy carries poison (R308, R357). -/
def State.copyRecord (s : State) (src dst n : Nat) : State :=
  (linesOf dst n).foldl (fun u l =>
    let lo := max dst (64 * l)
    let hi := min (dst + n) (64 * l + 64)
    if s.poisonIn (src + (lo - dst)) (hi - lo) then u.spreadPoison l
    else u.writeOver lo (s.peek (src + (lo - dst)) (hi - lo))) s

/-- The MIGRATING bit of a row's entry (R293). -/
def State.markMig (s : State) (t v row : Nat) (on : Bool) : State :=
  let e := s.rawEntry t v 0 row
  if eMig e = on then s
  else s.setEntry t v 0 row (mkEntry (eClass e) (eBad e) (eHot e) on (eHome e) (eSlot e) (eHotSlot e))

/-- The migration of table `t` goes on as `g`. -/
def State.setMig (s : State) (t : Nat) (g : Migration) : State := { s with migs := SMap.ins s.migs t g }

/-- One row's slot on DEST allocated and its record copied. -/
def State.copyRow (s : State) (t v dest row : Nat) : State :=
  let e := s.rawEntry t v 0 row
  let k := s.takeSlot t v 0 dest (eClass e)
  match k.1, SMap.get? k.2.migs t with
  | some slot, some g =>
    let n := s.recSize t (eClass e)
    let u := (k.2.setMig t { g with slots := SMap.ins g.slots row slot }).touchAll (s.recAt t v 0 e) n
    u.copyRecord (s.recAt t v 0 e) (s.poolAt t v dest (eClass e) + slot * n) n
  | _, _ => k.2

/-- The proposal of a shard is taken up (Table 12-9). -/
def State.takeProposal (s : State) (t sh : Nat) : State :=
  if s.regB TD_PROPOSE_MOD.VALID (tdD t) && s.reg TD_PROPOSE.SHARD (tdD t) == sh
  then s.setReg TD_PROPOSE_MOD.VALID (tdD t) 0 else s

/-- The first part of TABLE_MIGRATE (R308): the start record, MIGRATING, the slots on DEST and the copies. A shard for
which DEST lacks slots is as it was. -/
def State.migrateStart (s : State) (tag t dest sh : Nat) : State :=
  let v := s.activeVer t
  let rows := s.shardRowList t sh
  let src := s.shardHome t v sh
  let s := s.takeProposal t sh
  let move := rows.filter fun r =>
    eHome (s.rawEntry t v 0 r) != dest && eSlot (s.rawEntry t v 0 r) < s.tCap t (eClass (s.rawEntry t v 0 r))
  if !s.destFits t v dest move then s.finishVia tag ERR_POOL_EXHAUSTED none none (s.tMods t)
  else
    let s := rows.foldl (fun u r => u.markMig t v r true) (s.setMig t ⟨v, src, dest, sh, [], move.length, false, false⟩)
    ((move.foldl (fun u r => u.copyRow t v dest r) s).settleBusy t).setProg tag [1]

/-- The migration of table `t` is over: MIGRATING is clear, and slots on DEST that no entry names are free. -/
def State.migrateOver (s : State) (t : Nat) (g : Migration) : State :=
  ({ ((s.shardRowList t g.shard).foldl (fun u r => u.markMig t g.ver r false) s) with
      migs := SMap.del s.migs t } : State).settleBusy t

/-- The journal page of a module's segment holds poison (R294, Table 15-4). -/
def State.journalBad (s : State) (t v m : Nat) : Bool := s.poisonIn (s.segAt t v m) 4096

/-- The commit record of a migration (the layout is the model's, log entry 146). -/
def migrateRec (g : Migration) : Bytes := 1 :: (leBytes 4 g.shard ++ leBytes 1 g.dest)

/-- The second part (R126): the commit record at the source, mirrored at the head. A poisoned start record rolls the
migration back (Table 15-4). -/
def State.migrateTake (s : State) (tag t : Nat) (g : Migration) : State :=
  if s.journalBad t g.ver g.src then (s.migrateOver t g).finish tag ABORT_RESET
  else (s.sendRecord t [g.src] (migrateRec g)).setMig t { g with recorded := true }

/-- One row's entry rewritten to its new HOME and SLOT; its old slot is free. -/
def State.rehome (s : State) (t : Nat) (g : Migration) (x : Nat × Nat) : State :=
  let e := s.rawEntry t g.ver 0 x.1
  if eSlot e ≥ s.tCap t (eClass e) then s
  else s.setEntry t g.ver 0 x.1 (mkEntry (eClass e) (eBad e) (eHot e) false g.dest x.2 (eHotSlot e))

/-- A commit group of the third part: up to 1,024 rows. -/
def State.migrateGroup (s : State) (t : Nat) (g : Migration) : State :=
  ((g.slots.take 1024).foldl (fun u x => u.rehome t g x) s).setMig t { g with slots := g.slots.drop 1024 }

/-- What is left of the third part (R126): every entry rewritten. -/
def State.migrateForward (s : State) (t : Nat) (g : Migration) : State :=
  (g.slots.foldl (fun u x => u.rehome t g x) s).migrateOver t g

/-- A command of a TABLE_MIGRATE that has begun: its second part, then a group of the third. -/
def State.migrateGo (s : State) (tag : Nat) (e : Sqe) : State :=
  let t := e.fld 32 1
  match SMap.get? s.migs t with
  | none => s
  | some g =>
    if !g.recorded then s.migrateTake tag t g
    else if g.slots.length ≤ 1024 then (s.migrateForward t g).finishVia tag OK (some g.total) none (s.tMods t)
    else s.migrateGroup t g

/-- TABLE_MIGRATE (R308): each further command of the operation carries out the next part (log entry 146). -/
def execTableMigrate (tag : Nat) (io : OpIo) (s : State) : Outcome State Fault Refusal :=
  tableAnswer s tag (s.goOn tag 0x0404 (fun e => (s.plant io.upsets).migrateGo tag e)
    (s.runOp tag 0x0404 s.tableIssuer
      (fun _ e => orDescriptor (e.fld 33 1 < 4 && e.rsv [(34, 2), (40, 24)])) fun _ e =>
        let t := e.fld 32 1
        let dest := e.fld 33 1
        let sh := e.fld 36 4
        (s.plant io.upsets).onTable tag t none fun s =>
          if s.tPlace t != 2 || s.migrating t || s.switching t then s.finish tag ERR_MODE
          else if sh ≥ s.shards t || !(s.tMods t).contains dest then s.finish tag ERR_DESCRIPTOR
          else if s.shardHome t (s.activeVer t) sh = dest then s.finish tag ERR_MODE
          else s.migrateStart tag t dest sh))

/-! ### Migrations and resets (R125, R126) -/

/-- The operation under way on table `t` with this opcode, which runs in phases. -/
def State.phasedOp (s : State) (opcode t : Nat) : Option Nat :=
  (s.ops.find? fun e => e.2.phase == .started && !e.2.prog.isEmpty && match e.2.sqe? with
    | some q => q.opcode == opcode && q.fld 32 1 == t
    | none => false).map (·.1)

/-- The operation of table `t`'s migration ends. -/
def State.endMigrateOp (s : State) (t status : Nat) (result : Option Nat) : State :=
  match s.phasedOp 0x0404 t with
  | some tag => s.finish tag status result
  | none => s

/-- An event on a migration, with the table's number, in the ring of its OWNER (Table 15-5). -/
def State.tellMigration (s : State) (code t : Nat) : State :=
  s.event (s.reg TD_CTRL.OWNER (tdD t)) { code := code, detail := some t }

/-- Module `m` of table `t`'s migration is reset or lost, and the head survives. -/
def State.cutMigration (s : State) (m : Nat) (e : Nat × Migration) : State :=
  if e.2.restart || (e.2.src != m && e.2.dest != m) then s
  else if e.2.recorded then
    (((s.migrateForward e.1 e.2).tellMigration 0x0510 e.1).endMigrateOp e.1 OK (some e.2.total)).spreadFrom s e.1
  else ((s.migrateOver e.1 e.2).endMigrateOp e.1 ABORT_RESET none).spreadFrom s e.1

/-- A module is reset or lost (R125, R126): its migrations are rolled back or completed forward. -/
def State.loseMigrations (s : State) (m : Nat) : State := s.migs.foldl (fun u e => u.cutMigration m e) s

/-- The reset of the instance that submitted a migration: before its commit record it rolls back (R125). One
that waits for a restart stays. -/
def State.dropMigration (s : State) (t : Nat) : State :=
  match SMap.get? s.migs t with
  | some g => if g.restart then s else if g.recorded then s.migrateForward t g else s.migrateOver t g
  | none => s

/-- At the restart of the head (R125, R126, Table 15-4), a migration whose commit record can be read is completed
forward; any other is rolled back. The event waits for its ring. -/
def State.resumeMigration (s : State) (t : Nat) (g : Migration) : State :=
  let go := g.recorded && !(s.journalBad t g.ver g.src && s.journalBad t g.ver 0)
  let u := if go then s.migrateForward t g else s.migrateOver t g
  { u with migTold := u.migTold ++ [(if go then 0x0510 else 0x0511, t)] }

def State.resumeMigrations (s : State) : State :=
  (s.migs.filter (·.2.restart)).foldl (fun u e => u.resumeMigration e.1 e.2) s

/-- The events of migrations settled at a restart, once the ring of instance `n` exists. -/
def State.tellMigrations (s : State) (n : Nat) : State :=
  let mine (e : Nat × Nat) : Bool := s.reg TD_CTRL.OWNER (tdD e.2) == n
  (s.migTold.filter mine).foldl (fun u e => u.tellMigration e.1 e.2) { s with migTold := s.migTold.filter fun e => !mine e }

/-! ## TABLE_ENABLE (R289) -/

/-- A member of the span, for a descriptor's MODULES: this module alone, or one not ABSENT or LOST. -/
def State.isSpanMember (s : State) (m : Nat) : Bool :=
  m == s.self || (s.reg SPAN_STATUS.STATE == 2 &&
    let st := s.reg SPAN_MEMBER_STATUS.STATE (4 * m)
    st != 0 && st != 4)

/-- A local range lies in usable memory and clear of the catalogue. -/
def localFits (off len : Nat) : Bool := off + len ≤ localEnd && (len = 0 || 0x10000 ≤ off)

/-- The segments, staging area and hot area of table `t` on module `m` fit. -/
def State.partFits (s : State) (t m : Nat) : Bool :=
  let base := m * moduleSpan
  ((s.tVersions t).all fun v => localFits (s.segAt t v m - base) (s.segEnd t v m - s.segAt t v m))
    && localFits ((s.stageArea t m).1 - base) (s.stageArea t m).2
    && (!s.regB TD_CTRL.HOTSET_EN (tdD t)
      || s.reg TD_HOT_BASE.OFFSET (tdD t) / 64 * 64 + s.reg TD_HOT_SLOTS.SLOTS (tdD t) * s.hotSlot t ≤ shelfSize)

/-- The descriptor can be enabled. -/
def State.tableSound (s : State) (t : Nat) : Bool :=
  let ms := s.tMods t
  !ms.isEmpty && s.tDim t != 0 && s.tDim t % (16 * ms.length) == 0 && ms.all s.isSpanMember && ms.all (s.partFits t)
    && (s.tPlace t != 0 || ms.length == 1)

/-- A write of 1 to EN of table `t`: a reloaded segment has no lost slots. -/
def State.tableEnable (s : State) (t : Nat) : State :=
  if s.regB TD_CTRL.EN (tdD t) then s
  else if !s.tableSound t then s.cfgErr .spn
  else
    let inTable (a : Nat) : Bool := (s.tVersions t).any fun v => (s.tMods t).any fun m =>
      within a (s.segAt t v m) (s.segEnd t v m - s.segAt t v m)
    let u := { s with lostSlots := s.lostSlots.filter fun e => !inTable e.1 }
    let u := (s.catLines t).foldl (fun u l => if u.isPoison l then u.freshLine l else u) u
    (u.setReg TD_CTRL.EN (tdD t) 1).spreadFrom s t

/-- TABLE_ENABLE (R289): the table that SPN_TD_SEL names. -/
def execTableEnable (s : State) : Outcome State Fault Refusal :=
  stepIf s.running (s.tableEnable (s.reg SPN_TD_SEL.TABLE)) s

/-! ## DIRECTORY_SEARCH (R361) -/

/-- The directory module and version whose segment holds a line. -/
def State.segmentOf (s : State) (t line : Nat) : Option (Nat × Nat) :=
  let a := 64 * line
  let k := a / moduleSpan
  ((s.tVersions t).find? fun v => within a (s.segAt t v k) (s.segEnd t v k - s.segAt t v k)).map fun v =>
    (v, if s.tPlace t = 2 then 0 else k)

/-- The line is in the directory of version `v` on `dm`. -/
def State.inDir (s : State) (t v dm line : Nat) : Bool := within (64 * line) (s.dirAt t v dm) (8 * s.tRows t)

/-- The search for the rows of a poisoned line. -/
def State.searchLine (s : State) (line : Nat) : State :=
  let s := { s with searches := s.searches.filter (· != line) }
  if !s.isPoison line then s
  else
    let o := s.ownerOf line
    match s.segmentOf o.2.1 line with
    | none => s
    | some (v, dm) => if s.inDir o.2.1 v dm line then s.spoilDir o.2.1 v dm line else s.markLine o.2.1 v dm line

/-- DIRECTORY_SEARCH (R361): a search that a scrub has made due. -/
def execDirectorySearch (line : Nat) (s : State) : Outcome State Fault Refusal :=
  stepIf (s.running && s.searches.contains line && !s.coresFailed)
    ((s.searchLine line).spreadFrom s (s.ownerOf line).2.1) s

/-! ## The scrubs -/

/-- The searches due for lines of a directory need no search: their rows are known (R310, R361). -/
def State.searchDirs (s : State) : State :=
  s.searches.foldl (fun u line =>
    let t := (u.ownerOf line).2.1
    match u.segmentOf t line with
    | some (v, dm) => if u.inDir t v dm line then (u.searchLine line).spreadFrom u t else u
    | none => u) s

/-- SCRUB_BURST (R358, R359): the scrubber's channel is up; `us` are the errors its lines show. -/
def execScrubBurst (c : Nat) (us : List Upset) (s : State) : Outcome State Fault Refusal :=
  unitStep c 8 (s.ready && s.regB ZRC_CTRL.SCRUB_EN && (s.dom (188 + c)).up) ((s.plant us).scrubBurst c).searchDirs s

/-- SCRUB_REGION (R360): its range may cover the catalogue. -/
def execScrubRegion (tag : Nat) (io : OpIo) (s : State) : Outcome State Fault Refusal :=
  answer s (s.runOp tag 0x0603 anyone
    (fun _ e =>
      let base := e.fld 40 8
      if !(e.fld 32 1 < 2 && e.rsv [(33, 3)] && base % 64 == 0 && e.fld 48 8 % 64 == 0) then some ERR_DESCRIPTOR
      else if base ≥ 2 ^ 63 then some ERR_ACCESS
      else match s.locate true base (e.fld 48 8) with
        | .inr c => some c
        | .inl _ => s.rangesErr (optRange (e.fld 56 8) (8 * e.fld 36 4)))
    fun _ e => ((s.plant io.upsets).scrubOp tag e).searchDirs)

end Sys2Proof.Machine
end

