-- ==== Sys2Proof/Machine/Experts.lean ====
section
/-!
DEFINITION. Expert routing (chapter 13): hardware queues and their segments, ROUTE, SCATTER, COMBINE,
EXPERT_STATS, the queue commands and LAYER_ENABLE.
-/
namespace Sys2Proof.Machine
open Host (Outcome)

/-! ## Layers (R312, R315) -/

def lyD (l : Nat) : Nat := selD l
def State.lyEn (s : State) (l : Nat) : Bool := s.regB LY_CTRL.EN (lyD l)
def State.lyExperts (s : State) (l : Nat) : Nat := s.reg LY_CTRL.NUM_EXPERTS (lyD l)
def State.lyCap (s : State) (l : Nat) : Nat := s.reg LY_CAP.CAP (lyD l)
def State.lyItem (s : State) (l : Nat) : Nat := s.reg LY_ITEM.ITEM_BYTES (lyD l)
def State.lyPerm (s : State) (l : Nat) : Bool := s.regB LY_CTRL.MODE (lyD l)
/-- MAP[e]. -/
def State.expMod (s : State) (l e : Nat) : Nat := bits (s.reg LY_MAP.MAP (lyD l + 4 * (e / 16))) (2 * (e % 16)) 2
/-- The queue of expert `e`. -/
def State.expHq (s : State) (l e : Nat) : Nat := s.reg LY_HQ_BASE.BASE (lyD l) + e
/-- The modules of a layer's map. -/
def State.lyMods (s : State) (l : Nat) : List Nat := ((List.range (s.lyExperts l)).map (s.expMod l)).eraseDups

/-- Queue `q` of module `m` belongs to layer `l`. -/
def State.lyOwns (s : State) (l m q : Nat) : Bool :=
  let b := s.reg LY_HQ_BASE.BASE (lyD l)
  s.lyEn l && b ≤ q && q < b + s.lyExperts l && s.expMod l (q - b) == m

/-- The capacity of a queue in items (R315). -/
def State.hqCap (s : State) (m q : Nat) : Nat :=
  if q < 512 then Config.hqCap m q
  else match (List.range 16).find? fun l => s.lyOwns l m q with
    | some l => s.lyCap l
    | none => 0

/-! ## Queues and segments (R313 to R317) -/

def hqReset : Hq := ⟨[], 0, 0, false, none⟩
def hqKey (m q : Nat) : Nat := 2048 * m + q
def State.hq (s : State) (m q : Nat) : Hq := SMap.get s.hqs (hqKey m q) hqReset
def State.setHq (s : State) (m q : Nat) (h : Hq) : State := { s with hqs := SMap.put s.hqs (hqKey m q) h hqReset }

/-- Items pushed and not popped. -/
def Hq.depth (h : Hq) : Nat := (h.segs.map (·.2.length)).sum - h.head

/-- The segments that module `m`'s queues hold. -/
def State.heldSegs (s : State) (m : Nat) : List Nat :=
  (s.hqs.filter fun e => e.1 / 2048 == m).flatMap fun e => e.2.segs.map (·.1)
/-- The segments of module `m` that SCATTERs have reserved and not yet taken (R320). -/
def State.reservedSegs (s : State) (m : Nat) : Nat :=
  (s.ops.map fun e => match e.2.phase, e.2.sqe? with
    | .started, some q => if q.opcode == 0x0502 then e.2.prog.getD (1 + m) 0 else 0
    | _, _ => 0).sum
def State.poolFree (s : State) (m : Nat) : Nat := s.poolSegs m - (s.heldSegs m).length - s.reservedSegs m
def State.freeSegs (s : State) (m : Nat) : List Nat :=
  (List.range (s.poolSegs m)).filter fun i => !(s.heldSegs m).contains i
def State.segBase (s : State) (m i : Nat) : Nat := s.poolBase m + segBytes * i

/-- The key under which a pool's low mark has been reported (R328). -/
def lowKey (m : Nat) : Nat := 2 ^ 32 + m

/-- Segments have come or gone: SEG_POOL_LOW once, again only after the free count has risen (R328). -/
def State.poolMark (s : State) (m : Nat) : State :=
  let low := s.reg AGT_POOL_LOW.LOW (selD m)
  let told := SMap.get s.armed (lowKey m) false
  if s.poolFree m > low then { s with armed := SMap.put s.armed (lowKey m) false false }
  else if low = 0 || told then s
  else ({ s with armed := SMap.put s.armed (lowKey m) true false } : State).pfEvent 0x0531 (some m)

/-- The header of segment `i` (Table 13-1): its successor, its items, the EPOCH. -/
def State.putHeader (s : State) (m next epoch : Nat) (seg : Nat × List Nat) : State :=
  s.writeOver (s.segBase m seg.1) (leBytes 8 next ++ leBytes 4 seg.2.length ++ leBytes 2 epoch ++ List.replicate 50 0)

/-- Room in a segment. -/
def segRoom (seg : Nat × List Nat) (n : Nat) : Bool := 64 + seg.2.sum + n ≤ segBytes

/-- Segment space for an item, claimed at its first word, and its words written beyond the visible tail (R313, R314);
none when no segment is free for it. -/
def State.claimItem (s : State) (m q : Nat) (item : Bytes) : Option State :=
  let h := s.hq m q
  let put (t : State) (seg : Nat × List Nat) : State := t.writeOver (t.segBase m seg.1 + 64 + seg.2.sum) item
  match h.segs.getLast? with
  | some seg =>
    if segRoom seg item.length then some (put s seg)
    else
      let r := s.pick (s.freeSegs m)
      r.1.map fun i => put (((r.2.putHeader m (s.segBase m i % moduleSpan) h.epoch seg).setHq m q
        { h with segs := h.segs ++ [(i, [])] }).poolMark m) (i, [])
  | none =>
    let r := s.pick (s.freeSegs m)
    r.1.map fun i => put ((r.2.setHq m q { h with segs := [(i, [])] }).poolMark m) (i, [])

/-- The item whose words stand beyond the tail becomes visible: its segment's header counts it. -/
def State.showItem (s : State) (m q n : Nat) : State :=
  let h := s.hq m q
  match h.segs.getLast? with
  | some seg =>
    let seg' := (seg.1, seg.2 ++ [n])
    (s.putHeader m 0 h.epoch seg').setHq m q { h with segs := h.segs.dropLast ++ [seg'], open_ := none }
  | none => s

/-- An item pushed into space that there is; none when no segment is free for it. -/
def State.pushItem (s : State) (m q : Nat) (item : Bytes) : Option State :=
  (s.claimItem m q item).map fun t => t.showItem m q item.length

/-- The addresses and sizes of a queue's items, oldest first. -/
def State.hqItems (s : State) (m q : Nat) : List (Nat × Nat) :=
  let h := s.hq m q
  (h.segs.flatMap fun seg => (List.range seg.2.length).map fun i =>
    (s.segBase m seg.1 + 64 + (seg.2.take i).sum, seg.2.getD i 0)).drop h.head

/-- The words of an open item stand in segment `seg`, the last of its queue. -/
def Hq.keeps (h : Hq) (seg : Nat × List Nat) : Bool :=
  match h.open_ with
  | some x => segRoom seg x.length
  | none => false

/-- The oldest item leaves; a segment goes back with its last item (R323), unless an open item stands in it. -/
def State.popItem (s : State) (m q : Nat) : State :=
  let h := s.hq m q
  match h.segs with
  | [] => s
  | seg :: rest =>
    if h.head + 1 = seg.2.length && !(rest.isEmpty && h.keeps seg) then (s.setHq m q { h with segs := rest, head := 0 }).poolMark m
    else s.setHq m q { h with head := h.head + 1 }

/-- Every item leaves. -/
def State.drainHq (s : State) (m q : Nat) : State :=
  let h := s.hq m q
  let segs := (h.segs.getLast?.filter h.keeps).toList
  (s.setHq m q { h with segs := segs, head := (segs.map (·.2.length)).sum }).poolMark m

/-- A flush (R317): the open item's end-of-item word, the one word of it still to come, is absorbed. -/
def State.flushHq (s : State) (m q : Nat) : State :=
  let h := s.hq m q
  let s := if h.open_.isSome then s.count AGT_HQ_DISCARD.COUNT (selD m) else s
  (s.setHq m q { segs := [], head := 0, epoch := (h.epoch + 1) % 2 ^ 16, changed := true, open_ := none }).poolMark m

/-- AGT_HQ_FLUSH.GO written (R317): it acts on the queue that AGT_HQ_SEL names, from 512 on. -/
def State.hqFlushWrite (s : State) : State :=
  let q := s.reg AGT_HQ_SEL.HQ
  if q < 512 then s.cfgErr .agt else s.flushHq (s.reg AGT_HQ_SEL.MODULE) q

/-- HQ_FLUSH (R317). -/
def execHqFlush (s : State) : Outcome State Fault Refusal := stepIf s.running s.hqFlushWrite s

/-- A pop (R316): what the consumer sees. -/
def State.hqPop (s : State) (m q : Nat) : State :=
  let h := s.hq m q
  if h.changed then (s.setHq m q { h with changed := false }).emit (.hqSignal m q .epochChanged)
  else match (s.hqItems m q).head? with
    | none => s.emit (.hqSignal m q .empty)
    | some x => (s.popItem m q).emit (.hqItem m q (s.peek x.1 x.2))

/-- An item refused stays open, its words where they stand. -/
def State.refuseItem (s : State) (m q : Nat) (item : Bytes) : State :=
  (s.setHq m q { s.hq m q with open_ := some item }).emit (.hqSignal m q .refused)

/-- A push on a given depth (Table 13-2): an item refused stays open. -/
def State.hqPush (s : State) (m q depth : Nat) (item : Bytes) : State :=
  match s.claimItem m q item with
  | none => s.refuseItem m q item
  | some t => if depth ≥ s.hqCap m q then t.refuseItem m q item else t.showItem m q item.length

/-- The signals after a push alone, a pop alone or both, from the depth before. -/
def State.hqSignals (s : State) (m q before : Nat) : State :=
  let cap := s.hqCap m q
  let after := (s.hq m q).depth
  if before = 0 && after = 1 then
    let s := s.emit (.hqSignal m q .notEmpty)
    if cap = 1 then s.emit (.hqSignal m q .full) else s
  else if before < cap && after = cap then s.emit (.hqSignal m q .full)
  else if before = cap && after < cap then s.emit (.hqSignal m q .notFull) else s

/-- An item is a whole number of 64 B words, and one segment can hold it; a refused item is presented again
as it was. -/
def State.hqItemOk (s : State) (m q : Nat) (item : Bytes) : Bool :=
  item.length % 64 == 0 && !item.isEmpty && item.length + 64 ≤ segBytes
    && ((s.hq m q).open_.isNone || (s.hq m q).open_ == some item)

/-- HQ_PUSH (R314, R316), with a pop in the same cycle or without. -/
def execHqPush (m q : Nat) (item : Bytes) (withPop : Bool) (s : State) : Outcome State Fault Refusal :=
  let d := (s.hq m q).depth
  let popped := if withPop then s.hqPop m q else s
  unitStep (2048 * m + q) 8192 (s.running && q < 2048 && s.activeModule m && s.hqItemOk m q item)
    ((popped.hqPush m q d item).hqSignals m q d) s

/-- HQ_POP (R316). -/
def execHqPop (m q : Nat) (s : State) : Outcome State Fault Refusal :=
  unitStep (2048 * m + q) 8192 (s.running && q < 2048 && s.activeModule m)
    ((s.hqPop m q).hqSignals m q (s.hq m q).depth) s

/-! ## Counters (R325) -/

def expD (l e : Nat) : Nat := selD (256 * l + e)

/-- The step counters of a layer cleared. -/
def State.clearStep (s : State) (l : Nat) : State :=
  (List.range (s.lyExperts l)).foldl (fun u e =>
    ((u.setReg AGT_EXP_ROUTED.COUNT (expD l e) 0).setReg AGT_EXP_ACCEPTED.COUNT (expD l e) 0).setReg
      AGT_EXP_DROPPED.COUNT (expD l e) 0) s

/-- A layer's new step. -/
def State.newStep (s : State) (l step : Nat) : State :=
  if s.reg LY_STEP.STEP (lyD l) = step then s else (s.clearStep l).setReg LY_STEP.STEP (lyD l) step

def State.countAccepted (s : State) (l e n : Nat) : State :=
  if n = 0 then s
  else (s.count AGT_EXP_ACCEPTED.COUNT (expD l e) n).count AGT_EXP_TOTAL.ACCEPTED (expD l e) n
def State.countDropped (s : State) (l e n : Nat) : State :=
  if n = 0 then s
  else
    let s := s.count AGT_EXP_DROPPED.COUNT (expD l e) n
    { s with expDropped := SMap.put s.expDropped (256 * l + e) ((SMap.get s.expDropped (256 * l + e) 0 + n) % 2 ^ 64) 0 }

/-! ## ROUTE (R318, R319) -/

/-- −∞. -/
def negInf32 : Nat := 0xFF800000
/-- A score, a NaN taken as −∞. -/
def scoreOf (x : Nat) : Nat := match f32.val x with | .nan => negInf32 | _ => x
/-- The K experts of largest selection value, in descending order, ties to the lower number: value and
expert. -/
def topK (k : Nat) (sel : List Nat) : List (Nat × Nat) :=
  let ins (x : Nat × Nat) : List (Nat × Nat) → List (Nat × Nat) := fun l =>
    (l.takeWhile fun y => !f32.lt y.1 x.1) ++ x :: l.dropWhile fun y => !f32.lt y.1 x.1
  ((sel.zip (List.range sel.length)).foldl (fun l x => ins x l) []).take k

/-- Softmax over a set, in the set's order (R318): each member's weight. -/
def softmax (xs : List Nat) : List Nat :=
  let m := match xs with | [] => zero32 | x :: t => t.foldl f32.larger x
  let es := xs.map fun x => exp32 (f32.sub x m)
  let total := sum32 es
  es.map fun e => f32.div e total

/-- A token's slots: expert (0xFFFF for none) and weight. -/
def routeToken (k : Nat) (all norm : Bool) (x bias : List Nat) : List (Nat × Nat) :=
  let raw := x.map scoreOf
  let sel := if bias.isEmpty then raw else List.zipWith (fun a b => scoreOf (f32.add a b)) raw bias
  let top := (topK k sel).filter (·.1 != negInf32)
  let set := if all then List.range raw.length else sortBy id (top.map (·.2))
  let ws := set.zip (softmax (set.map (at32 raw)))
  let w (e : Nat) : Nat := match ws.find? fun y => y.1 == e with | some y => y.2 | none => 0
  let sel := top.map fun y => (y.2, w y.2)
  let total := sum32 (sel.map (·.2))
  let sel := if norm then sel.map fun y => (y.1, f32.div y.2 total) else sel
  sel ++ List.replicate (k - sel.length) (0xFFFF, 0)

/-- A ROUTES entry. -/
def routeEntry (r : Nat × Nat) : Bytes := leBytes 2 r.1 ++ leBytes 2 0 ++ leBytes 4 r.2

/-- Routes written and counted. -/
def Mx.putRoutes (m : Mx) (tag : Nat) (e : Sqe) (routes : List (Nat × Nat)) : State :=
  let l := e.fld 32 1
  let m := m.wr (m.s.lin (e.fld 48 8)) (routes.flatMap routeEntry)
  let m := m.on fun s => (List.range (s.lyExperts l)).foldl (fun u x =>
    let n := (routes.filter fun r => r.1 == x).length
    if n = 0 then u else u.count AGT_EXP_ROUTED.COUNT (expD l x) n) (s.newStep l (e.fld 56 4))
  m.done tag OK (some (e.fld 36 4)) (some (if routes.any fun r => r.1 == 0xFFFF then 1 else 0))
    (modulesAt [(e.fld 40 8, 1), (e.fld 48 8, 1)])

/-- The score rows' element size and stride. -/
def scoreSize (e : Sqe) : Nat := if bit (e.fld 34 1) 2 then 2 else 4
def State.scoreStride (s : State) (e : Sqe) : Nat := roundUp (scoreSize e * s.lyExperts (e.fld 32 1)) 16

/-- ROUTE in hardware mode. -/
def State.routeOp (s : State) (tag : Nat) (e : Sqe) : State :=
  let l := e.fld 32 1
  let n := s.lyExperts l
  let st := s.scoreStride e
  let b := (mx s).rd (s.lin (e.fld 40 8)) (st * e.fld 36 4)
  let ba := s.reg64 LY_BIAS_LO.ADDR LY_BIAS_HI.ADDR (lyD l)
  let bias := if ba = 0 then ([], b.2) else b.2.rd32 ba n
  let score (t i : Nat) : Nat :=
    if bit (e.fld 34 1) 2 then bf16.conv f32 (fieldLE b.1 (st * t + 2 * i) 2) else f32At b.1 (st * t + 4 * i)
  let routes := (List.range (e.fld 36 4)).flatMap fun t =>
    routeToken (e.fld 33 1) (bit (e.fld 34 1) 0) (bit (e.fld 34 1) 1) ((List.range n).map (score t)) bias.1
  bias.2.putRoutes tag e routes

/-- The routes of an F7 reply, if they pass the check (R319). -/
def State.replyRoutes (s : State) (e : Sqe) (data : Bytes) : Option (List (Nat × Nat)) :=
  let n := e.fld 36 4 * e.fld 33 1
  let rs := (List.range n).map fun i => (fieldLE data (8 * i) 2, fieldLE data (8 * i + 4) 4)
  if data.length = 8 * n && rs.all fun r => r.1 == 0xFFFF || r.1 < s.lyExperts (e.fld 32 1) then some rs else none

/-- A routing operator's issuer: the layer's OWNER or PF 0. A layer out of range is a field error. -/
def State.layerIssuer (s : State) (o : Op) (e : Sqe) : Bool :=
  e.fld 32 1 ≥ 16 || o.inst == 0 || o.inst == s.reg LY_CTRL.OWNER (lyD (e.fld 32 1))

/-- The layer and Agate are enabled. -/
def State.layerReady (s : State) (l : Nat) : Bool := s.lyEn l && s.regB AGT_CTRL.EN

/-- ROUTE's fields. -/
def State.routeErr (s : State) (e : Sqe) : Option Nat :=
  let l := e.fld 32 1
  let k := e.fld 33 1
  let t := e.fld 36 4
  let ba := s.reg64 LY_BIAS_LO.ADDR LY_BIAS_HI.ADDR (lyD l)
  if !(l < 16 && 1 ≤ k && k ≤ 4 && k ≤ s.lyExperts l && e.fld 34 1 < 8 && 1 ≤ t && t ≤ 2 ^ 20
    && e.rsv [(35, 1), (60, 4)]) then some ERR_DESCRIPTOR
  else s.rangesErr ([(e.fld 40 8, s.scoreStride e * t), (e.fld 48 8, 8 * t * k)] ++ optRange ba (4 * s.lyExperts l))

/-- ROUTE (R318, R319). -/
def execRoute (tag : Nat) (io : OpIo) (s : State) : Outcome State Fault Refusal :=
  answer s (s.runOp tag 0x0501 s.layerIssuer (fun _ e => s.routeErr e) fun o e =>
    let s := s.plant io.upsets
    let l := e.fld 32 1
    if !s.layerReady l then s.finish tag ERR_MODE
    else
      let n := s.scoreStride e * e.fld 36 4
      let args := leBytes 4 0 ++ leBytes 4 (e.fld 36 4) ++ leBytes 2 (s.lyExperts l) ++ leBytes 1 (e.fld 33 1)
      s.item tag o e 7 args (s.peek (s.lin (e.fld 40 8)) n) fun s r => match r with
        | none => s.routeOp tag e
        | some (entry, data) => match s.replyRoutes e data with
          | some rs => (mx s).putRoutes tag e rs
          | none => (s.badReply tag entry 7).routeOp tag e)

/-! ## SCATTER (R320 to R322) -/

/-- One slot of ROUTES: token, slot, expert and weight. -/
structure RSlot where
  t : Nat
  s : Nat
  e : Nat
  w : Nat
deriving DecidableEq, Repr

/-- The slots of ROUTES in ascending (token, slot) order. -/
def slotsOf (b : Bytes) (t k : Nat) : List RSlot :=
  (List.range (t * k)).map fun i => ⟨i / k, i % k, fieldLE b (8 * i) 2, fieldLE b (8 * i + 4) 4⟩

/-- The slots of one expert, up to its capacity. -/
def acceptedOf (slots : List RSlot) (e cap : Nat) : List RSlot := (slots.filter (·.e == e)).take cap

/-- The bytes that an item takes. -/
def State.itemSize (s : State) (l : Nat) : Nat := roundUp (16 + s.lyItem l) 64
def State.itemsPerSeg (s : State) (l : Nat) : Nat := (segBytes - 64) / s.itemSize l

/-- Segments that module `m` must supply. -/
def State.segsNeeded (s : State) (l m : Nat) (slots : List RSlot) : Nat :=
  (((List.range (s.lyExperts l)).filter fun e => s.expMod l e == m).map fun e =>
    ceilDiv (acceptedOf slots e (s.lyCap l)).length (s.itemsPerSeg l)).sum

/-- PREFIX: items accepted by the experts below each. -/
def prefixes (counts : List Nat) : List Nat := (List.range (counts.length + 1)).map fun e => (counts.take e).sum

/-- A token item (Table 13-1). -/
def State.tokenItem (s : State) (l step : Nat) (r : RSlot) (data : Bytes) : Bytes :=
  byteSlice (leBytes 4 r.t ++ leBytes 1 r.s ++ leBytes 1 s.self ++ leBytes 2 0 ++ leBytes 4 r.w ++ leBytes 4 step
    ++ byteSlice data 0 (s.lyItem l)) 0 (s.itemSize l)

/-- INV: the output row of each slot. -/
def invOf (slots : List RSlot) (pre : List Nat) (acc : List (List RSlot)) : List Nat :=
  slots.map fun r => match (acc.getD r.e []).findIdx? (· == r) with
    | some j => pre.getD r.e 0 + j
    | none => noRow

/-- The layer's queues flushed by FLUSH_FIRST: their new epoch begins with this SCATTER. -/
def State.flushLayer (s : State) (l : Nat) : State :=
  (List.range (s.lyExperts l)).foldl (fun u e => u.flushHq (u.expMod l e) (u.expHq l e)) s
def State.seenLayer (s : State) (l : Nat) : State :=
  (List.range (s.lyExperts l)).foldl (fun u e =>
    u.setHq (u.expMod l e) (u.expHq l e) { u.hq (u.expMod l e) (u.expHq l e) with changed := false }) s

/-- A SCATTER between its commands: whether it has met poison, a flush, or dropped slots, the segments still reserved by
module, STEP, the items in all, the EPOCH of each expert's queue, and the accepted slots still to push, by expert. -/
structure ScatterRun where
  bad : Bool
  cut : Bool
  dropped : Bool
  res : List Nat
  step : Nat
  total : Nat
  epochs : List Nat
  slots : List RSlot
deriving DecidableEq, Repr

/-- As an operation's progress; the reserved segments of module `m` stand at place `1 + m`. -/
def encodeScatter (r : ScatterRun) : List Nat :=
  [1 + b2n r.bad + 2 * b2n r.cut + 4 * b2n r.dropped] ++ r.res ++ [r.step, r.total, r.epochs.length] ++ r.epochs
    ++ r.slots.flatMap fun x => [x.t, x.s, x.e, x.w]

def decodeScatter (l : List Nat) : ScatterRun :=
  let f := l.headD 0 - 1
  let n := l.getD 7 0
  let x := l.drop (8 + n)
  ⟨bit f 0, bit f 1, bit f 2, (l.drop 1).take 4, l.getD 5 0, l.getD 6 0, (l.drop 8).take n,
   (List.range (x.length / 4)).map fun i => ⟨at32 x (4 * i), at32 x (4 * i + 1), at32 x (4 * i + 2), at32 x (4 * i + 3)⟩⟩

/-- The end of a SCATTER (R322, R329). -/
def State.scatterEnd (s : State) (tag l : Nat) (r : ScatterRun) : State :=
  if r.cut then s.finish tag (if r.bad then ERR_POISON else ABORT_FLUSH) none (some 0x8000)
  else (⟨s, r.bad⟩ : Mx).done tag (if r.dropped then OK_WITH_DROPS else OK) (some r.total)
    (some (if r.dropped then 1 else 0)) (s.lyMods l)

/-- Items pushed to one expert's queue, their data read from `x` on; after a flush of the queue they go to the discard
sink (R329). -/
def Mx.scatterExpert (m : Mx) (l step x e : Nat) (flushed : Bool) (items : List RSlot) : Mx :=
  if flushed then m.on fun s =>
    s.count AGT_HQ_DISCARD.COUNT (selD (s.expMod l e)) (items.length * (s.itemSize l / 64))
  else items.foldl (fun u r =>
    let d := u.rd (x + r.t * u.s.lyItem l) (u.s.lyItem l)
    d.2.on fun s => (s.pushItem (s.expMod l e) (s.expHq l e) (s.tokenItem l step r d.1)).getD s) m

/-- Pass 2 of a SCATTER: the items of the next expert, whose reserved segments it takes. A layer disabled meanwhile ends
it (Table 13-6a), and so does a module lost (R330). -/
def State.scatterGo (s : State) (tag : Nat) (e : Sqe) (r : ScatterRun) : State :=
  let l := e.fld 32 1
  match r.slots with
  | [] => s.scatterEnd tag l r
  | x :: _ =>
    if !s.layerReady l then s.finish tag ERR_MODE
    else if (s.lyMods l).any fun m => !s.activeModule m then s.finish tag ERR_SPAN_LOST
    else
      let items := r.slots.takeWhile (·.e == x.e)
      let k := s.expMod l x.e
      let flushed := (s.hq k (s.expHq l x.e)).epoch != r.epochs.getD x.e 0
      let r : ScatterRun := { r with
        res := r.res.modify k (· - ceilDiv items.length (s.itemsPerSeg l)), cut := r.cut || flushed,
        slots := r.slots.dropWhile (·.e == x.e) }
      let m := (mx (s.setProg tag (encodeScatter r))).scatterExpert l r.step (s.lin (e.fld 40 8)) x.e flushed items
      let r : ScatterRun := { r with bad := r.bad || m.bad }
      let s := m.s.countAccepted l x.e items.length
      if r.slots.isEmpty then s.scatterEnd tag l r else s.setProg tag (encodeScatter r)

/-- Pass 1: the slots of each expert, its capacity and the segments they need, reserved all at once; the outputs. -/
def Mx.scatterOp (m : Mx) (tag : Nat) (e : Sqe) (p : Bytes) : State :=
  let l := e.fld 32 1
  let k := e.fld 33 1
  let t := e.fld 36 4
  let b := m.rd (m.s.lin (e.fld 48 8)) (8 * t * k)
  let slots := slotsOf b.1 t k
  let n := m.s.lyExperts l
  let acc := (List.range n).map fun x => acceptedOf slots x (m.s.lyCap l)
  let short := (m.s.lyMods l).filter fun k => m.s.segsNeeded l k slots > m.s.poolFree k
  match sortBy id short with
  | k :: _ =>
    let s := b.2.s.event (m.s.reg LY_CTRL.OWNER (lyD l)) { code := 0x0530, detail := some k }
    (⟨s.count AGT_POOL_EMPTY_CNT.COUNT, b.2.bad⟩ : Mx).done tag ERR_POOL_EXHAUSTED
      (some (m.s.segsNeeded l k slots - m.s.poolFree k)) (some k) []
  | [] =>
    let step := fieldLE p 16 4
    let m := b.2.on fun s => s.newStep l step
    let pre := prefixes (acc.map List.length)
    let m := m.wr (m.s.lin (fieldLE p 0 8)) (words32 pre)
    let m := if m.s.lyPerm l then m.wr (m.s.lin (fieldLE p 8 8)) (words32 (invOf slots pre acc)) else m
    let drops (x : Nat) : Nat := (slots.filter (·.e == x)).length - (acc.getD x []).length
    let s := (List.range n).foldl (fun u x => u.countDropped l x (drops x)) m.s
    let r : ScatterRun := ⟨m.bad, false, (List.range n).any fun x => drops x != 0,
      (List.range 4).map fun k => s.segsNeeded l k slots, step, pre.getLastD 0,
      (List.range n).map fun x => (s.hq (s.expMod l x) (s.expHq l x)).epoch, acc.flatten⟩
    ((s.lyMods l).foldl State.poolMark (s.setProg tag (encodeScatter r))).scatterGo tag e r

/-- The field checks that SCATTER and COMBINE share. -/
def State.scatterFields (s : State) (e : Sqe) (ok : Bool) : Option Nat :=
  let l := e.fld 32 1
  let k := e.fld 33 1
  let t := e.fld 36 4
  if !(l < 16 && 1 ≤ k && k ≤ 4 && k ≤ s.lyExperts l && 1 ≤ t && t ≤ 2 ^ 20 && ok) then some ERR_DESCRIPTOR
  else s.rangesErr [(e.fld 56 8, 64)]

/-- A layer operator past its fields: the layer, its modules, its parameter block and ranges. -/
def State.onLayer (s : State) (tag : Nat) (e : Sqe) (blockOk : Bytes → Bool) (ranges : Bytes → List (Nat × Nat))
    (k : State → Bytes → State) : State :=
  let l := e.fld 32 1
  if !s.layerReady l then s.finish tag ERR_MODE
  else if (s.lyMods l).any fun m => !s.activeModule m then s.finish tag ERR_SPAN_LOST
  else
    let r := s.read (s.lin (e.fld 56 8)) 64
    if r.2.1 then r.2.2.finish tag ERR_POISON
    else if !blockOk r.1 then r.2.2.finish tag ERR_DESCRIPTOR
    else match r.2.2.rangesErr (ranges r.1) with
      | some c => r.2.2.finish tag c
      | none => k r.2.2 r.1

/-- Some queue of the layer holds an item. -/
def State.layerBusy (s : State) (l : Nat) : Bool :=
  (List.range (s.lyExperts l)).any fun e => (s.hq (s.expMod l e) (s.expHq l e)).depth != 0

/-- The progress of the operation under `tag`. -/
def State.progOf (s : State) (tag : Nat) : List Nat := ((s.op? tag).map (·.prog)).getD []

/-- SCATTER (R320 to R322): pass 1 and the first expert's items; each further command of the operation pushes those of
the next expert (log entry 146). -/
def execScatter (tag : Nat) (io : OpIo) (s : State) : Outcome State Fault Refusal :=
  answer s (s.goOn tag 0x0502 (fun e => (s.plant io.upsets).scatterGo tag e (decodeScatter (s.progOf tag))) (s.runOp tag 0x0502
    s.layerIssuer (fun _ e => s.scatterFields e (e.fld 34 1 < 2 && e.rsv [(35, 1)])) fun _ e =>
      let s := s.plant io.upsets
      let l := e.fld 32 1
      let t := e.fld 36 4
      let k := e.fld 33 1
      s.onLayer tag e
        (fun p => allZero (byteSlice p 20 44) && (s.lyPerm l || fieldLE p 8 8 == 0))
        (fun p => [(e.fld 40 8, t * s.lyItem l), (e.fld 48 8, 8 * t * k), (fieldLE p 0 8, 4 * (s.lyExperts l + 1))]
          ++ if s.lyPerm l then [(fieldLE p 8 8, 4 * t * k)] else [])
        fun s p =>
          if bit (e.fld 34 1) 0 then (mx ((s.flushLayer l).seenLayer l)).scatterOp tag e p
          else if s.layerBusy l then s.finish tag ERR_MODE
          else (mx s).scatterOp tag e p))

/-! ## COMBINE (R323, R324) -/

/-- A slot's weight and output row. -/
structure CSlot where
  t : Nat
  s : Nat
  w : Nat
  row : Nat
deriving DecidableEq, Repr

/-- TAG: the slots that expert `e`'s items name. -/
def Mx.tagItems (m : Mx) (l e pre : Nat) : List CSlot × Mx :=
  let items := m.s.hqItems (m.s.expMod l e) (m.s.expHq l e)
  ((List.range items.length).zip items).foldl (fun (r : List CSlot × Mx) x =>
    let b := r.2.rd x.2.1 16
    (r.1 ++ [⟨fieldLE b.1 0 4, fieldLE b.1 4 1, fieldLE b.1 8 4, pre + x.1⟩], b.2)) ([], m)

/-- PERM: the slots that INV and ROUTES name. -/
def Mx.permSlots (m : Mx) (inv routes t k : Nat) : List CSlot × Mx :=
  let a := m.rd32 inv (t * k)
  let b := a.2.rd (m.s.lin routes) (8 * t * k)
  ((List.range (t * k)).filterMap fun i =>
    let row := at32 a.1 i
    if row = noRow then none else some ⟨i / k, i % k, fieldLE b.1 (8 * i + 4) 4, row⟩, b.2)

/-- The sum for one token, in slot order. -/
def Mx.combineToken (m : Mx) (base stride ch : Nat) (b16 : Bool) (slots : List CSlot) : List Nat × Mx :=
  let r := slots.foldl (fun (r : List (Nat × List Nat) × Mx) x =>
    let b := r.2.rd (base + x.row * stride) ((if b16 then 2 else 4) * ch)
    (r.1 ++ [(x.w, (List.range ch).map fun j =>
      if b16 then bf16.conv f32 (fieldLE b.1 (2 * j) 2) else f32At b.1 (4 * j))], b.2)) ([], m)
  ((List.range ch).map fun j => sum32 (r.1.map fun x => f32.mul x.1 (at32 x.2 j)), r.2)

/-- The slots of token `t`, in slot order. -/
def tokenSlots (l : List CSlot) (t k : Nat) : List CSlot :=
  (List.range k).flatMap fun s => l.filter fun x => x.t == t && x.s == s

/-- A COMBINE between its commands: whether it has met poison, the expert whose queue comes next, CH, PREFIX, and the
slots found so far. -/
structure CombineRun where
  bad : Bool
  next : Nat
  ch : Nat
  pre : List Nat
  slots : List CSlot
deriving DecidableEq, Repr

/-- As an operation's progress. -/
def encodeCombine (r : CombineRun) : List Nat :=
  [1 + b2n r.bad, r.next, r.ch, r.pre.length] ++ r.pre ++ r.slots.flatMap fun x => [x.t, x.s, x.w, x.row]

def decodeCombine (l : List Nat) : CombineRun :=
  let n := l.getD 3 0
  let x := l.drop (4 + n)
  ⟨l.headD 0 == 2, l.getD 1 0, l.getD 2 0, (l.drop 4).take n,
   (List.range (x.length / 4)).map fun i => ⟨at32 x (4 * i), at32 x (4 * i + 1), at32 x (4 * i + 2), at32 x (4 * i + 3)⟩⟩

/-- The rows of Y (R324). -/
def State.combineEnd (s : State) (tag : Nat) (e : Sqe) (r : CombineRun) : State :=
  let ob := bit (e.fld 34 1) 0
  let b16 := e.fld 35 1 == 1
  let os := roundUp ((if ob then 2 else 4) * r.ch) 16
  let m := (List.range (e.fld 36 4)).foldl (fun (u : Mx) x =>
    let y := u.combineToken (u.s.lin (e.fld 40 8)) (roundUp ((if b16 then 2 else 4) * r.ch) 16) r.ch b16
      (tokenSlots r.slots x (e.fld 33 1))
    y.2.wr (y.2.s.lin (e.fld 48 8) + x * os) (y.1.flatMap (outElem ob))) ⟨s, r.bad⟩
  m.done tag OK (some (e.fld 36 4)) (some 0) (m.s.lyMods (e.fld 32 1))

/-- The queue of expert `x`: its slots in TAG mode, and, without KEEP, its items popped. -/
def State.combineQueue (s : State) (l x : Nat) (keep : Bool) (r : CombineRun) : CombineRun × State :=
  let y := if s.lyPerm l then ([], mx s) else (mx s).tagItems l x (at32 r.pre x)
  ({ r with bad := r.bad || y.2.bad, next := x + 1, slots := r.slots ++ y.1 },
   if keep then y.2.s else y.2.s.drainHq (s.expMod l x) (s.expHq l x))

/-- The next expert from `x` on whose queue holds an item or answers EPOCH_CHANGED. -/
def State.nextExpert (s : State) (l x : Nat) : Option Nat :=
  (List.range (s.lyExperts l)).find? fun e => x ≤ e
    && ((s.hq (s.expMod l e) (s.expHq l e)).depth != 0 || (s.hq (s.expMod l e) (s.expHq l e)).changed)

/-- One queue of a COMBINE, and Y after the last one. A pop that returns EPOCH_CHANGED ends it (R329); so does a layer
disabled meanwhile (Table 13-6a), and a module lost (R330). -/
def State.combineGo (s : State) (tag : Nat) (e : Sqe) (r : CombineRun) : State :=
  let l := e.fld 32 1
  match s.nextExpert l r.next with
  | none => s.combineEnd tag e r
  | some x =>
    let h := s.hq (s.expMod l x) (s.expHq l x)
    if !s.layerReady l then s.finish tag ERR_MODE
    else if (s.lyMods l).any fun m => !s.activeModule m then s.finish tag ERR_SPAN_LOST
    else if h.changed then
      (s.setHq (s.expMod l x) (s.expHq l x) { h with changed := false }).finish tag ABORT_FLUSH none (some 0x8000)
    else
      let q := s.combineQueue l x false r
      if (q.2.nextExpert l q.1.next).isNone then q.2.combineEnd tag e q.1 else q.2.setProg tag (encodeCombine q.1)

/-- COMBINE's beginning: PREFIX in TAG mode, INV and ROUTES in PERM mode. With KEEP nothing is popped, and it is done
at once. -/
def Mx.combineOp (m : Mx) (tag : Nat) (e : Sqe) (p : Bytes) : State :=
  let l := e.fld 32 1
  let n := m.s.lyExperts l
  let ch := fieldLE p 24 2
  let pre := if m.s.lyPerm l then ([], m) else m.rd32 (fieldLE p 0 8) (n + 1)
  let sl := if m.s.lyPerm l then pre.2.permSlots (fieldLE p 8 8) (fieldLE p 16 8) (e.fld 36 4) (e.fld 33 1)
    else ([], pre.2)
  let r : CombineRun := ⟨sl.2.bad, 0, ch, pre.1, sl.1⟩
  if bit (e.fld 34 1) 1 then
    let y := (List.range n).foldl (fun (a : CombineRun × State) x => a.2.combineQueue l x true a.1) (r, sl.2.s)
    y.2.combineEnd tag e y.1
  else sl.2.s.combineGo tag e r

/-- COMBINE (R323, R324): one expert's queue a command of the operation, and Y with the last one (log entry 146). -/
def execCombine (tag : Nat) (io : OpIo) (s : State) : Outcome State Fault Refusal :=
  answer s (s.goOn tag 0x0503 (fun e => (s.plant io.upsets).combineGo tag e (decodeCombine (s.progOf tag)))
    (s.runOp tag 0x0503 s.layerIssuer
      (fun _ e => s.scatterFields e (e.fld 34 1 < 4 && (e.fld 35 1 == 1 || e.fld 35 1 == 4))) fun _ e =>
        let s := s.plant io.upsets
        let l := e.fld 32 1
        let t := e.fld 36 4
        let k := e.fld 33 1
        let perm := s.lyPerm l
        s.onLayer tag e
          (fun p => allZero (byteSlice p 26 38) && 16 ≤ fieldLE p 24 2 && fieldLE p 24 2 ≤ 2048
            && (perm || fieldLE p 8 8 == 0))
          (fun p =>
            let pre := fieldLE p 0 8
            let n := s.lyExperts l
            let es := if e.fld 35 1 = 1 then 2 else 4
            let rows := leNat (s.peek (s.lin pre + 4 * n) 4)
            [(pre, 4 * (n + 1)), (e.fld 40 8, rows * roundUp (es * fieldLE p 24 2) 16),
             (e.fld 48 8, t * roundUp ((if bit (e.fld 34 1) 0 then 2 else 4) * fieldLE p 24 2) 16)]
              ++ if perm then [(fieldLE p 8 8, 4 * t * k), (fieldLE p 16 8, 8 * t * k)] else [])
          fun s p => (mx s).combineOp tag e p))

/-! ## EXPERT_STATS (R326) -/

/-- A layer's record of one expert. -/
def State.expertRecord (s : State) (l e : Nat) : Bytes :=
  leBytes 4 (s.reg AGT_EXP_ROUTED.COUNT (expD l e)) ++ leBytes 4 (s.reg AGT_EXP_ACCEPTED.COUNT (expD l e))
    ++ leBytes 4 (s.reg AGT_EXP_DROPPED.COUNT (expD l e)) ++ leBytes 4 0
    ++ leBytes 8 (s.reg AGT_EXP_TOTAL.ACCEPTED (expD l e)) ++ leBytes 8 (SMap.get s.expDropped (256 * l + e) 0)

/-- The header and the records. -/
def State.expertStats (s : State) (l : Nat) : Bytes :=
  leBytes 1 l ++ leBytes 3 0 ++ leBytes 4 (s.reg LY_STEP.STEP (lyD l)) ++ leBytes 2 (s.lyExperts l) ++ leBytes 6 0
    ++ leBytes 8 s.dtimeNow ++ List.replicate 40 0 ++ (List.range (s.lyExperts l)).flatMap (s.expertRecord l)

/-- EXPERT_STATS (R326). -/
def execExpertStats (tag : Nat) (io : OpIo) (s : State) : Outcome State Fault Refusal :=
  answer s (s.runOp tag 0x0504 s.layerIssuer
    (fun _ e =>
      if !(e.fld 32 1 < 16 && e.fld 33 1 < 2 && e.rsv [(34, 14), (56, 8)]) then some ERR_DESCRIPTOR
      else s.rangesErr [(e.fld 48 8, 64 + 32 * s.lyExperts (e.fld 32 1))]) fun _ e =>
      let s := s.plant io.upsets
      let l := e.fld 32 1
      if !s.layerReady l then s.finish tag ERR_MODE
      else
        let b := s.expertStats l
        let s := if bit (e.fld 33 1) 0 then s.clearStep l else s
        ((mx s).wr (s.lin (e.fld 48 8)) b).done tag OK none none (modulesAt [(e.fld 48 8, 64)]))

/-! ## LAYER_ENABLE (R327) -/

/-- Layer `l`'s descriptor can be enabled. -/
def State.layerSound (s : State) (l : Nat) : Bool :=
  let b := s.reg LY_HQ_BASE.BASE (lyD l)
  let n := s.lyExperts l
  let ib := s.lyItem l
  1 ≤ n && n ≤ 256 && 512 ≤ b && b + n ≤ 2048 && 16 ≤ ib && ib ≤ 4080 && ib % 16 == 0 && 1 ≤ s.lyCap l
    && (s.lyMods l).all s.isSpanMember
    && !((List.range n).any fun e => (List.range 16).any fun k => k != l && s.lyOwns k (s.expMod l e) (b + e))

/-- A write of 1 to EN of layer `l`. -/
def State.layerEnable (s : State) (l : Nat) : State :=
  if s.lyEn l then s else if !s.layerSound l then s.cfgErr .agt else s.setReg LY_CTRL.EN (lyD l) 1

/-- LAYER_ENABLE (R327): the layer that AGT_LAYER_SEL names. -/
def execLayerEnable (s : State) : Outcome State Fault Refusal :=
  stepIf s.running (s.layerEnable (s.reg AGT_LAYER_SEL.LAYER)) s

end Sys2Proof.Machine
end

