-- ==== Sys2Proof/Machine/Facets.lean ====
section
/-!
DEFINITION. The facets (chapters 11 and 17): tensors dense and RLZ, weights, the datapaths, the facet
operators' checks and tiles, and TILE_COMPLETE, which computes a tile and writes its rows.
-/
namespace Sys2Proof.Machine
open Host (Outcome)

/-! ## Tensors (Table 11-9) -/

/-- A tensor descriptor. TYPE: 0 INT8, 1 BF16, 2 FP16, 3 INT32, 4 FP32. -/
structure Tensor where
  base : Nat
  rows : Nat
  ch : Nat
  ty : Nat
  fmt : Nat
  index : Nat
  cap : Nat
  rsv : Nat
deriving DecidableEq, Repr

def tensorAt (b : Bytes) (o : Nat) : Tensor :=
  ⟨fieldLE b o 8, fieldLE b (o + 8) 4, fieldLE b (o + 12) 2, fieldLE b (o + 14) 1, fieldLE b (o + 15) 1,
   fieldLE b (o + 16) 8, fieldLE b (o + 24) 4, fieldLE b (o + 28) 4⟩

def elemSize (ty : Nat) : Nat := [1, 2, 2, 4, 4].getD ty 4
def Tensor.es (t : Tensor) : Nat := elemSize t.ty
def Tensor.rlz (t : Tensor) : Bool := t.fmt == 1
def Tensor.stride (t : Tensor) : Nat := roundUp (t.ch * t.es) 16
def Tensor.ok (t : Tensor) : Bool := t.ty ≤ 4 && t.fmt ≤ 1 && t.rsv == 0 && 1 ≤ t.ch
/-- The most bytes of an encoded row before padding (R281). -/
def Tensor.rlzMax (t : Tensor) : Nat := (2 + t.es) * t.ch / 2 + 4
/-- The ranges that a tensor names. -/
def Tensor.ranges (t : Tensor) (out : Bool) : List (Nat × Nat) :=
  if t.rlz then [(t.index, 4 * t.rows), (t.base, if out then t.cap else 0)] else [(t.base, t.rows * t.stride)]

/-- An element's value in FP32. -/
def elemF32 (ty raw : Nat) : Nat :=
  match ty with
  | 0 => f32.ofInt (signed 8 raw)
  | 1 => bf16.conv f32 raw
  | 2 => f16.conv f32 raw
  | 3 => f32.ofInt (signed 32 raw)
  | _ => raw

/-- An FP32 value in an output type (R272): rounded, integers saturating. -/
def elemOf (ty v : Nat) : Nat :=
  match ty with
  | 0 => unsigned 8 (f32.toInt v (-128) 127)
  | 1 => f32.conv bf16 v
  | 2 => f32.conv f16 v
  | 3 => unsigned 32 (f32.toInt v (-(2 ^ 31)) (2 ^ 31 - 1))
  | _ => v

/-- Elements of a run of bytes. -/
def elemsOf (b : Bytes) (es n : Nat) : List Nat := (List.range n).map fun i => fieldLE b (es * i) es

/-! ## RLZ (R280, R286) -/

/-- A row decoded from its segments: none when it describes too much or runs past its bytes. -/
def rlzDecode (es ch : Nat) : Nat → Bytes → List Nat → Option (List Nat)
  | 0, _, _ => none
  | k + 1, b, acc =>
    if acc.length = ch then some acc
    else if b.length < 2 then none
    else
      let z := fieldLE b 0 1
      let l := fieldLE b 1 1
      if z = 0 && l = 0 then some (acc ++ List.replicate (ch - acc.length) 0)
      else if acc.length + z + l > ch || b.length < 2 + l * es then none
      else rlzDecode es ch k (b.drop (2 + l * es)) (acc ++ List.replicate z 0 ++ elemsOf (b.drop 2) es l)

/-- A row encoded in the longest runs of zeros and of other elements. -/
def rlzEncode (es : Nat) : Nat → List Nat → Bytes
  | 0, _ => []
  | k + 1, xs =>
    if xs.isEmpty then []
    else if xs.all (· == 0) then [0, 0]
    else
      let z := min 255 (xs.takeWhile (· == 0)).length
      let rest := xs.drop z
      let l := min 255 (rest.takeWhile (· != 0)).length
      leBytes 1 z ++ leBytes 1 l ++ (rest.take l).flatMap (leBytes es) ++ rlzEncode es k (rest.drop l)

/-- A row of an RLZ tensor: its elements, and whether it was in error. -/
def Mx.rlzRow (m : Mx) (t : Tensor) (r : Nat) : List Nat × Bool × Mx :=
  let i := m.rd (m.s.lin t.index + 4 * r) 4
  let n := leNat i.1
  if n = 0xFFFFFFFF then (List.replicate t.ch 0, false, i.2)
  else match i.2.s.locate false (t.base + 16 * n) t.rlzMax with
    | .inr _ => (List.replicate t.ch 0, true, i.2)
    | .inl a =>
      let b := i.2.rd a t.rlzMax
      match rlzDecode t.es t.ch (t.rlzMax + 1) b.1 [] with
      | some xs => (xs, false, b.2)
      | none => (List.replicate t.ch 0, true, b.2)

/-- Row `r` of an input tensor as element patterns; one beyond the tensor reads as zero (R279). -/
def Mx.row (m : Mx) (t : Tensor) (r : Nat) : List Nat × Bool × Mx :=
  if r ≥ t.rows then (List.replicate t.ch 0, false, m)
  else if t.rlz then
    let x := m.rlzRow t r
    (x.1, x.2.1, if x.2.1 then x.2.2.on fun s => s.count FCT_RLZ_ERR.COUNT else x.2.2)
  else
    let b := m.rd (m.s.lin t.base + r * t.stride) (t.ch * t.es)
    (elemsOf b.1 t.es t.ch, false, b.2)

/-! ## Parameter blocks (Tables 11-8, 17-4) -/

def pIn (p : Bytes) : Tensor := tensorAt p 0
def pOut (p : Bytes) : Tensor := tensorAt p 32
def pWeights (p : Bytes) : Nat := fieldLE p 64 8
def pScale (p : Bytes) : Nat := fieldLE p 72 8
def pKey (p : Bytes) : Nat := fieldLE p 80 4
def pWfmt (p : Bytes) : Nat := fieldLE p 84 1
def pRelu (p : Bytes) : Bool := fieldLE p 85 1 == 1
def pCout (p : Bytes) : Nat := fieldLE p 86 2
def pIn2 (p : Bytes) : Tensor := tensorAt p 88
def pWstride (p : Bytes) : Nat := fieldLE p 88 8
def pGroups (p : Bytes) : Nat := fieldLE p 96 4
def pEps (p : Bytes) : Nat := fieldLE p 88 4
def pHeadDim (p : Bytes) : Nat := fieldLE p 88 2
def pNwin (p : Bytes) : Nat := fieldLE p 92 4
def pWinRows (p : Bytes) : Nat := fieldLE p 96 8
def pQkScale (p : Bytes) : Nat := fieldLE p 104 4

/-- Input channels a cycle (Table 11-6). -/
def groupOf (p : Bytes) : Nat :=
  let g := if (pIn p).ty = 0 then 32 else 16
  if pWfmt p = 0 then g else 2 * g

/-- Output-channel blocks. -/
def blocks (p : Bytes) : Nat := ceilDiv (pCout p) 32

/-! ## Weights (R257, R273, R285) -/

/-- Bytes of one output channel at one offset. -/
def chanBytes (p : Bytes) : Nat :=
  let c := (pIn p).ch
  let es := (pIn p).es
  match pWfmt p with
  | 0 => c * es
  | 1 => c / 4 * 2 * es + roundUp (ceilDiv (c / 4) 2) 4
  | _ => c / 4 * es + roundUp (ceilDiv (c / 4) 4) 4

def weightBytes (p : Bytes) (k : Nat) : Nat := k * pCout p * chanBytes p

/-- The pinned region. -/
def pinBytes : Nat := 2 ^ 20

/-- Position nibble or pair of group `q`: the first and the second kept position. -/
def keptAt (p b : Bytes) (q : Nat) : Nat × Nat :=
  let c := (pIn p).ch
  let es := (pIn p).es
  if pWfmt p = 1 then
    let n := fieldLE b (c / 4 * 2 * es + q / 2) 1 / (if q % 2 = 0 then 1 else 16) % 16
    (n % 4, n / 4)
  else
    let n := fieldLE b (c / 4 * es + q / 4) 1 / 4 ^ (q % 4) % 4
    (n, n)

/-- The weights of one channel at one offset, as element patterns over the input channels. -/
def chanWeights (p b : Bytes) : List Nat :=
  let c := (pIn p).ch
  let es := (pIn p).es
  match pWfmt p with
  | 0 => elemsOf b es c
  | 1 => (List.range c).map fun k =>
      let x := keptAt p b (k / 4)
      if x.1 = k % 4 then fieldLE b (k / 4 * 2 * es) es else if x.2 = k % 4 then fieldLE b ((k / 4 * 2 + 1) * es) es else 0
  | _ => (List.range c).map fun k => if (keptAt p b (k / 4)).1 = k % 4 then fieldLE b (k / 4 * es) es else 0

/-- A 2:4 group whose first position is not below its second. -/
def chanBad (p b : Bytes) : Bool :=
  pWfmt p == 1 && (List.range ((pIn p).ch / 4)).any fun q => let x := keptAt p b q; x.1 ≥ x.2

/-- The weights that a tile uses: bytes, and where channel `c` at offset `n` lies in them. -/
structure Weights where
  data : Bytes
  chans : Nat
  first : Nat
  size : Nat
deriving DecidableEq, Repr

def Weights.chan (w : Weights) (n c : Nat) : Bytes := byteSlice w.data ((n * w.chans + (c - w.first)) * w.size) w.size

/-- Facet `f` makes the weights at address `a` ready for block `b` over `k` offsets (R257), and whether it loads them. `f` = 64 is a
facet of another module, whose pins this model does not hold. -/
def Mx.weights (m : Mx) (f : Nat) (p : Bytes) (a key k b : Nat) : Weights × Bool × Mx :=
  let total := weightBytes p k
  let size := chanBytes p
  let cout := pCout p
  match (m.s.facet f).pin with
  | some pin =>
    if key != 0 && pin.key == key then (⟨pin.data, cout, 0, size⟩, false, m) else load m total size cout
  | none => load m total size cout
where
  load (m : Mx) (total size cout : Nat) : Weights × Bool × Mx :=
    let at_ := m.s.lin a
    if total ≤ pinBytes then
      let r := m.rd at_ total
      let m := r.2.on fun s => if f < 64 then s.count FCT_WEIGHT_LOADS.COUNT else s
      let m := if key != 0 && f < 64 then m.on fun s => s.setFacet f { s.facet f with pin := some ⟨key, r.1⟩ } else m
      (⟨r.1, cout, 0, size⟩, true, m)
    else
      let n := min 32 (cout - 32 * b)
      let r := (List.range k).foldl (fun (x : Bytes × Mx) o =>
        let y := x.2.rd (at_ + (o * cout + 32 * b) * size) (n * size)
        (x.1 ++ y.1, y.2)) ([], m)
      (⟨r.1, n, 32 * b, size⟩, true, r.2)

/-- Scale and bias of the channels of a block (R272). -/
def Mx.scales (m : Mx) (a c0 n : Nat) : Option (List (Nat × Nat)) × Mx :=
  if a = 0 then (none, m)
  else
    let r := m.rd (m.s.lin a + 8 * c0) (8 * n)
    (some ((List.range n).map fun i => (f32At r.1 (8 * i), f32At r.1 (8 * i + 4))), r.2)

/-! ## Accumulation (R272, R276) -/

def int32Ok (v : Int) : Bool := -(2 ^ 31) ≤ v && v < 2 ^ 31

/-- An INT32 accumulator: none once a sum has left the format, whose result then is not stated. -/
def accInt (terms : List Int) : Option Int :=
  terms.foldl (fun (a : Option Int) t => a.bind fun v => if int32Ok (v + t) then some (v + t) else none) (some 0)

/-- An FP32 accumulator; the sign of a zero result is the datapath's (R276). -/
def accFp (dense : Bool) (terms : List Nat) : Nat :=
  let v := sum32 terms
  if f32.isZero v then f32.signBit (Config.zeroSign dense (terms.map (BitVec.ofNat 32))) else v

def relu32 (act : Bool) (v : Nat) : Nat := if act && f32.lt v zero32 then zero32 else v

/-- One output element from what its row gathered: (offset, input row) pairs in order, weights by offset.
`old` is the output's value under ACCUM. None is a value the manual does not state. -/
def macElem (p : Bytes) (dense : Bool) (gathered : List (Nat × List Nat)) (w : Nat → List Nat)
    (scale : Option (Nat × Nat)) (old : Option Nat) : Option Nat :=
  let out := (pOut p).ty
  let act := pRelu p
  let pairs := gathered.flatMap fun g => g.2.zip (w g.1)
  let ty := (pIn p).ty
  let finish (v : Nat) : Nat :=
    let v := relu32 act (match scale with | some x => f32.add (f32.mul v x.1) x.2 | none => v)
    match old with
    | none => elemOf out v
    | some o => if out = 3 then v else f32.add o v
  if ty = 0 then
    match accInt (pairs.map fun x => signed 8 x.1 * signed 8 x.2) with
    | none => none
    | some a => match scale with
      | none =>
        let a := if act then max 0 a else a
        let a := match old with | some o => a + signed 32 o | none => a
        if int32Ok a then some (unsigned 32 a) else none
      | some x =>
        let v := relu32 act (f32.add (f32.mul (f32.ofInt a) x.1) x.2)
        match old with
        | none => some (elemOf out v)
        | some o =>
          if out = 3 then
            let a := signed 32 (elemOf 3 v) + signed 32 o
            if int32Ok a then some (unsigned 32 a) else none
          else some (f32.add o v)
  else some (finish (accFp dense (pairs.map fun x => f32.mul (elemF32 ty x.1) (elemF32 ty x.2))))

/-! ## Tiles -/

/-- What a tile gives: rows with their elements (none: not stated), the first channel, the datapath of a MAC
tile, its cycles if the manual states them, and whether it met a bad weight or an RLZ row in error. -/
structure TileRes where
  m : Mx
  rows : List (Nat × List (Option Nat))
  c0 : Nat
  dense : Option Bool
  cycles : Option Nat
  badW : Bool
  rlz : Bool
deriving DecidableEq, Repr

/-- Rows of the input gathered in order, and whether one was in error. -/
def Mx.gather (m : Mx) (t : Tensor) (l : List (Nat × Nat)) : List (Nat × List Nat) × Bool × Mx :=
  l.foldl (fun (r : List (Nat × List Nat) × Bool × Mx) x =>
    let y := r.2.2.row t x.2
    (r.1 ++ [(x.1, y.1)], r.2.1 || y.2.1, y.2.2)) ([], false, m)

/-- The old elements of an output row, for ACCUM. -/
def Mx.oldRow (m : Mx) (p : Bytes) (accum : Bool) (row c0 n : Nat) : List (Option Nat) × Mx :=
  let t := pOut p
  if accum && row < t.rows then
    let r := m.rd (m.s.lin t.base + row * t.stride + c0 * t.es) (n * t.es)
    ((elemsOf r.1 t.es n).map some, r.2)
  else (List.replicate n none, m)

/-- One output row of a MAC tile. -/
def Mx.macRow (m : Mx) (p : Bytes) (dense accum : Bool) (w : Weights) (sc : Option (List (Nat × Nat)))
    (c0 n row : Nat) (g : List (Nat × List Nat)) : List (Option Nat) × Mx :=
  let old := m.oldRow p accum row c0 n
  ((List.range n).map fun i =>
    macElem p dense g (fun o => chanWeights p (w.chan o (c0 + i))) (sc.map fun s => s.getD i (0, 0))
      (old.1.getD i none), old.2)

/-- A MAC tile: output rows with the (offset, input row) pairs that each gathers; `gatherFrom` reads them. -/
def Mx.macTile (m : Mx) (f : Nat) (p : Bytes) (accum dense : Bool) (wa key sa k b cycles : Nat)
    (rows : List (Nat × List (Nat × Nat))) (gatherFrom : Mx → List (Nat × Nat) → List (Nat × List Nat) × Bool × Mx) :
    TileRes :=
  let c0 := 32 * b
  let n := min 32 (pCout p - c0)
  let w := m.weights f p wa key k b
  let sc := w.2.2.scales sa c0 n
  let r := rows.foldl (fun (r : List (Nat × List (Option Nat)) × Bool × Mx) x =>
    let g := gatherFrom r.2.2 x.2
    let y := g.2.2.macRow p dense accum w.1 sc.1 c0 n x.1 g.1
    (r.1 ++ [(x.1, y.1)], r.2.1 || g.2.1, y.2)) ([], false, sc.2)
  let bad := w.2.1 && (List.range k).any fun o => (List.range n).any fun i => chanBad p (w.1.chan o (c0 + i))
  ⟨r.2.2, r.1, c0, some dense, some cycles, bad, r.2.1⟩

/-! ### Rulebooks as the facets read them (Tables 11-4, 11-5; R278, R279) -/

structure RbHead where
  nOut : Nat
  edge : Nat
  tileRows : Nat
  tiles : Nat
  pairs : Nat
  nmap : Nat
  pairOff : Nat
  tileOff : Nat
deriving DecidableEq, Repr

def rbHead (b : Bytes) : RbHead :=
  ⟨fieldLE b 0 4, fieldLE b 8 1, fieldLE b 12 2, fieldLE b 16 4, fieldLE b 20 4, fieldLE b 24 8, fieldLE b 32 8,
   fieldLE b 40 8⟩

def RbHead.k (h : RbHead) : Nat := h.edge * h.edge * h.edge
/-- Tiles to run: none of a rulebook whose header stands alone (R270). -/
def RbHead.count (h : RbHead) : Nat := if h.nOut = 0 then 0 else h.tiles
/-- The end of the region that the header describes. -/
def RbHead.size (h : RbHead) : Nat :=
  max (max 64 (h.tileOff + 16 * h.tiles)) (max (h.pairOff + 8 * h.pairs) (if h.nmap = 0 then 0 else h.nmap + 4 * h.nOut * h.k))
def RbHead.ok (h : RbHead) : Bool := [1, 3, 5].contains h.edge && 1 ≤ h.tileRows && h.tileRows ≤ 4096

/-- A read in the rulebook's region; beyond it nothing is read. -/
def Mx.rbRead (m : Mx) (rb : Nat) (h : RbHead) (off n : Nat) : Option Bytes × Mx :=
  if off + n ≤ h.size then let r := m.rd (m.s.lin rb + off) n; (some r.1, r.2) else (none, m)

/-- The metadata of a tile (Table 11-5). -/
structure TileMeta where
  base : Nat
  rows : Nat
  denseOk : Bool
  start : Nat
  pairs : Nat
deriving DecidableEq, Repr

def metaOf (b : Bytes) : TileMeta :=
  ⟨fieldLE b 0 4, fieldLE b 4 2, bit (fieldLE b 6 1) 0, fieldLE b 8 4, fieldLE b 12 4⟩

def Mx.tileMeta (m : Mx) (rb : Nat) (h : RbHead) (i : Nat) : TileMeta × Mx :=
  let r := m.rbRead rb h (h.tileOff + 16 * i) 16
  (metaOf (r.1.getD (List.replicate 16 0)), r.2)

/-- The (offset, input row) pairs of local row `o` in the neighbour map. -/
def Mx.densePairs (m : Mx) (rb : Nat) (h : RbHead) (t : TileMeta) (o : Nat) : List (Nat × Nat) × Mx :=
  let r := m.rbRead rb h (h.nmap + 4 * ((t.base + o) * h.k)) (4 * h.k)
  match r.1 with
  | none => ([], r.2)
  | some b => ((List.range h.k).filterMap fun n =>
      let row := fieldLE b (4 * n) 4
      if row = noRow then none else some (n, row), r.2)

/-- The pairs that the sparse datapath streams: (local row, offset, input row). -/
def Mx.sparsePairs (m : Mx) (rb : Nat) (h : RbHead) (t : TileMeta) : List (Nat × Nat × Nat) × Mx :=
  (List.range (min t.pairs (t.rows * h.k))).foldl (fun (r : List (Nat × Nat × Nat) × Mx) i =>
    let x := r.2.rbRead rb h (h.pairOff + 8 * (t.start + i)) 8
    match x.1 with
    | none => (r.1, x.2)
    | some b =>
      let o := fieldLE b 4 2
      let n := fieldLE b 6 1
      if o < t.rows && n < h.k then (r.1 ++ [(o, n, fieldLE b 0 4)], x.2) else (r.1, x.2)) ([], m)

/-- The datapath of a tile (R278). -/
def usesDense (run : FctRun) (h : RbHead) (t : TileMeta) (i : Nat) : Bool :=
  t.denseOk && match run.bitmap with
    | some b => !bit (fieldLE b (i / 8) 1) (i % 8)
    | none => t.pairs * 100 ≥ run.pct * t.rows * h.k

/-- An SPCONV tile. A static one is padded to TILE_ROWS, with rows of zero input that are written nowhere (R277). -/
def Mx.spconvTile (m : Mx) (f : Nat) (run : FctRun) (e : Sqe) (t : Tile) : TileRes :=
  let p := run.param
  let rb := e.fld 40 8
  let hb := m.rd (m.s.lin rb) 64
  let h := rbHead hb.1
  let md := hb.2.tileMeta rb h t.idx
  let dense := usesDense run h md.1 t.idx
  let u := ceilDiv (pIn p).ch (groupOf p)
  let all := if dense then
      (List.range md.1.rows).foldl (fun (r : List (List (Nat × Nat)) × Mx) o =>
        let x := r.2.densePairs rb h md.1 o
        (r.1 ++ [x.1], x.2)) ([], md.2)
    else
      let x := md.2.sparsePairs rb h md.1
      ((List.range md.1.rows).map fun o => (x.1.filter (·.1 == o)).map (·.2), x.2)
  let rows := (List.range md.1.rows).zip all.1 |>.map fun x => (md.1.base + x.1, x.2)
  let rowsRun := if bit (e.fld 32 1) 1 then h.tileRows else md.1.rows
  let cycles := (if dense then rowsRun * h.k * u else min md.1.pairs (md.1.rows * h.k) * u) + 64
  all.2.macTile f p (bit (e.fld 32 1) 0) dense (pWeights p) (pKey p) (pScale p) h.k t.blk cycles rows
    fun m l => m.gather (pIn p) l

/-- A GEMM tile of up to 64 rows. -/
def Mx.gemmTile (m : Mx) (f : Nat) (run : FctRun) (e : Sqe) (t : Tile) : TileRes :=
  let p := run.param
  let n := min 64 ((pIn p).rows - 64 * t.idx)
  let rows := (List.range n).map fun i => (64 * t.idx + i, [(0, 64 * t.idx + i)])
  m.macTile f p (bit (e.fld 32 1) 0) true (pWeights p) (pKey p) (pScale p) 1 t.blk
    (64 * ceilDiv (pIn p).ch (groupOf p) + 64) rows fun m l => m.gather (pIn p) l

/-! ### Groups (R391) -/

/-- The groups of a run: first output row and rows of each. -/
def groupsOf : List Nat → List (Nat × Nat)
  | a :: b :: rest => (a, b) :: groupsOf rest
  | _ => []

/-- The tiles of groups in order: group, and tile within it. -/
def groupTiles (gs : List (Nat × Nat)) : List (Nat × Nat) :=
  ((List.range gs.length).zip gs).flatMap fun g => (List.range (ceilDiv g.2.2 64)).map fun i => (g.1, i)

/-- The token data of items of expert `x`'s queue; an item no longer there has no stated data. -/
def Mx.itemRows (m : Mx) (l x : Nat) (t : Tensor) (list : List (Nat × Nat)) : List (Nat × List Nat) × Bool × Mx :=
  let items := m.s.hqItems (m.s.expMod l x) (m.s.expHq l x)
  let r := list.foldl (fun (r : List (Nat × List Nat) × Mx) y =>
    match items[y.2]? with
    | some it => let b := r.2.rd (it.1 + 16) (t.ch * t.es); (r.1 ++ [(y.1, elemsOf b.1 t.es t.ch)], b.2)
    | none => let b := r.2.s.drawBytes (t.ch * t.es)
              (r.1 ++ [(y.1, elemsOf b.1 t.es t.ch)], ⟨b.2, r.2.bad⟩)) ([], m)
  (r.1, false, r.2)

/-- A GROUPED_GEMM tile. -/
def Mx.groupTile (m : Mx) (f : Nat) (run : FctRun) (e : Sqe) (t : Tile) : TileRes :=
  let p := run.param
  let gs := groupsOf run.groups
  let g := (groupTiles gs).getD t.idx (0, 0)
  let gr := gs.getD g.1 (0, 0)
  let n := min 64 (gr.2 - 64 * g.2)
  let layer := e.fld 33 1
  let rows := (List.range n).map fun i =>
    (gr.1 + 64 * g.2 + i, [(0, (if layer = 0xFF then gr.1 else 0) + 64 * g.2 + i)])
  let key := if pKey p = 0 then 0 else pKey p + g.1
  let sa := if pScale p = 0 then 0 else pScale p + 8 * pCout p * g.1
  m.macTile f p (bit (e.fld 32 1) 0) true (pWeights p + g.1 * pWstride p) key sa 1 t.blk
    (64 * ceilDiv (pIn p).ch (groupOf p) + 64) rows
    fun m l => if layer = 0xFF then m.gather (pIn p) l else m.itemRows layer g.1 (pIn p) l

/-! ### The vector unit (R389, R390) -/

/-- A row in FP32. -/
def Mx.rowF32 (m : Mx) (t : Tensor) (r : Nat) : List Nat × Bool × Mx :=
  let x := m.row t r
  (x.1.map (elemF32 t.ty), x.2.1, x.2.2)

/-- Rows of a vector tile by a function of the input row. -/
def Mx.vectorRows (m : Mx) (p : Bytes) (idx : Nat) (k : Mx → Nat → List Nat → List Nat × Bool × Mx) : TileRes :=
  let n := min 64 ((pIn p).rows - 64 * idx)
  let r := (List.range n).foldl (fun (r : List (Nat × List (Option Nat)) × Bool × Mx) i =>
    let row := 64 * idx + i
    let x := r.2.2.rowF32 (pIn p) row
    let y := k x.2.2 row x.1
    (r.1 ++ [(row, y.1.map fun v => some (elemOf (pOut p).ty (relu32 (pRelu p) v)))], r.2.1 || x.2.1 || y.2.1, y.2.2))
    ([], false, m)
  ⟨r.2.2, r.1, 0, none, none, false, r.2.1⟩

/-- ELEMENTWISE. -/
def Mx.elementTile (m : Mx) (p : Bytes) (sub idx : Nat) : TileRes :=
  let sc := if sub = 5 then m.scales (pScale p) 0 (pIn p).ch else (none, m)
  sc.2.vectorRows p idx fun m row x =>
    if sub ≤ 3 then
      let y := m.rowF32 (pIn2 p) row
      (List.zipWith (match sub with | 0 => f32.add | 1 => f32.sub | 2 => f32.mul | _ => f32.larger) x y.1, y.2.1, y.2.2)
    else if sub = 4 then (x, false, m)
    else (List.zipWith (fun v s => f32.add (f32.mul v s.1) s.2) x (sc.1.getD []), false, m)

/-- The mean of FP32 values, summed in order. -/
def meanOf (xs : List Nat) : Nat := f32.div (sum32 xs) (f32.ofInt xs.length)

/-- NORM of one row, before gamma and beta. -/
def normRow (rms : Bool) (eps : Nat) (x : List Nat) : List Nat :=
  let c := if rms then x else let mu := meanOf x; x.map (f32.sub · mu)
  let d := f32.sqrt (f32.add (meanOf (c.map fun v => f32.mul v v)) eps)
  c.map (f32.div · d)

def Mx.normTile (m : Mx) (p : Bytes) (sub idx : Nat) : TileRes :=
  let sc := m.scales (pScale p) 0 (pIn p).ch
  sc.2.vectorRows p idx fun m _ x =>
    let y := normRow (sub == 1) (pEps p) x
    (match sc.1 with | some s => List.zipWith (fun v g => f32.add (f32.mul v g.1) g.2) y s | none => y, false, m)

/-- SOFTMAX. -/
def Mx.softmaxTile (m : Mx) (p : Bytes) (idx : Nat) : TileRes := m.vectorRows p idx fun m _ x => (softmax x, false, m)

/-- POOL_VOXEL: MAX or MEAN over the input rows of each output row's pairs. -/
def poolRows (mean : Bool) (ch : Nat) (rows : List (List Nat)) : List Nat :=
  match rows with
  | [] => List.replicate ch 0
  | r :: rest =>
    if mean then (List.range ch).map fun j => meanOf ((r :: rest).map (at32 · j))
    else rest.foldl (List.zipWith f32.larger) r

def Mx.poolTile (m : Mx) (run : FctRun) (e : Sqe) (t : Tile) : TileRes :=
  let p := run.param
  let rb := e.fld 40 8
  let hb := m.rd (m.s.lin rb) 64
  let h := rbHead hb.1
  let md := hb.2.tileMeta rb h t.idx
  let x := md.2.sparsePairs rb h md.1
  let r := (List.range md.1.rows).foldl (fun (r : List (Nat × List (Option Nat)) × Bool × Mx) o =>
    let g := r.2.2.gather (pIn p) ((x.1.filter (·.1 == o)).map (·.2))
    let y := poolRows (e.fld 33 1 == 1) (pIn p).ch (g.1.map fun v => v.2.map (elemF32 (pIn p).ty))
    (r.1 ++ [(md.1.base + o, y.map fun v => some (elemOf (pOut p).ty (relu32 (pRelu p) v)))], r.2.1 || g.2.1, g.2.2))
    ([], false, x.2)
  ⟨r.2.2, r.1, 0, none, some (md.1.pairs * ceilDiv (pIn p).ch 64 + 64), false, r.2.1⟩

/-- The rows of window `w`. -/
def Mx.windowRows (m : Mx) (e : Sqe) (p : Bytes) (w : Nat) : List Nat × Mx :=
  let o := m.rd (m.s.lin (e.fld 40 8) + 4 * w) 8
  let a := fieldLE o.1 0 4
  let r := o.2.rd (o.2.s.lin (pWinRows p) + 4 * a) (4 * (fieldLE o.1 4 4 - a))
  (elemsOf r.1 4 (fieldLE o.1 4 4 - a), r.2)

/-- QK_SCALE, 0 meaning 1/√HEAD_DIM. -/
def qkScale (p : Bytes) : Nat :=
  if pQkScale p = 0 then f32.div one32 (f32.sqrt (f32.ofInt (pHeadDim p))) else pQkScale p

/-- A WINDOW_ATTN tile: one window and one head. Q, K and V follow one another in a row, head by head. -/
def Mx.attnTile (m : Mx) (run : FctRun) (e : Sqe) (t : Tile) : TileRes :=
  let p := run.param
  let d := pHeadDim p
  let w := m.windowRows e p t.idx
  let rs := w.1.foldl (fun (r : List (List Nat) × Bool × Mx) row =>
    let x := r.2.2.rowF32 (pIn p) row
    (r.1 ++ [x.1], r.2.1 || x.2.1, x.2.2)) ([], false, w.2)
  let part (i : Nat) (x : List Nat) : List Nat := (x.drop ((i * e.fld 33 1 + t.blk) * d)).take d
  let out (q : List Nat) : List (Option Nat) :=
    let ps := softmax (rs.1.map fun x => f32.mul (dot32 (part 0 q) (part 1 x)) (qkScale p))
    (List.range d).map fun j =>
      some (elemOf (pOut p).ty (relu32 (pRelu p) (sum32 (List.zipWith (fun a x => f32.mul a (at32 (part 2 x) j)) ps rs.1))))
  ⟨rs.2.2, (w.1.zip rs.1).map fun x => (x.1, out x.2), t.blk * d, none, none, false, rs.2.1⟩

/-- A tile of the operator that entry `e` names. -/
def Mx.tile (m : Mx) (f : Nat) (run : FctRun) (e : Sqe) (t : Tile) : TileRes :=
  match e.opcode with
  | 0x0301 => m.spconvTile f run e t
  | 0x0302 => m.gemmTile f run e t
  | 0x0303 => m.groupTile f run e t
  | 0x0304 => m.elementTile run.param (e.fld 33 1) t.idx
  | 0x0305 => m.normTile run.param (e.fld 33 1) t.idx
  | 0x0306 => m.poolTile run e t
  | 0x0307 => m.attnTile run e t
  | _ => m.softmaxTile run.param t.idx

/-! ## Writing a tile's rows -/

/-- Elements that the manual does not state are drawn. -/
def Mx.settle (m : Mx) (es : Nat) (l : List (Option Nat)) : List Nat × Mx :=
  l.foldl (fun (r : List Nat × Mx) x => match x with
    | some v => (r.1 ++ [v], r.2)
    | none => let b := r.2.s.drawBytes es; (r.1 ++ [leNat b.1], ⟨b.2, r.2.bad⟩)) ([], m)

/-- The key of a row of an RLZ output held until its operation ends. -/
def rlzKey (tag row c0 : Nat) : Nat := tag * 2 ^ 48 + row * 2 ^ 16 + c0

/-- Rows written, those beyond the output tensor excepted (R279); an undefined tile's are drawn. -/
def Mx.putRows (m : Mx) (tag : Nat) (t : Tensor) (c0 : Nat) (undef : Bool) (rows : List (Nat × List (Option Nat))) : Mx :=
  (rows.filter (·.1 < t.rows)).foldl (fun u x =>
    let v := u.settle t.es (if undef then x.2.map fun _ => none else x.2)
    if t.rlz then v.2.on fun s => { s with rlzRows := SMap.ins s.rlzRows (rlzKey tag x.1 c0) v.1 }
    else v.2.wr (v.2.s.lin t.base + x.1 * t.stride + c0 * t.es) (v.1.flatMap (leBytes t.es))) m

/-- The rows of an RLZ output, encoded one after another: index entries and bytes. -/
def rlzLayout (t : Tensor) (rows : List (Nat × List Nat)) : List (Nat × Nat) × Bytes :=
  rows.foldl (fun (r : List (Nat × Nat) × Bytes) x =>
    if x.2.all (· == 0) then (r.1 ++ [(x.1, 0xFFFFFFFF)], r.2)
    else
      let b := rlzEncode t.es (t.ch + 1) x.2
      (r.1 ++ [(x.1, r.2.length / 16)], r.2 ++ byteSlice b 0 (roundUp b.length 16))) ([], [])

/-- The blocks of each row of an RLZ output joined, in row order. -/
def State.rlzJoined (s : State) (tag : Nat) : List (Nat × List Nat) :=
  (s.rlzRows.filter fun e => e.1 / 2 ^ 48 == tag).foldl (fun l e =>
    let row := e.1 / 2 ^ 16 % 2 ^ 32
    match l.getLast? with
    | some y => if y.1 = row then l.dropLast ++ [(row, y.2 ++ e.2)] else l ++ [(row, e.2)]
    | none => [(row, e.2)]) []

/-- The RLZ output of an operation written at its end (R280, R281): false when it does not fit, and its contents, index
and bytes, are then undefined. -/
def Mx.putRlz (m : Mx) (tag : Nat) (t : Tensor) : Bool × Mx :=
  let r := rlzLayout t (m.s.rlzJoined tag)
  if r.2.length > t.cap then
    let b := m.s.drawBytes t.cap
    let i := b.2.drawBytes (4 * t.rows)
    (false, ((⟨i.2, m.bad⟩ : Mx).wr (m.s.lin t.base) b.1).wr (m.s.lin t.index) i.1)
  else
    let m := m.wr (m.s.lin t.base) r.2
    (true, r.1.foldl (fun u x => u.wr (u.s.lin t.index + 4 * x.1) (leBytes 4 x.2)) m)

/-! ## The end of an operator -/

/-- The run of an operation. -/
def State.run (s : State) (tag : Nat) : FctRun :=
  (SMap.get? s.runs tag).getD ⟨[], [], 0, none, 0, 0, 0, false, none, false⟩
def State.setRun (s : State) (tag : Nat) (r : FctRun) : State := { s with runs := SMap.ins s.runs tag r }

/-- The modules whose facets run groups of a layer (R391). -/
def State.farModules (s : State) (e : Sqe) : List Nat :=
  if e.opcode == 0x0303 && e.fld 33 1 != 0xFF then s.lyMods (e.fld 33 1) else []

/-- The last tile has run: the operation completes. Beyond the bits that R285 gives to a bad weight, RESULT holds the tiles
run. -/
def State.endRun (s : State) (tag : Nat) (e : Sqe) : State :=
  let r := s.run tag
  let t := pOut r.param
  let x := if t.rlz then (mx s).putRlz tag t else (true, mx s)
  let st := max (max (if r.badWeight.isSome then ERR_DESCRIPTOR else OK) (if r.poison || x.2.bad then ERR_POISON else OK))
    (max (if x.1 then OK else ERR_POOL_EXHAUSTED) (if r.rlzErr then OK_WITH_DROPS else OK))
  let detail := flags (min r.dense 0xFFFF) (if r.rlzErr then 0x8000 else 0)
  let res := match r.badWeight with
    | none => r.ran
    | some b => r.ran / 2 ^ 16 * 2 ^ 16 + (Config.badWeight b.2 b.1).toNat
  (x.2.s.forgetTiles tag).finishVia tag st (some res) (some detail) (x.2.s.farModules e)

/-- The outcome of tile `t` goes into its run; RESULT names the first tile that met a bad weight. -/
def FctRun.after (r : FctRun) (t : Tile) (x : TileRes) : FctRun :=
  { r with ran := r.ran + 1, dense := if x.dense == some true then r.dense + 1 else r.dense,
           poison := r.poison || x.m.bad, badWeight := r.badWeight.or (if x.badW then some (t.idx, t.blk) else none), rlzErr := r.rlzErr || x.rlz }

/-- A tile computed on facet `f` (64: on another module), its rows written, its run brought up to date. `ue`
says that the facet's memory failed under it. -/
def State.runTile (s : State) (f : Nat) (e : Sqe) (t : Tile) (ue : Bool) : State × Option Nat :=
  let run := s.run t.tag
  let x := (mx s).tile f run e t
  let x := if ue then { x with m := { x.m with bad := true } } else x
  let m := x.m.putRows t.tag (pOut run.param) x.c0 (x.badW || x.m.bad) x.rows
  let s := m.s
  let s := if x.badW then s.count FCT_BAD_WEIGHT_CNT.COUNT else s
  let s := match x.dense with
    | some true => s.count FCT_TILES_DENSE.COUNT
    | some false => s.count FCT_TILES_SPARSE.COUNT
    | none => s
  (s.setRun t.tag { run.after t x with poison := run.poison || m.bad }, x.cycles)

/-- The operation that a tile belongs to, while its tiles run. -/
def State.tileOp (s : State) (t : Tile) : Option Sqe :=
  match s.op? t.tag with
  | none => none
  | some o => match o.phase with
    | .held w _ => if w == heldTiles && !o.stopped then o.sqe? else none
    | _ => none

/-! ## Starting an operator -/

/-- The tiles of a run in order: (number, block), the block the minor index. -/
def tileList (order : List Nat) (blks : Nat) : List (Nat × Nat) :=
  order.flatMap fun i => (List.range blks).map fun b => (i, b)

/-- Tile `pos` as it joins the list; static tiles are dealt by tile number over the facets active at dispatch (R277). -/
def tileAt (tag pos blks : Nat) (x : Nat × Nat) (active : Option (List Nat)) : Tile :=
  ⟨tag, pos, x.1, x.2, active.bind fun a => if a.isEmpty then none else a[(x.1 * blks + x.2) % a.length]?⟩

/-- The facets able to take tiles. -/
def State.takers (s : State) : List Nat := (List.range 64).filter s.mayTake

/-- The tile runs on this module's facets; a group's tiles run on its expert's module (R391). -/
def State.tileIsLocal (s : State) (e : Sqe) (groups : List Nat) (x : Nat × Nat) : Bool :=
  e.opcode != 0x0303 || e.fld 33 1 == 0xFF
    || s.expMod (e.fld 33 1) ((groupTiles (groupsOf groups)).getD x.1 (0, 0)).1 == s.self

/-- The tiles join the work list; those of other modules run there. -/
def State.startRun (s : State) (tag : Nat) (e : Sqe) (order : List Nat) (blks : Nat) : State :=
  let run := s.run tag
  let tiles := tileList order blks
  let static := if e.opcode == 0x0301 && bit (e.fld 32 1) 1 then some s.takers else none
  let ts := ((List.range tiles.length).zip tiles).map fun x => tileAt tag x.1 blks x.2 static
  let s := s.setRun tag { run with total := ts.length }
  let here := ts.filter fun t => s.tileIsLocal e run.groups (t.idx, t.blk)
  let there := ts.filter fun t => !s.tileIsLocal e run.groups (t.idx, t.blk)
  let s := match s.op? tag with
    | none => s
    | some o => s.setOp tag { o with phase := .held heldTiles [] }
  let s := there.foldl (fun u t => (u.runTile 64 e t false).1) s
  if here.isEmpty then s.endRun tag e
  else ({ s with workList := s.workList ++ here } : State).feed

/-- The order of an F6 reply, if it is one of the tiles. -/
def replyOrder (data : Bytes) (n : Nat) : Option (List Nat) :=
  let l := elemsOf data 4 n
  if data.length = 4 * n && sortBy id l = List.range n then some l else none

/-- F6, then the tiles (R275). -/
def State.orderTiles (s : State) (tag : Nat) (e : Sqe) (n blks : Nat) (md : Bytes) : State :=
  match s.op? tag with
  | none => s
  | some o => s.item tag o e 6 (leBytes 4 0 ++ leBytes 4 n ++ leBytes 1 s.activeFacets.length) md
      fun s r => match r with
        | none => s.startRun tag e (List.range n) blks
        | some (entry, data) => match replyOrder data n with
          | some l => s.startRun tag e l blks
          | none => (s.badReply tag entry 6).startRun tag e (List.range n) blks

/-- F5 is settled: F6 is the next item of the operation. -/
def State.afterF5 (s : State) (tag : Nat) (bitmap : Option Bytes) : State :=
  let s := s.setRun tag { s.run tag with bitmap := bitmap }
  match s.op? tag with
  | none => s
  | some o => s.setOp tag { o with reply := none, prog := [1] }

/-- F5 where the operator carries it, then F6 (Table 8-1). -/
def State.chooseTiles (s : State) (tag : Nat) (o : Op) (e : Sqe) (n blks : Nat) (md : Bytes) : State :=
  if (functionsOf e).contains 5 && o.prog.isEmpty then
    s.item tag o e 5 (leBytes 4 0 ++ leBytes 4 n) md fun s r => match r with
      | none => (s.afterF5 tag none).orderTiles tag e n blks md
      | some (entry, data) =>
        if data.length = ceilDiv n 8 then (s.afterF5 tag (some data)).orderTiles tag e n blks md
        else ((s.badReply tag entry 5).afterF5 tag none).orderTiles tag e n blks md
  else s.orderTiles tag e n blks md

/-- A facet operator past its checks: at its dispatch, and not when a handoff resumes it, DENSE_PCT comes into force and
the run is opened (R284); then its tiles are chosen. -/
def State.openRun (s : State) (tag : Nat) (o : Op) (e : Sqe) (p : Bytes) (groups : List Nat) (n blks : Nat)
    (md : Bytes) : State :=
  let s := if o.prog.isEmpty && o.reply.isNone then
      let s := s.applyStaged FCT_CTRL.DENSE_PCT
      s.setRun tag ⟨p, groups, min 100 (s.reg FCT_CTRL.DENSE_PCT), none, 0, 0, 0, false, none, false⟩
    else s
  s.chooseTiles tag o e n blks md

/-! ## Checks (R274, R389, Table 17-4) -/

/-- The operator fields that all facet operators share. `aux` says that AUX is used. -/
def facetFields (e : Sqe) (subOk aux mac conv : Bool) : Bool :=
  let fl := e.fld 32 1
  fl < 4 && (mac || !bit fl 0) && (conv || !bit fl 1) && subOk && (aux || e.fld 40 8 == 0)
    && e.fld 48 8 % 64 == 0 && e.rsv [(34, 6), (56, 8)]

/-- The block's tensors, and OUT under ACCUM. -/
def blockOk (e : Sqe) (p : Bytes) : Bool :=
  (pIn p).ok && (pOut p).ok && pWfmt p ≤ 2 && fieldLE p 85 1 ≤ 1
    && (!bit (e.fld 32 1) 0 || ((pOut p).ty ≥ 3 && !(pOut p).rlz))

/-- What the MAC operators need: input type, weight format, output channels and type. -/
def macOk (p : Bytes) : Bool :=
  (pIn p).ty ≤ 2 && (pWfmt p == 0 || (pIn p).ch % 4 == 0) && 1 ≤ pCout p && (pOut p).ch == pCout p
    && (pScale p != 0 || (pOut p).ty == (if (pIn p).ty = 0 then 3 else 4))

/-- The bounds of R274 for tiles of `rows` rows and `k` offsets. -/
def macBound (p : Bytes) (rows k : Nat) : Bool :=
  rows * k * ceilDiv (pIn p).ch (groupOf p) + 64 ≤ 4096
    && rows * k * (pIn p).ch * (pIn p).es + rows * 128
      + (if weightBytes p k > pinBytes then k * (pIn p).ch * 32 else 0) ≤ 262144

/-- The ranges of weights and scales. -/
def macRanges (p : Bytes) (k : Nat) : List (Nat × Nat) :=
  (pWeights p, weightBytes p k) :: optRange (pScale p) (8 * pCout p)

/-- A facet operator at dispatch: fields, parameter block, its own checks `ok` with the ranges, and then `k`.
A poisoned block or rulebook header ends it. -/
def State.facetOp (s : State) (tag opcode : Nat) (io : OpIo) (fields : Sqe → Bool)
    (check : State → Sqe → Bytes → Option Nat) (k : State → Op → Sqe → Bytes → State) : State :=
  s.runOp tag opcode anyone
    (fun _ e => if !fields e then some ERR_DESCRIPTOR else s.rangesErr [(e.fld 48 8, 128)])
    fun o e =>
      let r := (s.plant io.upsets).read (s.lin (e.fld 48 8)) 128
      if r.2.1 then r.2.2.finish tag ERR_POISON
      else if !blockOk e r.1 then r.2.2.finish tag ERR_DESCRIPTOR
      else match check r.2.2 e r.1 with
        | some c => r.2.2.finish tag c
        | none => k r.2.2 o e r.1

/-- The header of the rulebook that AUX names, as it stands. -/
def State.rbOf (s : State) (e : Sqe) : RbHead := rbHead (s.peek (s.lin (e.fld 40 8)) 64)

/-- The metadata of all tiles, as it stands. -/
def State.metaBytes (s : State) (e : Sqe) : Bytes :=
  let h := s.rbOf e
  s.peek (s.lin (e.fld 40 8) + h.tileOff) (16 * h.count)

/-- The check of a rulebook: in reach, with a header that a tile can follow. -/
def State.rbErr (s : State) (e : Sqe) (bound : RbHead → Bool) : Option Nat :=
  match s.rangesErr [(e.fld 40 8, 64)] with
  | some c => some c
  | none =>
    let h := s.rbOf e
    if !h.ok || !bound h then some ERR_DESCRIPTOR else s.rangesErr [(e.fld 40 8, h.size)]

/-- The rulebook header is read; poison ends the operator. -/
def State.withRulebook (s : State) (tag : Nat) (e : Sqe) (k : State → State) : State :=
  let r := s.read (s.lin (e.fld 40 8)) 64
  if r.2.1 then r.2.2.finish tag ERR_POISON else k r.2.2

/-! ## The operators -/

/-- SPCONV's checks of its block and rulebook. -/
def State.spconvErr (s : State) (e : Sqe) (p : Bytes) : Option Nat :=
  if !(macOk p && allZero (byteSlice p 88 40)) then some ERR_DESCRIPTOR
  else match s.rbErr e fun h => macBound p h.tileRows h.k with
    | some c => some c
    | none => s.rangesErr ((pIn p).ranges false ++ (pOut p).ranges true ++ macRanges p (s.rbOf e).k)

/-- SPCONV (R274 to R281). -/
def execSpconv (tag : Nat) (io : OpIo) (s : State) : Outcome State Fault Refusal :=
  answer s (s.facetOp tag 0x0301 io (fun e => facetFields e (e.fld 33 1 == 0) true true true)
    (fun s e p => s.spconvErr e p)
    fun s o e p => s.withRulebook tag e fun s =>
      s.openRun tag o e p [] (s.rbOf e).count (blocks p) (s.metaBytes e))

/-- GEMM's checks of its block. -/
def State.gemmErr (s : State) (p : Bytes) : Option Nat :=
  if !(macOk p && allZero (byteSlice p 88 40) && (pOut p).rows == (pIn p).rows && macBound p 64 1) then
    some ERR_DESCRIPTOR
  else s.rangesErr ((pIn p).ranges false ++ (pOut p).ranges true ++ macRanges p 1)

/-- GEMM (R390). -/
def execGemm (tag : Nat) (io : OpIo) (s : State) : Outcome State Fault Refusal :=
  answer s (s.facetOp tag 0x0302 io (fun e => facetFields e (e.fld 33 1 == 0) false true false)
    (fun s _ p => s.gemmErr p)
    fun s o e p => s.openRun tag o e p [] (ceilDiv (pIn p).rows 64) (blocks p) [])

/-- The number of groups. -/
def State.groupCount (s : State) (e : Sqe) (p : Bytes) : Nat :=
  if e.fld 33 1 = 0xFF then pGroups p else s.lyExperts (e.fld 33 1)

/-- PREFIX as AUX gives it. -/
def State.prefixOf (s : State) (e : Sqe) (n : Nat) : List Nat :=
  elemsOf (s.peek (s.lin (e.fld 40 8)) (4 * (n + 1))) 4 (n + 1)

/-- The groups: first output row and rows of each (R391). -/
def State.groupList (s : State) (e : Sqe) (p : Bytes) : List Nat :=
  let n := s.groupCount e p
  let l := e.fld 33 1
  let pre := s.prefixOf e n
  (List.range n).flatMap fun g =>
    [at32 pre g, if l = 0xFF then at32 pre (g + 1) - at32 pre g else (s.hq (s.expMod l g) (s.expHq l g)).depth]

/-- GROUPED_GEMM's checks beyond GEMM's. -/
def State.groupedErr (s : State) (e : Sqe) (p : Bytes) : Option Nat :=
  let l := e.fld 33 1
  let n := s.groupCount e p
  let rows := l == 0xFF
  if !(macOk p && allZero (byteSlice p 100 28) && macBound p 64 1
    && (rows || (pIn p).ch * (pIn p).es ≤ s.lyItem l)) then some ERR_DESCRIPTOR
  else if !rows && !s.layerReady l then some ERR_MODE
  else if !rows && (s.lyMods l).any fun m => !s.activeModule m then some ERR_SPAN_LOST
  else match s.rangesErr [(e.fld 40 8, 4 * (n + 1))] with
    | some c => some c
    | none =>
      let pre := s.prefixOf e n
      if rows && (pre.zip (pre.drop 1)).any fun x => x.1 > x.2 then some ERR_DESCRIPTOR
      else s.rangesErr ((if rows then (pIn p).ranges false else []) ++ (pOut p).ranges true
        ++ (if n = 0 then [] else [(pWeights p, (n - 1) * pWstride p + weightBytes p 1)])
        ++ optRange (pScale p) (8 * pCout p * n))

/-- GROUPED_GEMM (R391). -/
def execGroupedGemm (tag : Nat) (io : OpIo) (s : State) : Outcome State Fault Refusal :=
  answer s (s.facetOp tag 0x0303 io
    (fun e => facetFields e (e.fld 33 1 < 16 || e.fld 33 1 == 0xFF) true true false)
    (fun s e p => s.groupedErr e p)
    fun s o e p =>
      let r := s.read (s.lin (e.fld 40 8)) (4 * (s.groupCount e p + 1))
      if r.2.1 then r.2.2.finish tag ERR_POISON
      else
        let g := r.2.2.groupList e p
        r.2.2.openRun tag o e p g (groupTiles (groupsOf g)).length (blocks p) [])

/-- ELEMENTWISE's checks of its block. -/
def State.elementErr (s : State) (e : Sqe) (p : Bytes) : Option Nat :=
  let two := e.fld 33 1 ≤ 3
  let a := pIn p; let b := pIn2 p; let c := pOut p
  if !(c.rows == a.rows && c.ch == a.ch
    && (if two then b.ok && b.rows == a.rows && b.ch == a.ch && allZero (byteSlice p 120 8)
        else allZero (byteSlice p 88 40))
    && (e.fld 33 1 != 5 || pScale p != 0)) then some ERR_DESCRIPTOR
  else s.rangesErr (a.ranges false ++ (if two then b.ranges false else []) ++ c.ranges true
    ++ if e.fld 33 1 = 5 then [(pScale p, 8 * a.ch)] else [])

/-- ELEMENTWISE (R390). -/
def execElementwise (tag : Nat) (io : OpIo) (s : State) : Outcome State Fault Refusal :=
  answer s (s.facetOp tag 0x0304 io (fun e => facetFields e (e.fld 33 1 ≤ 5) false false false)
    (fun s e p => s.elementErr e p)
    fun s o e p => s.openRun tag o e p [] (ceilDiv (pIn p).rows 64) 1 [])

/-- NORM's checks of its block. -/
def State.normErr (s : State) (p : Bytes) : Option Nat :=
  if !((pOut p).rows == (pIn p).rows && (pOut p).ch == (pIn p).ch && allZero (byteSlice p 92 36)) then
    some ERR_DESCRIPTOR
  else s.rangesErr ((pIn p).ranges false ++ (pOut p).ranges true ++ optRange (pScale p) (8 * (pIn p).ch))

/-- NORM (R390). -/
def execNorm (tag : Nat) (io : OpIo) (s : State) : Outcome State Fault Refusal :=
  answer s (s.facetOp tag 0x0305 io (fun e => facetFields e (e.fld 33 1 ≤ 1) false false false)
    (fun s _ p => s.normErr p)
    fun s o e p => s.openRun tag o e p [] (ceilDiv (pIn p).rows 64) 1 [])

/-- The cycles of every tile of a rulebook stay within the bound of Table 17-4. -/
def State.poolBound (s : State) (e : Sqe) (p : Bytes) : Bool :=
  let md := s.metaBytes e
  (List.range (s.rbOf e).count).all fun i => fieldLE md (16 * i + 12) 4 * ceilDiv (pIn p).ch 64 + 64 ≤ 4096

/-- POOL_VOXEL's checks of its block and rulebook. -/
def State.poolErr (s : State) (e : Sqe) (p : Bytes) : Option Nat :=
  if !((pOut p).ch == (pIn p).ch && allZero (byteSlice p 88 40)) then some ERR_DESCRIPTOR
  else match s.rbErr e fun h => (pOut p).rows == h.nOut with
    | some c => some c
    | none =>
      if !s.poolBound e p then some ERR_DESCRIPTOR
      else s.rangesErr ((pIn p).ranges false ++ (pOut p).ranges true)

/-- POOL_VOXEL (R390). -/
def execPoolVoxel (tag : Nat) (io : OpIo) (s : State) : Outcome State Fault Refusal :=
  answer s (s.facetOp tag 0x0306 io (fun e => facetFields e (e.fld 33 1 ≤ 1) true false false)
    (fun s e p => s.poolErr e p)
    fun s o e p => s.withRulebook tag e fun s => s.openRun tag o e p [] (s.rbOf e).count 1 (s.metaBytes e))

/-- WIN_OFFS as AUX gives it. -/
def State.winOffs (s : State) (e : Sqe) (p : Bytes) : List Nat := s.prefixOf e (pNwin p)

/-- WINDOW_ATTN's checks. -/
def State.attnErr (s : State) (e : Sqe) (p : Bytes) : Option Nat :=
  let d := pHeadDim p
  let hd := e.fld 33 1 * d
  if !((pIn p).ty == 1 || (pIn p).ty == 2) || !(16 ≤ d && d ≤ 128 && d % 16 == 0 && (pIn p).ch == 3 * hd
    && (pOut p).ch == hd && allZero (byteSlice p 90 2) && allZero (byteSlice p 108 20)) then some ERR_DESCRIPTOR
  else match s.rangesErr [(e.fld 40 8, 4 * (pNwin p + 1))] with
    | some c => some c
    | none =>
      let o := s.winOffs e p
      if (o.zip (o.drop 1)).any fun x => x.1 > x.2 || x.2 - x.1 > 64 then some ERR_DESCRIPTOR
      else s.rangesErr ((pIn p).ranges false ++ (pOut p).ranges true ++ [(pWinRows p, 4 * o.getLastD 0)])

/-- WINDOW_ATTN (R390). -/
def execWindowAttn (tag : Nat) (io : OpIo) (s : State) : Outcome State Fault Refusal :=
  answer s (s.facetOp tag 0x0307 io
    (fun e => facetFields e (1 ≤ e.fld 33 1 && e.fld 33 1 ≤ 16) true false false)
    (fun s e p => s.attnErr e p)
    fun s o e p =>
      let r := s.read (s.lin (e.fld 40 8)) (4 * (pNwin p + 1))
      if r.2.1 then r.2.2.finish tag ERR_POISON
      else r.2.2.openRun tag o e p [] (pNwin p) (e.fld 33 1) [])

/-- SOFTMAX's checks of its block. -/
def State.softmaxErr (s : State) (p : Bytes) : Option Nat :=
  if !((pOut p).rows == (pIn p).rows && (pOut p).ch == (pIn p).ch && allZero (byteSlice p 88 40)) then
    some ERR_DESCRIPTOR
  else s.rangesErr ((pIn p).ranges false ++ (pOut p).ranges true)

/-- SOFTMAX (R390). -/
def execSoftmax (tag : Nat) (io : OpIo) (s : State) : Outcome State Fault Refusal :=
  answer s (s.facetOp tag 0x0308 io (fun e => facetFields e (e.fld 33 1 == 0) false false false)
    (fun s _ p => s.softmaxErr p)
    fun s o e p => s.openRun tag o e p [] (ceilDiv (pIn p).rows 64) 1 [])

/-! ## TILE_COMPLETE (R275 to R279, R285 to R287) -/

/-- Errors that a facet's own memory shows: bits [63:62] set in the line's address (Table 15-6). -/
def facetUpsets (us : List Upset) (f : Nat) : List Upset :=
  us.filter fun u => !u.silent && u.line ≥ 3 * 2 ^ 62 && u.line / 2 ^ 56 % 64 == f

/-- They are counted, logged and reported (R362); an uncorrectable one invalidates the pin (R363). -/
def State.facetErrors (s : State) (f : Nat) (us : List Upset) : State :=
  us.foldl (fun t u =>
    if u.ue then
      let n := t.reg ZRC_PLOG_WR.COUNT % 64
      let a := 3 * 2 ^ 62 + 2 ^ 56 * f + u.line % 2 ^ 21 / 64 * 64
      let t := (t.count ZRC_SRAM_UE_CNT.COUNT).count ZRC_PLOG_WR.COUNT
      let t := { t with plog := SMap.ins t.plog n ⟨a, 5, 0, 0⟩ }
      (t.pfEvent 0x0504 (some (104 + f)) a).setFacet f { t.facet f with pin := none }
    else t.count ZRC_SRAM_CE_CNT.COUNT) s

/-- Facet `f` finishes tile `t`. -/
def State.tileDone (s : State) (f : Nat) (io : OpIo) (t : Tile) : State :=
  match s.tileOp t with
  | none => s.nextTile f
  | some e =>
    let own := facetUpsets io.upsets f
    let s := s.plant (io.upsets.filter (·.line < 3 * 2 ^ 62))
    let r := s.runTile f e t (own.any (·.ue))
    let s := r.1.facetErrors f own
    let c := s.orFree (r.2.map (· % 2 ^ 16))
    let s := (c.2.setReg FCT_F.TILE_CYCLES (4 * f) c.1).nextTile f
    let s := if s.withdrawn f then (s.returnStaged f).feed else s
    let run := s.run t.tag
    if run.ran = run.total then s.endRun t.tag e else s

/-- TILE_COMPLETE (R275): a facet that is held finishes no tile (R101), nor one whose memory traffic waits (R398). -/
def execTileComplete (f : Nat) (io : OpIo) (s : State) : Outcome State Fault Refusal :=
  let u := s.feedFacet f
  match (u.facet f).cur with
  | some t => unitStep f 64 (s.running && s.facetUp f && !s.facetFailed f && !s.topaz.held.contains f && !s.memWaits) (u.tileDone f io t) s
  | none => unitStep f 64 false s s

end Sys2Proof.Machine
end

