-- ==== Sys2Proof/Machine/Jasper.lean ====
section
/-!
DEFINITION. Jasper's 32 mailbox channels (R192 to R199). Masters are numbered as in Table 8-6.
-/
namespace Sys2Proof.Machine
open Host (Outcome)

/-- The byte displacement of channel `c`. -/
def chanD (c : Nat) : Nat := 128 * c

/-- A master that Table 8-6 lists. -/
def isMaster (m : Nat) : Bool := m < 0x14 || (0x20 ≤ m && m ≤ 0x23) || m == 0x30

/-- The masters bound to a channel; 0xFF is unbound. -/
def State.mastersOf (s : State) (c : Nat) : Nat × Nat :=
  (s.reg JSP_BIND.MASTER_A (chanD c), s.reg JSP_BIND.MASTER_B (chanD c))

/-- Master `m` is bound to an end (R193). -/
def State.boundTo (s : State) (c m : Nat) : Bool :=
  let ab := s.mastersOf c
  m == ab.1 || m == ab.2

/-- Both ends are bound, and `m` is one of them (R192, R193). -/
def State.chanBound (s : State) (c m : Nat) : Bool :=
  let ab := s.mastersOf c
  ab.1 != 0xFF && ab.2 != 0xFF && (m == ab.1 || m == ab.2)

/-- The master at the other end of the sender. -/
def State.otherEnd (s : State) (c m : Nat) : Nat :=
  let ab := s.mastersOf c
  if m = ab.1 then ab.2 else ab.1

/-- A dropped Jasper write: CFG_ERR and the channel's count (R193, R194). -/
def State.jspDrop (s : State) (c : Nat) : State :=
  (s.cfgErr .jsp (chanD c)).count JSP_DROP_CNT.COUNT (chanD c)

/-- Access to channel `c` by master `m`: in recovery only channel 0 answers, to PF 0 (R114); debug needs a session. -/
def State.jspReach (s : State) (c m : Nat) : Bool :=
  s.ready && (s.running || c == 0) && (m ≥ 0x10 || s.linked m) && (m != 0x30 || s.regB LPS_STATUS.DBG_LEVEL)

/-- A write of data word `w` (R194): the first one by a bound master claims an idle channel. -/
def State.jspData (s : State) (m c w val : Nat) : State :=
  let d := chanD c
  let claimed := s.regB JSP_CTRL.CLAIMED d
  if !s.chanBound c m || s.regB JSP_CTRL.FULL d || (claimed && s.reg JSP_CTRL.SRC d != m) then
    s.jspDrop c
  else
    let s := if claimed then s else (s.setReg JSP_CTRL.CLAIMED d 1).setReg JSP_CTRL.SRC d m
    s.setReg JSP_D.DATA (d + 4 * w) val

/-- JSP_DATA_WRITE (R194). -/
def execJspDataWrite (m c w val : Nat) (s : State) : Outcome State Fault Refusal :=
  if isMaster m ∧ c < 32 ∧ w < 16 then stepIf (s.jspReach c m) (s.jspData m c w val) s
  else .fault .noSuchUnit

/-- The receiver is told of a message (R195): a core is woken, a module of the span gets it in a CTRL frame. -/
def State.jspNotify (s : State) (c rcv code : Nat) : State :=
  if rcv < 16 then s.event rcv { code := code, detail := some c }
  else if rcv < 0x14 then s.wakeOn (230 + (rcv - 0x10)) 7
  else if 0x20 ≤ rcv && rcv ≤ 0x23 then
    s.sendTo (rcv - 0x20) 0 0
      (.ctrl (.mailbox c ((List.range 16).map fun w => s.reg JSP_D.DATA (chanD c + 4 * w))))
  else s

/-- GO (R194, R195): the message is sent, FULL set, the claim ended, the receiver told. -/
def State.jspSend (s : State) (m c : Nat) : State :=
  let d := chanD c
  if !s.chanBound c m || s.regB JSP_CTRL.FULL d
      || (s.regB JSP_CTRL.CLAIMED d && s.reg JSP_CTRL.SRC d != m) then s.jspDrop c
  else
    let s := (s.setReg JSP_CTRL.FULL d 1).setReg JSP_CTRL.CLAIMED d 0
    let s := (s.setReg JSP_CTRL.SRC d m).setReg JSP_CTRL.ABORTED d 0
    (s.count JSP_MSG_CNT.COUNT d).jspNotify c (s.otherEnd c m) 0x0A10

/-- JSP_GO (R195). -/
def execJspGo (m c : Nat) (s : State) : Outcome State Fault Refusal :=
  if isMaster m ∧ c < 32 then stepIf (s.jspReach c m) (s.jspSend m c) s else .fault .noSuchUnit

/-- RELEASE (R194): only the claimant's ends the claim; the data stay. -/
def State.jspRelease (s : State) (m c : Nat) : State :=
  let d := chanD c
  if !s.boundTo c m then s.jspDrop c
  else if s.regB JSP_CTRL.CLAIMED d && s.reg JSP_CTRL.SRC d == m then s.setReg JSP_CTRL.CLAIMED d 0 else s

/-- JSP_RELEASE (R194). -/
def execJspRelease (m c : Nat) (s : State) : Outcome State Fault Refusal :=
  if isMaster m ∧ c < 32 then stepIf (s.jspReach c m) (s.jspRelease m c) s else .fault .noSuchUnit

/-- A read of D15 (R196): by the receiver it clears FULL and tells a sending host instance. -/
def State.jspRead15 (s : State) (m c : Nat) : State :=
  let d := chanD c
  let src := s.reg JSP_CTRL.SRC d
  if s.regB JSP_CTRL.FULL d && s.boundTo c m && m != src then
    let s := s.setReg JSP_CTRL.FULL d 0
    if src < 16 then s.event src { code := 0x0A11, detail := some c } else s
  else s

/-- JSP_D15_READ (R196). -/
def execJspD15Read (m c : Nat) (s : State) : Outcome State Fault Refusal :=
  if isMaster m ∧ c < 32 then stepIf (s.jspReach c m) (s.jspRead15 m c) s else .fault .noSuchUnit

/-- The data words of a channel zeroed. -/
def State.jspZero (s : State) (c : Nat) : State :=
  (List.range 16).foldl (fun t w => t.setReg JSP_D.DATA (chanD c + 4 * w) 0) s

/-- A reset of master `m` as seen by channel `c`: an ABORT-mode message for it is aborted (R197), and
its claim is dropped with the data (R198). -/
def State.jspResetChan (s : State) (m c : Nat) : State :=
  let d := chanD c
  let src := s.reg JSP_CTRL.SRC d
  if !s.boundTo c m then s
  else if s.regB JSP_CTRL.FULL d then
    if s.regB JSP_CTRL.MODE d && src != m then
      let s := ((s.jspZero c).setReg JSP_CTRL.FULL d 0).setReg JSP_CTRL.ABORTED d 1
      if src < 16 then s.event src { code := 0x0A12, detail := some c } else s
    else s
  else if s.regB JSP_CTRL.CLAIMED d && src == m then (s.jspZero c).setReg JSP_CTRL.CLAIMED d 0
  else s

/-- A reset of master `m` (R197, R198): an instance, a management core, a span module, or debug. -/
def State.jspReset (s : State) (m : Nat) : State :=
  (List.range 32).foldl (fun t c => t.jspResetChan m c) s

/-- A Jasper message from a module of the span: it fills the channel as its sender's GO would. -/
def State.jspFromSpan (s : State) (src c : Nat) (words : List Nat) : State :=
  let m := 0x20 + src
  let d := chanD c
  if !s.chanBound c m || s.regB JSP_CTRL.FULL d || s.regB JSP_CTRL.CLAIMED d then s.jspDrop c
  else
    let s := (List.range 16).foldl (fun t w => t.setReg JSP_D.DATA (d + 4 * w) (words.getD w 0)) s
    let s := (s.setReg JSP_CTRL.FULL d 1).setReg JSP_CTRL.SRC d m
    let s := (s.setReg JSP_CTRL.ABORTED d 0).count JSP_MSG_CNT.COUNT d
    s.jspNotify c (s.otherEnd c m) 0x0A10

end Sys2Proof.Machine
end

