-- ==== Sys2Proof/Machine/Span.lean ====
section
/-!
DEFINITION. Spans of modules (chapter 14): training and retraining of Span ports, frames received, HELLO and
JOIN, admission, membership and its loss, time across the span, remote parts, and the operators SPAN_SYNC and
SPAN_ALLREDUCE.
-/
namespace Sys2Proof.Machine
open Host (Outcome)

/-! ## States (Table 14-8) -/

def stAlone : Nat := 0
def stJoining : Nat := 1
def stHead : Nat := 2
def stActive : Nat := 3
def stQuarantine : Nat := 4
def stHold : Nat := 5
def memAbsent : Nat := 0
def memJoining : Nat := 1
def memActive : Nat := 2
def memQuarantine : Nat := 3
def memLost : Nat := 4
def roleHead : Nat := 1
def roleMember : Nat := 2

def State.spanState (s : State) : Nat := s.reg SPAN_STATUS.STATE
def State.setSpan (s : State) (st : Nat) : State := s.setReg SPAN_STATUS.STATE 0 st
def State.memState (s : State) (m : Nat) : Nat := s.reg SPAN_MEMBER_STATUS.STATE (4 * m)
def State.isHead (s : State) : Bool := s.spanState == stHead
/-- A module that keeps its number and forwards frames: admitted, active or quarantined. -/
def State.memAlive (s : State) (m : Nat) : Bool :=
  m == 0 || (m < 4 && (s.memState m == memJoining || s.memState m == memActive || s.memState m == memQuarantine))

/-! ## Renumbering: this module's memory is at its own span addresses -/

/-- A span or shelf address with modules `a` and `b` exchanged. -/
def swapModule (a b x : Nat) : Nat :=
  let f (m : Nat) : Nat := if m = a then b else if m = b then a else m
  if x ≥ shelfBase then shelfBase + f ((x - shelfBase) / shelfSize) * shelfSize + (x - shelfBase) % shelfSize
  else f (x / moduleSpan) * moduleSpan + x % moduleSpan

/-- A sparse array with its indexes changed; `d` is its default. -/
def reindex {α : Type} [DecidableEq α] (f : Nat → Nat) (d : α) (m : SMap α) : SMap α :=
  m.foldl (fun acc e => SMap.put acc (f e.1) e.2 d) []

/-- The module's number changes from `a` to `b`, and its memory with it. -/
def State.renumber (s : State) (b : Nat) : State :=
  let a := s.self
  if a = b then s
  else
    let line (l : Nat) : Nat := swapModule a b (64 * l) / 64
    { (s.setReg SPAN_STATUS.MODULE 0 b) with
        mem := reindex (swapModule a b) 0 s.mem,
        poison := reindex line false s.poison,
        ceLines := reindex line false s.ceLines,
        ueLines := reindex line false s.ueLines,
        wbQueue := s.wbQueue.map fun e => (e.1, e.2.map line),
        searches := s.searches.map line }

/-! ## Routes (R335) -/

/-- The peers of module `m`'s ports as the head knows them: its own, or those the module reports. -/
def State.peersOf (s : State) (m : Nat) : List Nat :=
  if m = 0 then (List.range 4).map fun p => (s.peer? p).getD 4 else SMap.get s.node.adj m []

/-- A link joins two modules: either reports it. -/
def State.joined (s : State) (a b : Nat) : Bool := (s.peersOf a).contains b || (s.peersOf b).contains a

/-- Module `b` is `n` hops or fewer from `a`, over modules that forward. -/
def State.within (s : State) (a b : Nat) : Nat → Bool
  | 0 => a == b
  | n + 1 => a == b || (List.range 4).any fun x => s.memAlive x && s.joined a x && s.within x b n

/-- The hops from `a` to `b`; 4 where there is no path. -/
def State.hops (s : State) (a b : Nat) : Nat := ((List.range 4).find? fun n => s.within a b n).getD 4

/-- The ports of module `a` that begin a shortest path to `b`, best first: the lower-numbered peer, then the
lower-numbered port. -/
def State.firstHops (s : State) (a b : Nat) : List (Nat × Nat) :=
  let ps := ((List.range 4).zip (s.peersOf a)).filter fun x =>
    x.2 < 4 && s.memAlive x.2 && s.hops x.2 b + 1 == s.hops a b
  sortBy (fun x => 4 * x.2 + x.1) ps

/-- One entry of module `a`'s SPAN_ROUTE for module `b`. -/
def State.routeOf (s : State) (a b : Nat) : Nat :=
  if a = b || s.hops a b ≥ 4 then 0
  else match s.firstHops a b with
    | [] => 0
    | x :: _ => x.1 + (if x.2 = b then 0 else 4) + 8

def State.routesFor (s : State) (a : Nat) : List Nat := (List.range 4).map (s.routeOf a)
def routeWord (r : List Nat) : Nat := ((List.range 4).map fun m => r.getD m 0 % 16 * 16 ^ m).sum

/-- Frames that wait on a port that is down go on by the routes now in force; HELLOs of one hop are not kept. -/
def State.reroute (s : State) : State :=
  (List.range 4).foldl (fun t p =>
    if t.portUp p then t
    else
      let fs := (t.link p).queue
      fs.foldl (fun u f => if u.routed f.hdr.dst && u.portUp (u.routePort f.hdr.dst)
        then u.sendOn false f else u.setLink p { u.link p with queue := (u.link p).queue ++ [f] })
        (t.setLink p { t.link p with queue := [] })) s

/-- The head computes its routes. -/
def State.ownRoutes (s : State) : State := (s.setReg SPAN_ROUTE.ROUTE 0 (routeWord (s.routesFor 0))).reroute

/-- A change of membership (R335, R340): the head's routes, and CTRL frames with the routes and the epoch to
each module that forwards, but for `new`, which gets them otherwise. They carry the EPOCH byte that their
receivers still hold. -/
def State.spreadRoutes (s : State) (oldEpoch : Nat) (new : Nat := 0) : State :=
  let s := s.ownRoutes
  (([1, 2, 3].filter s.memAlive).filter fun m => s.routed m && m != new).foldl (fun t m =>
    let f := t.newFrame m 0 0 (.ctrl (.routes (t.reg SPAN_EPOCH.EPOCH) (t.routesFor m)))
    t.sendOn false { f with hdr := { f.hdr with epoch := oldEpoch % 256 } }) s

/-- The epoch goes up by one (R340). -/
def State.nextEpoch (s : State) : State :=
  s.setReg SPAN_EPOCH.EPOCH 0 (s.reg SPAN_EPOCH.EPOCH + 1)

/-! ## Operations that wait for the span -/

/-- SPAN_SYNC's wait: its modules, those that have confirmed, whether TIME_CHECK is set. -/
def heldSync : Nat := 8

/-- A remote write dispatched before operation `o` to module `m` is unanswered. -/
def State.remoteBefore (s : State) (o : Op) (m : Nat) : Bool :=
  s.ops.any fun e => match e.2.phase with
    | .held w args => w == heldRemote && e.2.seq < o.seq && (args.drop 3).contains m
    | _ => false

/-- The largest |offset| among modules, in units of 10 ns, at most 0xFFFF (R345). -/
def State.worstOffset (s : State) (mask : Nat) : Nat :=
  min 0xFFFF ((((List.range 4).filter (bit mask ·)).map fun m =>
    (signed 32 (s.reg SPAN_OFFSET.NS (4 * m))).natAbs).foldl max 0 / 10)

/-- SPAN_SYNCs whose modules have all confirmed, with their earlier writes answered, complete (R345). -/
def State.settleSyncs (s : State) : State :=
  s.ops.foldl (fun t (e : Nat × Op) => match e.2.phase with
    | .held w [mods, done, check] =>
      if w == heldSync && done == mods
          && (List.range 4).all fun m => !bit mods m || m == t.self || !t.remoteBefore e.2 m then
        t.finish e.1 OK (some done) (if check = 1 then some (t.worstOffset done) else none)
      else t
    | _ => t) s

/-- Whatever a remote part's end may let go on. -/
def State.settleRemote (s : State) : State := s.settleSwitches.settleSyncs

/-- The element size of SPAN_ALLREDUCE's types. -/
def reduceSize (ty : Nat) : Nat := if ty = 1 then 2 else 4

/-- A module is lost before a SPAN_ALLREDUCE completes: DST on the survivors is undefined (R346). -/
def State.spoilReduce (s : State) (e : Sqe) (lost : Nat) : State :=
  if e.opcode != 0x0702 then s
  else
    let n := reduceSize (e.fld 33 1) * e.fld 36 4
    ((List.range 4).filter fun m => bit (e.fld 34 1) m && m != lost).foldl (fun t m =>
      let r := t.drawBytes n
      (r.2.write (m * moduleSpan + e.fld 48 8) r.1).1) s

/-- Operations with a remote part on module `m` complete ERR_SPAN_LOST (R344, R345). -/
def State.loseParts (s : State) (m : Nat) : State :=
  s.ops.foldl (fun t (e : Nat × Op) => match e.2.phase with
    | .held w args =>
      if w == heldRemote && (args.drop 3).contains m then
        let t := match e.2.sqe? with | some q => t.spoilReduce q m | none => t
        t.finish e.1 ERR_SPAN_LOST
      else if w == heldSync && bit (args.headD 0) m then t.finish e.1 ERR_SPAN_LOST (some (args.getD 1 0))
      else t
    | _ => t) s

/-- Open steps with rows staged on module `m` are discarded on every module; one whose commit has taken effect goes on,
and module `m` has its part to apply when it is back (Table 12-6). -/
def State.loseSteps (s : State) (m : Nat) : State :=
  (List.range 256).foldl (fun t k =>
    if t.regB TD_CTRL.STEP_OPEN (tdD k) && (t.tMods k).contains m && t.reg TD_STAGED.ROWS (tdD k) != 0
    then (if t.commitTaken k then { t with records := t.records ++ [(m, k, t.commitRec k)] }
      else t.discardStep k ERR_SPAN_LOST) else t) s

/-! ## Losing a member (R349) -/

/-- The routing queues of module `m` are flushed (Table 13-6a). -/
def State.flushModule (s : State) (m : Nat) : State :=
  (List.range 1536).foldl (fun t q => t.flushHq m (512 + q)) s

/-- The work that hangs on module `m` ends. -/
def State.dropWork (s : State) (m : Nat) : State :=
  ((((s.loseParts m).loseSteps m).loseMigrations m).flushModule m).settleRemote

/-- Module `m` is gone: its Jasper channels see a reset (R197), and the work that hangs on it ends. -/
def State.dropMember (s : State) (m : Nat) : State := (s.jspReset (0x20 + m)).dropWork m

/-- The head declares module `m` LOST; routes follow. -/
def State.markLost (s : State) (m reason : Nat) : State :=
  let s := (s.setReg SPAN_MEMBER_STATUS.STATE (4 * m) memLost).setReg SPAN_MEMBER_STATUS.REASON (4 * m) reason
  let s := s.setReg SPAN_MEMBER_STATUS.TIME_SUSPECT (4 * m) 0
  (s.nextEpoch.pfEvent 0x0603 (some (m + 2 ^ 8 * reason))).dropMember m

/-- MEMBER_LOST with its reason (R349). A member to which the loss of `m` leaves no route is lost with it. -/
def State.loseMember (s : State) (m reason : Nat) : State :=
  let old := s.reg SPAN_EPOCH.EPOCH
  let s := s.markLost m reason
  let cut := [1, 2, 3].filter fun k => s.memAlive k && s.hops 0 k ≥ 4
  (cut.foldl (fun t k => t.markLost k 2) s).spreadRoutes old

/-- A member is listed and takes part. -/
def State.memIn (s : State) (m : Nat) : Bool := s.isHead && 1 ≤ m && m ≤ 3 && s.memAlive m

/-- MEMBER_LOST (R349): silence for LOSS_US. -/
def execMemberLost (m : Nat) (s : State) : Outcome State Fault Refusal :=
  unitStep m 4 (s.ready && s.memIn m) (s.loseMember m 1) s

/-- REMOTE_TIMEOUT (R344). -/
def execRemoteTimeout (tag m : Nat) (s : State) : Outcome State Fault Refusal :=
  let waits := match s.op? tag with
    | some o => match o.phase with
      | .held w args => w == heldRemote && (args.drop 3).contains m
      | _ => false
    | none => false
  unitStep m 4 (s.ready && waits && s.memIn m) (s.loseMember m 3) s

/-! ## Leaving a span (Tables 5-2 and 5-3) -/

/-- Tables that other modules share. -/
def State.sharedTable (s : State) (t : Nat) : Bool := (s.tMods t).any (· != s.self)

/-- A span-leave reset: membership and remote parts are gone, with staged updates owned across the span;
memory, ports and the guard stay. `next` is the state it leads to; in HOLD the number stays. -/
def State.leaveSpan (s : State) (next : Nat) : State :=
  let s := (List.range 256).foldl (fun t k =>
    if t.regB TD_CTRL.STEP_OPEN (tdD k) && t.sharedTable k then t.discardStep k ABORT_RESET else t) s
  let s := ([0, 1, 2, 3].filter (· != s.self)).foldl State.loseParts s
  let s := (s.flushModule s.self).settleRemote
  let s := ((s.setSpan next).setReg SPAN_ROUTE.ROUTE 0 0).setReg SPAN_STATUS.TIME_SUSPECT 0 0
  let s := { s with node := { s.node with acked := false, badRun := 0, goodRun := 0 } }
  if next = stHold then s else s.renumber 0

/-- A span-leave reset, which the Jasper channels bound to this module see (R197). -/
def State.spanLeave (s : State) (next : Nat) : State := (s.jspReset (0x20 + s.self)).leaveSpan next

/-- A member leaves the span: its LEAVE or its removal ends its membership until EN is written again; a warm
reset or a forced rejoin leads to a JOIN. -/
def State.inSpan (s : State) : Bool := s.isMember || (s.spanState == stJoining)

/-- SPAN_LEAVE_RESET (R116): the head has removed this module. -/
def execSpanLeaveReset (s : State) : Outcome State Fault Refusal :=
  stepIf (s.ready && s.inSpan) (s.spanLeave stAlone) s

/-- SPAN_CTRL.LEAVE (R349): from the wrong role it is dropped. -/
def State.ctrlLeave (s : State) : State :=
  if s.reg SPAN_CTRL.ROLE != roleMember then s.cfgErr .span
  else if s.inSpan then (s.sendTo 0 0 0 .leave).spanLeave stAlone else s

/-- SPAN_CTRL_LEAVE (R349). -/
def execSpanCtrlLeave (s : State) : Outcome State Fault Refusal := stepIf s.running s.ctrlLeave s

/-- SPAN_CTRL.REMOVE of module `m` (R349). -/
def State.ctrlRemove (s : State) (m : Nat) : State :=
  if s.reg SPAN_CTRL.ROLE != roleHead then s.cfgErr .span
  else if s.memIn m then s.loseMember m 5 else s

/-- SPAN_REMOVE (R349): the write names the module in REMOVE_MOD. -/
def execSpanRemove (m : Nat) (s : State) : Outcome State Fault Refusal :=
  unitStep m 4 s.running ((s.setReg SPAN_CTRL.REMOVE_MOD 0 m).ctrlRemove m) s

/-- SPAN_CTRL.FORM (R340, Table 14-6): the staged digest comes into force, the epoch goes up, and members
of before rejoin, so that none is listed until its JOIN. -/
def State.ctrlForm (s : State) : State :=
  if s.reg SPAN_CTRL.ROLE != roleHead then s.cfgErr .span
  else
    let s := (s.applyStaged SPAN_DIGEST_LO.DIGEST).applyStaged SPAN_DIGEST_HI.DIGEST
    let old := [1, 2, 3].filter s.memIn
    let s := (s.setSpan stHead).nextEpoch
    let s := [1, 2, 3].foldl (fun t m => (t.setReg SPAN_MEMBER_STATUS.STATE (4 * m) memAbsent).setReg
      SPAN_MEMBER_STATUS.TIME_SUSPECT (4 * m) 0) s
    (old.foldl State.dropMember s).ownRoutes

/-- SPAN_FORM (R340). -/
def execSpanForm (s : State) : Outcome State Fault Refusal := stepIf s.running s.ctrlForm s

/-! ## Ports (R331, R334) -/

/-- The head loses members that no route reaches any more; a member with no port left goes to HOLD. -/
def State.hold (s : State) : State :=
  ({ (s.setSpan stHold) with node := { s.node with expired := false } } : State).pfEvent 0x0604 (some 0)

/-- Routes after a change of the links. -/
def State.linksChanged (s : State) : State :=
  if s.isHead then
    let cut := [1, 2, 3].filter fun k => s.memAlive k && s.hops 0 k ≥ 4
    let old := s.reg SPAN_EPOCH.EPOCH
    (cut.foldl (fun t k => t.markLost k 2) s).spreadRoutes old
  else if s.spanState == stActive && (List.range 4).all (fun p => !s.portUp p) then s.hold
  else s.reroute

/-- CALIBRATEs of a Span port end with its retrain (R377). -/
def State.portCalibrated (s : State) (p : Nat) (good : Bool) : State :=
  if s.anyHeld heldCal [1, p] then
    (if good then s else s.testFail 1 p s.self true).finishHeld heldCal [1, p] OK
  else s

/-- A link goes down, which ends a calibration of it: the frames that no ACK covers go by another link or route (Table 14-6). -/
def State.linkDown (s : State) (p : Nat) : State :=
  let l := s.link p
  let keep := (l.replay.map (·.2) ++ l.queue).filter fun f => f.body.code ≥ 0x11
  let ps := (s.parallels p).filter (· != p)
  let s := ((s.portCalibrated p false).setReg SPAN_P_STATUS.STATE (spD p) 0).setReg SPAN_P_STATUS.LANES (spD p) 0
  let s := { s with node := { s.node with heard := if bit s.node.heard p then s.node.heard - 2 ^ p else s.node.heard } }
  match ps with
  | q :: _ => (keep.foldl (fun t f => t.sendFrame q f) (s.setLink p linkReset)).linksChanged
  | [] => (s.setLink p { linkReset with queue := keep }).linksChanged

/-- A port may train: its cable is there (R45), it is allowed to, and the link is enabled. -/
def State.mayTrain (s : State) (p : Nat) : Bool :=
  s.regB SPAN_CTRL.EN && bit (s.reg SPAN_CTRL.PORT_EN) p && bit s.node.spres p

/-- Training begins: the port's two domains are woken. -/
def State.startTraining (s : State) (p : Nat) : State :=
  if s.mayTrain p && s.reg SPAN_P_STATUS.STATE (spD p) == 0 then
    ((s.setReg SPAN_P_STATUS.STATE (spD p) 1).wakeOn (220 + 2 * p) 7).wakeOn (221 + 2 * p) 7
  else s

/-- A port that may no longer be up goes down. -/
def State.stopPort (s : State) (p : Nat) : State :=
  let st := s.reg SPAN_P_STATUS.STATE (spD p)
  if st = 0 then s
  else if st = 1 then (s.setReg SPAN_P_STATUS.STATE (spD p) 0).endLaneTests p false
  else (s.linkDown p).pfEvent 0x0611 (some p)

/-- Each port as SPAN_CTRL and the cables now have it. -/
def State.settlePorts (s : State) : State :=
  (List.range 4).foldl (fun t p => if t.mayTrain p then t.startTraining p else t.stopPort p) s

/-- SPRES_N_CHANGE (R45): the level is known at all times; the ports follow it while the firmware runs. -/
def execSpresNChange (p : Nat) (high : Bool) (s : State) : Outcome State Fault Refusal :=
  let had := bit s.node.spres p
  let m := if high then (if had then s.node.spres - 2 ^ p else s.node.spres)
    else (if had then s.node.spres else s.node.spres + 2 ^ p)
  let t : State := { s with node := { s.node with spres := m } }
  unitStep p 4 true (if s.ready then t.settlePorts else t) s

/-- Lanes as LINK_UP and LANE_DEGRADED show them. -/
def State.trained (s : State) (p lanes : Nat) : State :=
  let s := (s.setReg SPAN_P_STATUS.STATE (spD p) 2).setReg SPAN_P_STATUS.LANES (spD p) lanes
  let s := s.pfEvent 0x0610 (some (p + 4 * s.reg SPAN_P_STATUS.PEER (spD p) + 16 * lanes))
  if lanes < 4 then s.pfEvent 0x0612 (some (p + 16 * lanes)) else s

/-- Every frame of the replay buffer is sent again, from SEQ `seq` on (R334). -/
def State.resend (s : State) (p seq : Nat) : State :=
  let l := s.link p
  let from_ := l.replay.findIdx fun x => x.2.hdr.seq == seq % 4096
  let again := l.replay.drop from_
  if again.isEmpty then s
  else
    let s := s.setLink p { l with replay := l.replay.take from_ ++ again.map fun x => (x.1 + 1, x.2) }
    (again.foldl (fun t x => t.putFrame p x.2.hdr.seq x.2) s).count SPAN_P_RETRY.COUNT (spD p)

/-- The lanes that a self-test has found good allow a link of this width (R331, R376). -/
def State.lanesFit (s : State) (p lanes : Nat) : Bool :=
  let out := SMap.get s.amber.lanesOut p 0
  if lanes = 4 then out == 0 else if lanes = 2 then !bit out 0 && !bit out 1 else !bit out 0

/-- SPAN_LINK_TRAINED (R331, R334): training of 1, 2 or 4 lanes ends with the domains up; a retrain goes on
from the first frame not acknowledged, a port that was down starts anew. -/
def execSpanLinkTrained (p lanes : Nat) (s : State) : Outcome State Fault Refusal :=
  let st := s.reg SPAN_P_STATUS.STATE (spD p)
  let l := s.link p
  let t := s.trained p lanes
  let fresh := (t.setLink p { linkReset with queue := l.queue })
  unitStep p 4 (s.ready && s.mayTrain p && (s.dom (220 + 2 * p)).up && (s.dom (221 + 2 * p)).up
      && (st == 1 || st == 3) && (lanes == 1 || lanes == 2 || lanes == 4) && s.lanesFit p lanes)
    (if st = 3 then match l.replay with
      | [] => (t.pump p (l.queue.length)).portCalibrated p true
      | x :: _ => ((t.resend p x.2.hdr.seq).pump p (l.queue.length)).portCalibrated p true
     else (fresh.pump p (l.queue.length)).endLaneTests p true) s

/-- SPAN_TRAINING_TIMEOUT (R331). -/
def execSpanTrainingTimeout (p : Nat) (s : State) : Outcome State Fault Refusal :=
  unitStep p 4 (s.ready && s.reg SPAN_P_STATUS.STATE (spD p) == 1)
    (((s.setReg SPAN_P_STATUS.STATE (spD p) 0).pfEvent 0x0611 (some p)).endLaneTests p false) s

/-- SPAN_RETRAIN (R334): frames are outstanding, one of them resent 8 times or none acknowledged in 20 µs. -/
def execSpanRetrain (p : Nat) (s : State) : Outcome State Fault Refusal :=
  unitStep p 4 (s.ready && s.portUp p && !(s.link p).replay.isEmpty)
    ((s.setReg SPAN_P_STATUS.STATE (spD p) 3).count SPAN_P_RETRAIN.COUNT (spD p)) s

/-- SPAN_RETRAIN_TIMEOUT (R334). -/
def execSpanRetrainTimeout (p : Nat) (s : State) : Outcome State Fault Refusal :=
  unitStep p 4 (s.ready && s.reg SPAN_P_STATUS.STATE (spD p) == 3) ((s.linkDown p).pfEvent 0x0611 (some p)) s

/-! ## Frames received (R333, R334, R340) -/

/-- ACK_SEQ and CREDIT of a frame received: what they free lets queued frames go. -/
def State.takeAck (s : State) (p : Nat) (h : FrameHdr) : State :=
  let l := s.link p
  let left := l.replay.filter fun x => laterThan 12 x.2.hdr.seq h.ackSeq
  let cr := (List.range 3).map fun v => min ([8, 64, 64].getD v 0) (l.credit.getD v 0 + h.credit.getD v 0)
  (s.setLink p { l with replay := left, credit := cr }).pump p l.queue.length

/-- A NAK is sent for the frame expected. -/
def State.sendNak (s : State) (p : Nat) : State :=
  let l := s.link p
  if l.nakked then s
  else (s.setLink p { l with nakked := true }).sendFrame p (s.newFrame 0 0 0 (.nak l.rxSeq))

/-- What is owed to the peer goes in an IDLE frame if no other frame has taken it. -/
def State.payBack (s : State) (p : Nat) : State := if (s.link p).owed.any (· != 0) then s.sendIdle p else s

/-- A frame with a good CRC on port `p`: in order it is accepted, and `k` follows; after a gap it is discarded
with a NAK; one already received is discarded. -/
def State.receive (s : State) (p : Nat) (h : FrameHdr) (vc : Option Nat) (k : State → State) : State :=
  let l := s.link p
  if h.seq % 4096 == l.rxSeq then
    let owed := match vc with | some v => l.owed.modify v (· + 1) | none => l.owed
    let t := s.setLink p { l with rxSeq := (l.rxSeq + 1) % 4096, nakked := false, owed := owed }
    (k (t.takeAck p h)).payBack p
  else if laterThan 12 h.seq l.rxSeq then s.sendNak p else s

/-- The step of a frame received on port `p`. -/
def State.rx (s : State) (p : Nat) (h : FrameHdr) (vc : Option Nat) (k : State → State) : Outcome State Fault Refusal :=
  unitStep p 4 (s.ready && s.portUp p) (s.receive p h vc k) s

/-- The frame is of this module's epoch (R340). -/
def State.epochOk (s : State) (h : FrameHdr) : Bool := h.epoch % 256 == s.reg SPAN_EPOCH.EPOCH % 256

/-- A frame for another module goes on (R335): the header is kept but for what belongs to each hop. -/
def State.forward (s : State) (h : FrameHdr) (bit8 : Bool) (b : FrameBody) : State :=
  s.sendOn bit8 { hdr := h, body := b }

/-- A frame of the epoch: here, or passed on. -/
def State.deliverFrame (s : State) (h : FrameHdr) (bit8 : Bool) (b : FrameBody) (k : State → State) : State :=
  if !s.epochOk h then s else if h.dst == s.self then k s else s.forward h bit8 b

/-- NAK (R334). -/
def execNak (p : Nat) (h : FrameHdr) (seq : Nat) (s : State) : Outcome State Fault Refusal :=
  s.rx p h none fun t => if t.epochOk h then t.resend p seq else t

/-- SPAN_FRAME_ERROR (R334): a CRC error. -/
def execSpanFrameError (p : Nat) (s : State) : Outcome State Fault Refusal :=
  unitStep p 4 (s.ready && s.portUp p) ((s.count SPAN_P_CRC_ERR.COUNT (spD p)).sendNak p) s

/-- SPAN_IDLE_FRAME (R333, R334). -/
def execSpanIdleFrame (p : Nat) (h : FrameHdr) (s : State) : Outcome State Fault Refusal :=
  unitStep p 4 (s.ready && s.portUp p) (s.takeAck p h) s

/-! ## HELLO (R336, R341, R342) -/

/-- The 32-bit GBL_FW_VERSION. -/
def State.fwVersion (s : State) : Nat :=
  s.reg GBL_FW_VERSION.PATCH + 2 ^ 8 * s.reg GBL_FW_VERSION.MINOR + 2 ^ 16 * s.reg GBL_FW_VERSION.MAJOR
    + 2 ^ 24 * s.reg GBL_FW_VERSION.SVN
def State.digest (s : State) : Nat := s.reg64 SPAN_DIGEST_LO.DIGEST SPAN_DIGEST_HI.DIGEST

/-- The module has a number. -/
def State.numbered (s : State) : Bool := s.isHead || s.isMember || s.node.acked

/-- This module's HELLO. -/
def State.helloNow (s : State) : Hello :=
  { serial := Config.serial.toNat, digest := s.digest, version := s.fwVersion, epoch := s.reg SPAN_EPOCH.EPOCH,
    module := if s.numbered then s.self else 0xFF, state := s.spanState, spanId := s.reg SPAN_ID.ID,
    t1 := s.dtimeNow, corr := 0, peers := (List.range 4).map fun p => (s.peer? p).getD 4 }

/-- A HELLO on every port that is up, and to the head along the route. -/
def State.sendHellos (s : State) : State :=
  let s := ((List.range 4).filter s.portUp).foldl (fun t p =>
    t.sendFrame p (t.newFrame (t.reg SPAN_P_STATUS.PEER (spD p)) 0 0 (.hello t.helloNow))) s
  if (s.isMember || s.node.acked) && s.routed 0 then s.sendTo 0 0 0 (.hello s.helloNow) else s

/-- HELLO_TRANSMIT (R336). -/
def execHelloTransmit (s : State) : Outcome State Fault Refusal :=
  stepIf (s.ready && s.regB SPAN_CTRL.EN) s.sendHellos s

/-- The module that a serial number is listed for (SPAN_MEMBER). -/
def State.listed (s : State) (serial : Nat) : Option Nat :=
  [1, 2, 3].find? fun m => s.reg64 SPAN_MEMBER_LO.SERIAL SPAN_MEMBER_HI.SERIAL (memD m) == serial

/-- A JOIN of this module goes to the head; the staged digest comes into force with it. -/
def State.sendJoin (s : State) : State :=
  let s := (s.applyStaged SPAN_DIGEST_LO.DIGEST).applyStaged SPAN_DIGEST_HI.DIGEST
  s.sendTo 0 0 0 (.join s.helloNow)

/-- JOIN_TRANSMIT (R337). -/
def execJoinTransmit (s : State) : Outcome State Fault Refusal :=
  stepIf (s.ready && s.regB SPAN_CTRL.EN && s.reg SPAN_CTRL.ROLE == roleMember && s.spanState == stJoining
    && !s.node.acked) s.sendJoin s

/-- A forced rejoin (R340): a span-leave reset, then a JOIN. -/
def State.rejoin (s : State) (epoch : Nat) : State :=
  (((s.pfEvent 0x0608 (some (epoch % 2 ^ 16))).spanLeave stJoining)).sendJoin

/-- A HELLO names the peer of a port; at the head an unnumbered module is known by its serial. -/
def State.notePeer (s : State) (p : Nat) (h : Hello) : State :=
  match (if h.module < 4 then some h.module else if s.isHead then s.listed h.serial else none) with
  | none => s
  | some m =>
    let n := s.node.heard
    let new := !bit n p || s.reg SPAN_P_STATUS.PEER (spD p) != m
    let s : State := { (s.setReg SPAN_P_STATUS.PEER (spD p) m) with
      node := { s.node with heard := if bit n p then n else n + 2 ^ p } }
    if new && s.isHead then s.ownRoutes else s

/-- A HELLO that comes from the head: another epoch forces a rejoin, the same one ends HOLD (Table 14-6). -/
def State.helloFromHead (s : State) (h : Hello) : State :=
  if !(h.module == 0 && h.state == stHead && h.spanId == s.reg SPAN_ID.ID) then s
  else if s.spanState == stActive || s.spanState == stHold then
    if h.epoch != s.reg SPAN_EPOCH.EPOCH then s.rejoin h.epoch
    else if s.spanState == stHold && !s.node.expired then s.setSpan stActive
    else s
  else s

/-- The head answers a member's HELLO, and learns the peers that it reports. -/
def State.answerHello (s : State) (hdr : FrameHdr) (h : Hello) : State :=
  if s.isHead && 1 ≤ h.module && h.module ≤ 3 && s.memAlive h.module then
    let changed := SMap.get s.node.adj h.module [] != h.peers
    let s : State := { s with node := { s.node with adj := SMap.put s.node.adj h.module h.peers [] } }
    let s := if changed then s.spreadRoutes (s.reg SPAN_EPOCH.EPOCH) else s
    if hdr.dst = 0 then s.sendTo h.module 0 0 (.helloRsp h.t1 s.dtimeNow s.dtimeNow 0) else s
  else s

/-- A HELLO for another module goes on, with its forwarding time of at most 120 ns added (R335, R336). -/
def State.passHello (s : State) (hdr : FrameHdr) (h : Hello) : State :=
  let r := s.drawBytes 1
  r.2.forward hdr false (.hello { h with corr := h.corr + leNat r.1 % 121 })

/-- HELLO (R336, R340), which wakes the port's domains (R73). One whose forwarding time is 0 comes from the peer
itself. -/
def execHello (p : Nat) (hdr : FrameHdr) (h : Hello) (s : State) : Outcome State Fault Refusal :=
  s.rx p hdr (some 0) fun t =>
    let t := (t.wakeOn (220 + 2 * p) 7).wakeOn (221 + 2 * p) 7
    let t := if h.corr = 0 then t.notePeer p h else t
    if h.corr != 0 && hdr.dst != t.self then t.passHello hdr h
    else if h.corr = 0 && t.numbered && hdr.dst != t.self && hdr.dst == 0 && !t.isHead then t.passHello hdr h
    else (t.helloFromHead h).answerHello hdr h

/-- The offset of R341, in whole ns; where it is half a ns more, either neighbour. -/
def State.offsetOf (s : State) (x : Exchange) : Int × State :=
  let a : Int := ((x.t2 : Int) - x.t1 - x.corrFwd) - ((x.t4 : Int) - x.t3 - x.corrRev)
  if a % 2 = 0 then (a / 2, s)
  else let r := s.drawBool; (a / 2 + (if r.1 then 1 else 0), r.2)

/-- SPAN_TIME_TOL: 0 is taken as 1000. -/
def State.timeTol (s : State) : Nat := let v := s.reg SPAN_TIME_TOL.NS; if v = 0 then 1000 else v

/-- R341's runs: three beyond the tolerance make the member TIME_SUSPECT, eight within it end that. -/
def State.judgeOffset (s : State) (off : Int) : State :=
  if off.natAbs > s.timeTol then
    let n := min 3 (s.node.badRun + 1)
    let s : State := { s with node := { s.node with badRun := n, goodRun := 0 } }
    if n ≥ 3 && !s.regB SPAN_STATUS.TIME_SUSPECT then
      (s.setReg SPAN_STATUS.TIME_SUSPECT 0 1).pfEvent 0x0606 (some s.self) (unsigned 64 off)
    else s
  else
    let n := min 8 (s.node.goodRun + 1)
    let s : State := { s with node := { s.node with badRun := 0, goodRun := n } }
    if n ≥ 8 && s.regB SPAN_STATUS.TIME_SUSPECT then
      (s.setReg SPAN_STATUS.TIME_SUSPECT 0 0).pfEvent 0x0607 (some s.self)
    else s

/-- A member that follows the head steers its DTIME with the servo of R218 (R342). -/
def State.follow (s : State) (off : Int) : State :=
  if s.regB SPAN_CTRL.TIME_FOLLOW && !s.regB GNT_GPTP_CTRL.EN then
    if off.natAbs > 1000 * s.reg GNT_GPTP_CTRL.STEP_THRESH_US then
      ({ s with quartz := { s.quartz with stepPend := s.quartz.stepPend + off } } : State).pfEvent 0x0322
    else
      s.setReg QTZ_DTIME_RATE.RATE 0 (unsigned 32
        (clampRate (Config.servoRate (-off) (signed 32 (s.reg QTZ_DTIME_RATE.RATE)))))
  else s

/-- A member's exchange with the head (R341): an exchange over a step of DTIME does not count. -/
def State.exchange (s : State) (x : Exchange) : State :=
  if x.stepped || !(s.isMember || s.node.acked) then s
  else
    let r := s.offsetOf x
    let s := r.2.setReg SPAN_OFFSET.NS (4 * r.2.self) (sat32 r.1)
    let s := (s.judgeOffset r.1).follow r.1
    s.sendTo 0 0 0 (.ctrl (.time r.1 (s.regB SPAN_STATUS.TIME_SUSPECT)))

/-- HELLO_RSP (R341): T4 is the DTIME at which this module received it. -/
def execHelloRsp (p : Nat) (hdr : FrameHdr) (x : Exchange) (s : State) : Outcome State Fault Refusal :=
  s.rx p hdr (some 0) fun t =>
    if hdr.dst == t.self then t.exchange x
    else
      let r := t.drawBytes 1
      r.2.forward hdr false (.helloRsp x.t1 x.t2 x.t3 (x.corrRev + leNat r.1 % 121))

/-! ## JOIN at the head (R337 to R339) -/

/-- Table 14-3's third row: how a newcomer differs from the head. -/
def State.differs (s : State) (digest version : Nat) : Nat × Nat :=
  (b2n (digest != s.digest), b2n (version != s.fwVersion))

/-- The answer to module `m`'s JOIN (R338). -/
def State.joinAck (s : State) (m : Nat) (admitted : Bool) : State :=
  s.sendTo m 0 0 (.joinAck m (s.reg SPAN_EPOCH.EPOCH) admitted (s.routesFor m))

/-- The newcomer is quarantined. -/
def State.quarantine (s : State) (m digest version : Nat) : State :=
  let d := s.differs digest version
  let s := (s.setReg SPAN_MEMBER_STATUS.STATE (4 * m) memQuarantine).spreadRoutes (s.reg SPAN_EPOCH.EPOCH) m
  (s.pfEvent 0x0602 (some (m + 2 ^ 8 * d.1 + 2 ^ 9 * d.2))).joinAck m false

/-- The newcomer is admitted (R338, R340): the routes for the others, JOIN_ACK, copies of its tables' entries and
the commit records that it has not applied, then the routes for it, which end its catch-up. -/
def State.admitModule (s : State) (m : Nat) : State :=
  let old := s.reg SPAN_EPOCH.EPOCH
  let s := (s.setReg SPAN_MEMBER_STATUS.STATE (4 * m) memJoining).nextEpoch
  let s := (s.spreadRoutes old m).joinAck m true
  let mine := (List.range 256).filter fun t => (s.tMods t).contains m
  let s := mine.foldl (fun u t => u.sendTo m 0 0 (.ctrl (.catalogue t (u.catalogueEntry t)))) s
  let s := (s.records.filter (·.1 == m)).foldl (fun u r => u.sendTo m 0 0 (.ctrl (.commitRecord r.2.1 r.2.2)))
    { s with records := s.records.filter (·.1 != m) }
  s.sendTo m 0 0 (.ctrl (.routes (s.reg SPAN_EPOCH.EPOCH) (s.routesFor m)))

/-- The hardware rule (Table 14-3). -/
def State.decideJoin (s : State) (m digest version : Nat) : State :=
  if s.differs digest version = (0, 0) then s.admitModule m else s.quarantine m digest version

/-- A JOIN is refused: the newcomer stays JOINING. -/
def State.refuseJoin (s : State) (unlisted active : Bool) (serial : Nat) : State :=
  s.pfEvent 0x0613 (some (b2n unlisted + 2 * b2n active)) serial

/-- A JOIN as one F12 item. A second JOIN while the host decides the first is part of the same item. -/
def State.judgeJoin (s : State) (h : Hello) : State :=
  if h.spanId != s.reg SPAN_ID.ID then s.refuseJoin true false h.serial
  else match s.listed h.serial with
    | none => s.refuseJoin true false h.serial
    | some m =>
      if s.memState m == memActive || s.memState m == memJoining then s.refuseJoin false true h.serial
      else if s.handoffs.any fun x => x.func == 12 && x.args.headD 4 == m then s
      else
        let s : State := { s with node := { s.node with adj := SMap.put s.node.adj m h.peers [] } }
        let s := s.applyMode 12
        if s.regB MODE_F.MODE 48 then
          let r := s.postHandoff (s.handler 12) 12 none
            (leBytes 4 m ++ leBytes 8 h.digest ++ leBytes 4 h.version ++ leBytes 4 h.epoch) [] [m, h.digest, h.version]
          if r.2 then r.1 else r.1.decideJoin m h.digest h.version
        else s.decideJoin m h.digest h.version

/-- JOIN (R337): a module on the way passes it on. -/
def execJoin (p : Nat) (hdr : FrameHdr) (h : Hello) (s : State) : Outcome State Fault Refusal :=
  s.rx p hdr (some 0) fun t =>
    if t.isHead then t.judgeJoin h
    else if t.isMember then
      ({ t with node := { t.node with joinFrom := p + 1 } } : State).forward hdr false (.join h)
    else t

/-! ## A member's side of joining -/

/-- A JOIN_ACK at its module (R338 to R340), which tells it whether it is admitted: then it catches up, JOINING
until it is ACTIVE. -/
def State.takeAckOfJoin (s : State) (m epoch : Nat) (admitted : Bool) (routes : List Nat) : State :=
  if (s.spanState == stActive || s.spanState == stHold) && epoch != s.reg SPAN_EPOCH.EPOCH then s.rejoin epoch
  else if s.spanState == stJoining || s.spanState == stQuarantine || s.spanState == stHold then
    let s := (s.renumber m).setReg SPAN_ROUTE.ROUTE 0 (routeWord routes)
    let s : State := { (s.setReg SPAN_EPOCH.EPOCH 0 epoch) with
      node := { s.node with acked := admitted, expired := false } }
    s.setSpan (if admitted then stJoining else stQuarantine)
  else s

/-- JOIN_ACK (R338). It is for the module itself, or goes on to the module it names. -/
def execJoinAck (p : Nat) (hdr : FrameHdr) (m epoch : Nat) (admitted : Bool) (routes : List Nat) (s : State) :
    Outcome State Fault Refusal :=
  s.rx p hdr (some 0) fun t =>
    if m < 4 && (!t.numbered || t.self == m) then t.takeAckOfJoin m epoch admitted routes
    else t.forward hdr false (.joinAck m epoch admitted routes)

/-- LEAVE (R349). -/
def execLeave (p : Nat) (hdr : FrameHdr) (s : State) : Outcome State Fault Refusal :=
  s.rx p hdr (some 0) fun t =>
    t.deliverFrame hdr false .leave fun u => if u.memIn hdr.src then u.loseMember hdr.src 4 else u

/-- HEAD_LOST (R347). -/
def execHeadLost (s : State) : Outcome State Fault Refusal :=
  stepIf (s.ready && s.spanState == stActive) s.hold s

/-- HOLD_EXPIRED (R347): a span-leave reset; the member stays in HOLD. -/
def execHoldExpired (s : State) : Outcome State Fault Refusal :=
  let t := s.spanLeave stHold
  stepIf (s.ready && s.spanState == stHold && !s.node.expired)
    (({ t with node := { t.node with expired := true } } : State).pfEvent 0x0605 (some 0)) s

/-- SPAN_DIGEST written (R339): a quarantined module JOINs with it. -/
def State.digestWritten (s : State) : State := if s.spanState == stQuarantine then s.sendJoin else s

/-- SPAN_DIGEST_WRITE (R339): the 64-bit digest. -/
def execSpanDigestWrite (val : Nat) (s : State) : Outcome State Fault Refusal :=
  stepIf s.running (((s.stage SPAN_DIGEST_LO.DIGEST 0 val).stage SPAN_DIGEST_HI.DIGEST 0 (val / 2 ^ 32)).digestWritten) s

/-! ## REQ and RSP (R343) -/

/-- Bit 8 of the address of a REQ. -/
def workBit8 : RemoteWork → Bool
  | .read a _ => bit a 8
  | .write a _ _ => bit a 8

/-- A run of bytes in payloads of 284 B. -/
def chunks (n : Nat) : Bytes → Nat → List Bytes
  | _, 0 => []
  | bs, k + 1 => bs.take n :: chunks n (bs.drop n) k

/-- The answer to a remote part: its data in RSP frames. -/
def State.answerPart (s : State) (h : FrameHdr) (bit8 : Bool) (data : Bytes) (poison : Bool) : State :=
  (chunks 284 data (max 1 (ceilDiv data.length 284))).foldl (fun t d =>
    t.sendOn bit8 (t.newFrame h.src h.prio h.tag (.rsp d poison))) s

/-- This module's engines carry out a REQ. A write with poisoned lines poisons them. -/
def State.doPart (s : State) (h : FrameHdr) (w : RemoteWork) : State :=
  match w with
  | .read a n =>
    let m := (mx s).rd (s.lin a) n
    m.2.s.answerPart h (bit a 8) m.1 m.2.bad
  | .write a d ps =>
    let m := (mx s).copyIn (s.lin a) d fun i => ps.contains ((a + i) / 64 - a / 64)
    m.1.s.answerPart h (bit a 8) [] m.1.bad

/-- A remote part may be carried out: this module is ACTIVE, the address is its own. -/
def State.partHere (s : State) (w : RemoteWork) : Bool :=
  s.spanState == stActive && (match w with
    | .read a n => (s.locate true a n).isLeft && (a ≥ 2 ^ 63 || a / moduleSpan == s.self)
    | .write a d _ => (s.locate true a d.length).isLeft && (a ≥ 2 ^ 63 || a / moduleSpan == s.self))

/-- REQ (R343). One for an instance that has since been reset is suppressed (R157); in HOLD and in quarantine
nothing is answered (R338, R347). -/
def execReq (p : Nat) (hdr : FrameHdr) (work : RemoteWork) (suppressed : Bool) (io : OpIo) (s : State) :
    Outcome State Fault Refusal :=
  s.rx p hdr (some 1) fun t =>
    t.deliverFrame hdr (workBit8 work) (.req 0 (some work)) fun u =>
      if suppressed || !u.partHere work then u else (u.plant io.upsets).doPart hdr work

/-- Module `m` has answered its part of the operation under `tag`. -/
def State.partDone (s : State) (tag m : Nat) : State :=
  match s.op? tag with
  | none => s
  | some o => match o.phase with
    | .held w args =>
      if w != heldRemote then s
      else
        let rest := (args.drop 3).filter (· != m)
        if rest.isEmpty then
          (s.finish tag (args.getD 0 0) (decOpt (args.getD 1 0)) (decOpt (args.getD 2 0))).settleRemote
        else (s.setOp tag { o with phase := .held heldRemote (args.take 3 ++ rest), since := s.ticks }).settleRemote
    | _ => s

/-- RSP (R343). -/
def execRsp (p : Nat) (hdr : FrameHdr) (data : Bytes) (poison : Bool) (s : State) : Outcome State Fault Refusal :=
  s.rx p hdr (some 2) fun t =>
    t.deliverFrame hdr false (.rsp data poison) fun u => if hdr.tag = 0 then u else u.partDone (hdr.tag - 1) hdr.src

/-! ## CTRL (R333) -/

/-- A catalogue entry's copy taken into table `t`'s descriptor (R288). -/
def State.installEntry (s : State) (t : Nat) (entry : Bytes) : State :=
  let s := tdWords.foldl (fun u w =>
    let v := fieldLE entry w.1 4
    w.2.1.foldl (fun x (F : Fld) => x.setReg F (tdD t + w.2.2) (bits v F.lo F.w)) u) s
  (s.catLines t).foldl (fun u l => if u.isPoison l then u.freshLine l else u) s

/-- A member's catch-up has ended, the parts of its commit records applied: it reports READY and is ACTIVE (R338). -/
def State.caughtUp (s : State) : State :=
  if s.node.acked then
    let s : State := { (s.setSpan stActive) with node := { s.node with acked := false }, records := [] }
    s.sendTo 0 0 0 (.ctrl .ready)
  else s

/-- Routes and epoch from the head. The ones that follow an admission end the catch-up. -/
def State.takeRoutes (s : State) (epoch : Nat) (r : List Nat) : State :=
  if s.isMember || s.node.acked then
    (((s.setReg SPAN_EPOCH.EPOCH 0 epoch).setReg SPAN_ROUTE.ROUTE 0 (routeWord r)).reroute).caughtUp
  else s

/-- READY from module `m` (R338): it is ACTIVE. -/
def State.memberReady (s : State) (m : Nat) : State :=
  if s.isHead && m < 4 && s.memState m == memJoining then
    (s.setReg SPAN_MEMBER_STATUS.STATE (4 * m) memActive).pfEvent 0x0601 (some m)
  else s

/-- An epoch confirmation (R345): the head notes it; a member answers the head's. -/
def State.confirmEpoch (s : State) (src epoch : Nat) : State :=
  if s.isHead then
    if epoch != s.reg SPAN_EPOCH.EPOCH then s
    else
      let mark (o : Op) : Op := match o.phase with
        | .held w [mods, done, check] =>
          if w == heldSync && bit mods src && !bit done src
          then { o with phase := .held w [mods, done + 2 ^ src, check] } else o
        | _ => o
      ({ s with ops := s.ops.map fun (e : Nat × Op) => (e.1, mark e.2) } : State).settleSyncs
  else if src = 0 then s.sendTo 0 0 0 (.ctrl (.confirm (s.reg SPAN_EPOCH.EPOCH)))
  else s

/-- A member's offset at the head (Table 14-7, Table 14-8). -/
def State.noteTime (s : State) (m : Nat) (ns : Int) (suspect : Bool) : State :=
  if s.isHead && s.memAlive m then
    let was := s.regB SPAN_MEMBER_STATUS.TIME_SUSPECT (4 * m)
    let s := (s.setReg SPAN_OFFSET.NS (4 * m) (sat32 ns)).setReg SPAN_MEMBER_STATUS.TIME_SUSPECT (4 * m) (b2n suspect)
    if suspect && !was then s.pfEvent 0x0606 (some m) (unsigned 64 ns)
    else if !suspect && was then s.pfEvent 0x0607 (some m)
    else s
  else s

/-- A CTRL frame at its destination. A quarantined module has no Jasper binding and no tables (R338). A commit
record is kept by its owner: it and the span's have the parts of a commit applied after a loss (R301, Table 12-6). -/
def State.doCtrl (s : State) (src : Nat) : CtrlWork → State
  | .routes e r => if src = 0 then s.takeRoutes e r else s
  | .mailbox c w => if s.isHead || s.spanState == stActive then s.jspFromSpan src (c % 32) w else s
  | .catalogue t e => if (s.isMember || s.node.acked) && src = 0 && t < 256 then s.installEntry t e else s
  | .commitRecord t r =>
    if (s.isMember || s.node.acked) && src = 0 then { s with records := s.records ++ [(s.self, t, r)] } else s
  | .ready => s.memberReady src
  | .confirm e => s.confirmEpoch src e
  | .time ns b => s.noteTime src ns b

/-- CTRL (R333). -/
def execCtrl (p : Nat) (hdr : FrameHdr) (work : CtrlWork) (s : State) : Outcome State Fault Refusal :=
  s.rx p hdr (some 0) fun t => t.deliverFrame hdr false (.ctrl work) fun u => u.doCtrl hdr.src work

/-! ## SPAN_CTRL's other fields -/

/-- EN set: a member starts to JOIN, and ports may train. -/
def State.spanEnable (s : State) : State :=
  if s.regB SPAN_CTRL.EN then s
  else
    let s := s.setReg SPAN_CTRL.EN 0 1
    let s := if s.reg SPAN_CTRL.ROLE == roleMember && s.spanState == stAlone then s.setSpan stJoining else s
    s.settlePorts

/-- EN cleared: membership ends, and the ports go down. -/
def State.spanDisable (s : State) : State :=
  if !s.regB SPAN_CTRL.EN then s
  else
    let s := if s.isHead then
        let s := (([1, 2, 3].filter s.memIn).foldl (fun t m =>
          (t.setReg SPAN_MEMBER_STATUS.STATE (4 * m) memAbsent).dropMember m) s)
        (s.setSpan stAlone).setReg SPAN_ROUTE.ROUTE 0 0
      else if s.inSpan then s.spanLeave stAlone else s
    (s.setReg SPAN_CTRL.EN 0 0).settlePorts

/-! ## SPAN_SYNC (R345) -/

/-- SPAN_SYNC's effect: the head asks each module for its epoch. -/
def State.syncOp (s : State) (tag : Nat) (o : Op) (e : Sqe) : State :=
  let mods := e.fld 32 1
  let far := (List.range 4).filter fun m => bit mods m && m != s.self
  if far.any fun m => !s.activeModule m then
    s.finish tag ERR_SPAN_LOST (some (if bit mods s.self then 2 ^ s.self else 0))
  else
    let own := if bit mods s.self then 2 ^ s.self else 0
    let s := far.foldl (fun t m => t.sendTo m 0 0 (.ctrl (.confirm (t.reg SPAN_EPOCH.EPOCH)))) s
    (s.setOp tag { o with phase := .held heldSync [mods, own, e.fld 33 1] }).settleSyncs

/-- SPAN_SYNC (R345). -/
def execSpanSync (tag : Nat) (_ : OpIo) (s : State) : Outcome State Fault Refusal :=
  answer s (s.runOp tag 0x0701 anyone
    (fun _ e => orDescriptor (e.fld 32 1 < 16 && e.fld 33 1 < 2 && e.rsv [(34, 30)]))
    fun o e => s.syncOp tag o e)

/-! ## SPAN_ALLREDUCE (R346) -/

/-- One step of a reduction in FP32, or on the 32-bit integers. -/
def reduceStep (op ty x y : Nat) : Nat :=
  if ty = 3 then
    if op = 0 then (x + y) % 2 ^ 32
    else if op = 1 then (if signed 32 x < signed 32 y then y else x)
    else (if signed 32 y < signed 32 x then y else x)
  else if op = 0 then f32.add x y
  else if op = 1 then f32.larger x y
  else if f32.lt y x then y else x

/-- An element as it is reduced, and the result as it is written. -/
def reduceIn (ty x : Nat) : Nat := if ty = 1 then bf16.conv f32 x else x
def reduceOut (ty x : Nat) : Nat := if ty = 1 then f32.conv bf16 x else x

/-- The reduced elements of the modules' buffers, in ascending module number. -/
def reduceAll (op ty n : Nat) (bufs : List Bytes) : Bytes :=
  let sz := reduceSize ty
  (List.range n).flatMap fun i =>
    match bufs.map fun b => reduceIn ty (fieldLE b (sz * i) sz) with
    | [] => leBytes sz 0
    | x :: xs => leBytes sz (reduceOut ty (xs.foldl (reduceStep op ty) x))

/-- The modules that a mask names, ascending. -/
def maskMods (mask : Nat) : List Nat := (List.range 4).filter (bit mask ·)

/-- SPAN_ALLREDUCE's effect. -/
def State.reduceOp (s : State) (tag : Nat) (e : Sqe) : State :=
  let ty := e.fld 33 1
  let n := e.fld 36 4
  let len := reduceSize ty * n
  let ms := maskMods (e.fld 34 1)
  let r := ms.foldl (fun (a : List Bytes × Mx) m =>
    let x := a.2.rd (m * moduleSpan + e.fld 40 8) len
    (a.1 ++ [x.1], x.2)) ([], mx s)
  let out := reduceAll (e.fld 32 1) ty n r.1
  (ms.foldl (fun m k => m.wr (k * moduleSpan + e.fld 48 8) out) r.2).done tag OK (some n) none ms

/-- The checks of Table 14-4. -/
def reduceOk (e : Sqe) : Bool :=
  let ty := e.fld 33 1
  let m := e.fld 34 1
  e.fld 32 1 ≤ 2 && (ty == 1 || ty == 3 || ty == 4) && m < 16 && bit m 0 && (maskMods m).length ≥ 2
    && e.rsv [(35, 1), (56, 8)] && 1 ≤ e.fld 36 4 && e.fld 36 4 ≤ 2 ^ 28 && e.fld 40 8 % 64 == 0
    && e.fld 48 8 % 64 == 0

/-- SRC and DST are local offsets: they are in range on each module, and each module is active (R382). -/
def State.reduceErr (s : State) (e : Sqe) : Option Nat :=
  if !reduceOk e then some ERR_DESCRIPTOR
  else
    let len := reduceSize (e.fld 33 1) * e.fld 36 4
    if !((s.locateLocal (e.fld 40 8) len).isLeft && (s.locateLocal (e.fld 48 8) len).isLeft) then some ERR_ACCESS
    else if (maskMods (e.fld 34 1)).any fun m => !s.activeModule m then some ERR_SPAN_LOST
    else none

/-- SPAN_ALLREDUCE (R346). -/
def execSpanAllreduce (tag : Nat) (io : OpIo) (s : State) : Outcome State Fault Refusal :=
  answer s (s.runOp tag 0x0702 anyone (fun _ e => s.reduceErr e) fun _ e => (s.plant io.upsets).reduceOp tag e)

end Sys2Proof.Machine
end

