-- ==== Sys2Proof/Machine/RegRead.lean ====
section
/-!
DEFINITION. Reading the registers of BAR0 (Table 6-2): which register an offset names, the views that a
window or a selector gives, the fields that are read from other state, and the high-word latch of R15.
-/
namespace Sys2Proof.Machine
open Host (Outcome)

/-! ## Which register an offset names -/

/-- The blocks of Table 6-2: first offset, the offset after the last, their code and their registers. -/
def blockMap : List (Nat × Nat × Blk × List Reg) :=
  [(0x0000, 0x0400, .gbl, regsGbl), (0x0400, 0x0800, .qtz, regsQtz), (0x0800, 0x0C00, .tpz, regsTpz),
   (0x0C00, 0x1000, .lps, regsLps), (0x1000, 0x1400, .pdt, regsPdt), (0x1400, 0x1800, .opl, regsOpl),
   (0x1800, 0x1C00, .mode, regsMode), (0x1C00, 0x2000, .amb, regsAmb), (0x2000, 0x3000, .qp, regsQp),
   (0x3000, 0x4000, .jsp, regsJsp), (0x4000, 0x5000, .gnt, regsGnt), (0x5000, 0x5400, .jde, regsJde),
   (0x5400, 0x5800, .brl, regsBrl), (0x5800, 0x5C00, .fct, regsFct), (0x5C00, 0x6000, .spn, regsSpn),
   (0x6000, 0x6400, .agt, regsAgt), (0x6400, 0x6800, .zrc, regsZrc), (0x6800, 0x6C00, .span, regsSpan),
   (0x6C00, 0x7000, .qtz, regsQtzDom), (0x8000, 0x10000, .win, regsWin)]

/-- The block that an offset lies in. -/
def blockAt (off : Nat) : Option (Blk × List Reg) :=
  (blockMap.find? fun b => b.1 ≤ off && off < b.2.1).map fun b => b.2.2

/-- The displacement of the element of a register (array) whose word is at `off`. -/
def Reg.at? (r : Reg) (off : Nat) : Option Nat :=
  if off < r.off then none
  else
    let d := off - r.off
    match r.dims with
    | [] => if d = 0 then some 0 else none
    | [(k, n)] => if d % k = 0 && d / k < n then some d else none
    | (k, n) :: (j, m) :: _ =>
      if d / k < n && d % k % j = 0 && d % k / j < m then some d else none

/-- A register is two words wide. -/
def Reg.two (r : Reg) : Bool := r.width == .wide || r.width == .wideRo

/-- A word of the register file: its block, its register, the displacement of the element, and whether it is
the high word of a 64-bit counter. -/
structure Word32 where
  blk : Blk
  reg : Reg
  d : Nat
  high : Bool
deriving DecidableEq, Repr

/-- The word at an aligned offset with its own register; none where it is reserved. -/
def wordAt (off : Nat) : Option Word32 :=
  match blockAt off with
  | none => none
  | some (b, rs) => firstSome (fun r => match r.at? off with
      | some d => some ⟨b, r, d, false⟩
      | none => if r.two then (if off < 4 then none else (r.at? (off - 4)).map fun d => ⟨b, r, d, true⟩) else none) rs

/-- The k-th queue pair that instance `n` owns, in ascending number (R134). -/
def State.slotQp (s : State) (n k : Nat) : Option Nat := (allQps.filter fun q => s.qpInst q == n)[k]?

/-- Where the word at PF 0's offset `off` lives: an instance window shows its queue pairs in slots and the
mailbox that INST_MBX_SEL names (R134, R193). -/
def State.homeOff (s : State) (off : Nat) : Option Nat :=
  if off < 0x8000 || 0x10000 ≤ off then some off
  else
    let n := (off - 0x8000) / 0x800
    let w := (off - 0x8000) % 0x800
    if 0x180 ≤ w && w < 0x200 then some (0x3000 + 128 * s.reg INST_MBX_SEL.CHAN (winD n) + (w - 0x180))
    else if 0x400 ≤ w then (s.slotQp n ((w - 0x400) / 64)).map fun q => 0x2000 + qpD q + w % 64
    else some off

/-- The view that a selector gives of the word at `off`: a displacement above BAR0. -/
def State.viewOf (s : State) (off : Nat) : Nat :=
  if 0x5D00 ≤ off && off < 0x5E00 then selD (s.reg SPN_TD_SEL.TABLE)
  else if (0x6008 ≤ off && off ≤ 0x6014) || off = 0x601C then selD (s.reg AGT_POOL_SEL.MODULE)
  else if off = 0x6030 then selD (s.reg AGT_HQ_SEL.MODULE)
  else if 0x6048 ≤ off && off < 0x6060 then
    selD (256 * s.reg AGT_LAYER_SEL.LAYER + s.reg AGT_EXP_SEL.EXPERT)
  else if 0x6100 ≤ off && off < 0x6180 then selD (s.reg AGT_LAYER_SEL.LAYER)
  else 0

/-- The word at PF 0's offset `off`, through windows and selectors. -/
def State.word? (s : State) (off : Nat) : Option Word32 :=
  match s.homeOff off with
  | none => none
  | some o => (wordAt o).map fun w => { w with d := w.d + s.viewOf o }

/-! ## Fields that are read from other state -/

/-- The numbers for which a test holds, as a mask. -/
def maskOf (n : Nat) (p : Nat → Bool) : Nat := ((List.range n).map fun i => if p i then 2 ^ i else 0).sum

/-- The operations that wait on a fence (Table 7-6). -/
def State.waiters (s : State) (p : Nat → Bool) : Nat :=
  (s.ops.filter fun e => e.2.phase == .waiting && e.2.sqe?.any fun q => p q.waitFence).length

/-- The bits of AMB_SAT_MAP and AMB_SAT_ANY (R368). -/
def State.satMap (s : State) (i : Nat) : Nat :=
  let k := s.reg AMB_SAT_SEL.BLOCK
  if k > 18 then 0
  else maskOf 32 fun b => SMap.get s.sats (satBase k (s.reg AMB_SAT_SEL.INST) + 32 * i + b) false
def State.satAny (s : State) : Nat := maskOf 19 fun k => s.sats.any fun e => e.2 && satBlock e.1 == k

/-- Table 11-12: 0 off, 1 idle, 2 staging, 3 computing, 4 held, 5 withdrawn, 6 failed. -/
def State.facetState (s : State) (f : Nat) : Nat :=
  if s.facetFailed f then 6
  else if (s.facet f).cur.isSome then 3
  else if s.withdrawn f then 5
  else if s.topaz.held.contains f then 4
  else if !s.facetUp f then 0
  else if (s.facet f).next.isSome then 2 else 1

/-- The most packets that one segment holds for a domain (Table 3-9). -/
def Domain.parkedMost (d : Domain) : Nat :=
  ((List.range 16).map fun i => (d.parked.filter (·.seg == 204 + i)).length).foldl max 0

/-- PD_PHASE (Table 3-9). -/
def PdPhase.code : PdPhase → Nat
  | .none => 0 | .drain => 1 | .rails => 3

/-- The age of the last velocity in ms: 0xFFFF without one, and at most that. -/
def State.velAge (s : State) : Nat :=
  if s.jade.velAt = 0 then 0xFFFF else min 0xFFFF ((s.ticks + 1 - s.jade.velAt) / 4000)

/-- The entry of the poison log that ZRC_PLOG_SEL names. -/
def State.plogAt (s : State) : PlogEntry := SMap.get s.plog (s.reg ZRC_PLOG_SEL.ENTRY) ⟨0, 0, 0, 0⟩

/-- The MAC address of port `p` (R203). -/
def macOf (p : Nat) : Nat := (Config.macBase.toNat + p) % 2 ^ 48

/-- A word of PDT_INST (Table 6-15), as a window mirrors it. -/
def State.pdtWord (s : State) (n : Nat) (second : Bool) : Nat :=
  if second then s.reg PDT_INST1.TAG_RESERVE (8 * n)
  else s.reg PDT_INST0.FENCE_BASE (8 * n) + 2 ^ 16 * s.reg PDT_INST0.FENCE_COUNT (8 * n)

/-- FAILED domains 0 to 63 (QTZ_FAILED). -/
def State.failedMask (s : State) : Nat := maskOf 64 fun n => (s.dom n).failed

/-- Fields of the GBL, QTZ, TPZ and LPS blocks, and of the domain table. -/
def State.calcSys (s : State) (F : Fld) (d : Nat) : Nat :=
  let n := d / 4
  if F = GBL_SERIAL_LO.SERIAL then Config.serial.toNat % 2 ^ 32
  else if F = GBL_SERIAL_HI.SERIAL then Config.serial.toNat / 2 ^ 32
  else if F = QTZ_STATUS.FAILED_ANY then b2n (s.domains.any fun e => e.2.failed)
  else if F = QTZ_DTIME_LO.DTIME then s.dtimeNow % 2 ^ 32
  else if F = QTZ_DTIME_HI.DTIME then s.dtimeNow / 2 ^ 32
  else if F = QTZ_FAILED_LO.FAILED then s.failedMask % 2 ^ 32
  else if F = QTZ_FAILED_HI.FAILED then s.failedMask / 2 ^ 32
  else if F = TPZ_STATUS.OVER then b2n (s.charged > s.budget)
  else if F = TPZ_FLOOR.FLOOR then min 1023 s.floorBU
  else if F = TPZ_CHARGED.CHARGED then min 1023 s.charged
  else if F = TPZ_FACETS.ACTIVE then s.activeFacets.length
  else if F = TPZ_FACETS.HELD then s.topaz.held.length
  else if F = LPS_STATUS.FUSED_SVN then max Config.fusedSvn.toNat s.boot.svn
  else if F = QTZ_DOM.STATE then (s.dom n).st.code
  else if F = QTZ_DOM.HW_FLOOR then (s.hwFloor n).code
  else if F = QTZ_DOM.PD_PHASE then (s.dom n).phase.code
  else if F = QTZ_DOM.PARKED then (s.dom n).parkedMost
  else if F = QTZ_DOM.WAKE_PEND then b2n ((s.dom n).wakePend || (s.dom n).attempt != 0)
  else b2n (F = QTZ_DOM.FAILED && (s.dom n).failed)

/-- Fields of the host interface: PDT, OPL, MODE, AMB, the queue pairs and the instance windows. -/
def State.calcHost (s : State) (F : Fld) (d : Nat) : Nat :=
  let n := d / 0x800
  let f := s.reg OPL_FENCE_SEL.INDEX
  if F = PDT_STATUS.TAGS_USED then s.ops.length
  else if F = PDT_STATUS.DEPTH then s.reg QTZ_STATUS.DEPTH
  else if F = OPL_WAITERS.COUNT then s.waiters fun _ => true
  else if F = OPL_FENCE_CTRL.ERROR then b2n (s.fence f).error
  else if F = OPL_FENCE_CTRL.WAITERS then min 0xFFFF (s.waiters (· == f))
  else if F = OPL_FENCE_VAL_LO.VALUE then (s.fence f).value % 2 ^ 32
  else if F = OPL_FENCE_VAL_HI.VALUE then (s.fence f).value / 2 ^ 32
  else if F = MODE_STATUS.ASSISTED then maskOf 13 fun i => s.regB MODE_F.MODE (4 * i)
  else if F = MODE_F.MODE_IN_FORCE then s.reg MODE_F.MODE d
  else if F = MODE_F.HANDLER_IN_FORCE then s.reg MODE_F.HANDLER d
  else if F = MODE_F.STAGED then b2n (s.modeStaged (d / 4))
  else if F = AMB_SAT_ANY.BLOCKS then s.satAny
  else if F = AMB_SAT_MAP.SAT then s.satMap (d / 4)
  else if F = QP_INFLIGHT.TAGS then s.inflight (d / 64)
  else if F = INST_STATUS.QP_COUNT then min 31 (allQps.filter fun q => s.qpInst q == n).length
  else if F = INST_RES_FENCE.VALUE then s.pdtWord n false
  else if F = INST_RES_TAG.VALUE then s.pdtWord n true
  else if F = HO_STATUS.PENDING then (s.hoPending n).length
  else 0

/-- Fields of the engines' blocks. No command leaves a Beryl engine, a Spinel lane or an Agate domain busy:
each of their operators takes effect in one step. -/
def State.calcEngine (s : State) (F : Fld) (d : Nat) : Nat :=
  let hq := s.hq (s.reg AGT_HQ_SEL.MODULE) (s.reg AGT_HQ_SEL.HQ)
  let cap := s.hqCap (s.reg AGT_HQ_SEL.MODULE) (s.reg AGT_HQ_SEL.HQ)
  let p := d / 0x80
  let k := d / 4
  if F = GNT_STATUS.KPPS_BOUND then s.kppsBound
  else if F = GNT_P_MAC_LO.MAC then macOf p % 2 ^ 32
  else if F = GNT_P_MAC_HI.MAC then macOf p / 2 ^ 32
  else if F = JDE_SPEED.VEL_AGE_MS then s.velAge
  else if F = JDE_VTAB.ENTRY then fieldLE s.jade.vtab (4 * k) 4
  else if F = JDE_SET_INFO.PRISMS then fieldLE (SMap.get s.jade.sets k []) 0 1
  else if F = JDE_SET_INFO.LOADED then b2n (s.setLoaded k)
  else if F = JDE_XFORM_LOADED.MASK then maskOf 10 s.xformLoaded
  else if F = FCT_STATUS.ACTIVE then ((List.range 64).filter s.mayTake).length
  else if F = FCT_STATUS.WITHDRAWN then ((List.range 64).filter s.withdrawn).length
  else if F = FCT_STATUS.FAILED then ((List.range 64).filter s.facetFailed).length
  else if F = FCT_WL_TILES.COUNT then s.workList.length
  else if F = FCT_F.STATE then s.facetState k
  else if F = FCT_F.PRIO then (match (s.facet k).cur with | some t => s.tilePrio t | none => 0)
  else if F = FCT_F.PIN_VALID then b2n (s.facet k).pin.isSome
  else if F = AGT_POOL_FREE.FREE then s.poolFree (s.reg AGT_POOL_SEL.MODULE)
  else if F = AGT_HQ_STATUS.DEPTH then hq.depth
  else if F = AGT_HQ_STATUS.OPEN then b2n hq.open_.isSome
  else if F = AGT_HQ_STATUS.FULL then b2n (hq.depth ≥ cap)
  else if F = AGT_HQ_INFO.EPOCH then hq.epoch
  else if F = AGT_HQ_INFO.SEGS then hq.segs.length
  else if F = AGT_HQ_CAP.CAP then cap
  else if F = ZRC_STATUS.DEGRADED then maskOf 8 fun c => s.reg ZRC_C_STATE.STATE (0x20 * c) == 1
  else if F = ZRC_STATUS.FAILED then maskOf 8 s.channelFailed
  else if F = ZRC_PLOG_ADDR_LO.ADDR then s.plogAt.addr % 2 ^ 32
  else if F = ZRC_PLOG_ADDR_HI.ADDR then s.plogAt.addr / 2 ^ 32
  else if F = ZRC_PLOG_INFO.SOURCE then s.plogAt.source
  else if F = ZRC_PLOG_INFO.CLASS then s.plogAt.cls
  else if F = ZRC_PLOG_INFO.ID then s.plogAt.id
  else if F = ZRC_PLOG_INFO.VALID then b2n (SMap.get? s.plog (s.reg ZRC_PLOG_SEL.ENTRY)).isSome
  else if F = SPAN_STATUS.ACTIVE then
    maskOf 4 fun m => s.isHead && (m == 0 || s.memState m == memActive)
  else if F = SPAN_STATUS.PORT_UP then maskOf 4 s.portUp
  else 0

/-- What a field reads as (Table 0-3). -/
def State.fieldVal (s : State) (F : Fld) (d : Nat) : Nat :=
  match F.acc with
  | .wo => 0
  | .w1s => if F = JSP_CTRL.GO then 0 else s.reg F d
  | .rws => s.regRead F d
  | .calc =>
    let o := F.off
    (if o < 0x1000 || (0x6C00 ≤ o && o < 0x8000) then s.calcSys F d
     else if o < 0x4000 || 0x8000 ≤ o then s.calcHost F d else s.calcEngine F d) % 2 ^ F.w
  | _ => s.reg F d

/-- The two words of a register, the first of them its own. -/
def State.wordVal (s : State) (w : Word32) : Nat :=
  let v := (w.reg.flds.map fun F => s.fieldVal F w.d * 2 ^ F.lo).sum
  if w.high then v / 2 ^ 32 % 2 ^ 32 else v % 2 ^ 32

/-- The word at PF 0's offset `off`, without side effects; reserved words are zero (R10). -/
def State.readOff (s : State) (off : Nat) : Nat := match s.word? off with | some w => s.wordVal w | none => 0

/-- All 64 bits of the register at `off`. -/
def State.read64 (s : State) (off : Nat) : Nat := s.readOff off + 2 ^ 32 * s.readOff (off + 4)

/-! ## A requester's reads -/

/-- PF 0's offset of offset `off` in the BAR0 of instance `n`; a core reads as PF 0 does. -/
def reqOff (req off : Nat) : Nat := if req = 0 || req ≥ 16 then off else 0x8000 + 0x800 * req + off

/-- BAR0 answers at this offset: outside start-up, of everything; in a warm reset, GBL only, all ones
elsewhere (R118); in recovery GBL, LPS and Jasper channel 0 (R114). -/
inductive Answer where
  | yes | ones | no
deriving DecidableEq, Repr

def State.answers (s : State) (off : Nat) : Answer :=
  if off < 0x400 then .yes
  else if !s.ready then .ones
  else if s.regB GBL_BOOT_STATUS.RECOVERY then
    (if (0x0C00 ≤ off && off < 0x1000) || (0x3000 ≤ off && off < 0x3080) then .yes else .no)
  else .yes

/-- A word that latches the other half of its register, and a word that reads the latch (R15). -/
def Word32.latches (w : Word32) : Bool := !w.high && (w.reg.two || w.reg.width == .latch)
def Word32.held (w : Word32) : Bool := w.high || w.reg.width == .high

/-- What a read of a word gives and does: the low word of a 64-bit register latches its high word for the
requester, and a high word is read from the latch, but one request for both halves takes them from one sample
(R15); a mailbox word is zero to a master that is not bound (R193), and the receiver's read of D15 empties the
channel (R196). -/
def State.readWord (s : State) (req o : Nat) (w : Word32) (both : Bool) : Nat × State :=
  let c := w.d / 128
  if w.blk == .jsp && w.reg.off = 0x3000 then
    (if s.boundTo c req then s.wordVal w else 0, if w.d % 128 / 4 = 15 then s.jspRead15 req c else s)
  else if w.held && !both then (SMap.get s.hiHold req 0, s)
  else if w.latches && !both then (s.wordVal w, { s with hiHold := SMap.put s.hiHold req (s.readOff (o + 4)) 0 })
  else (s.wordVal w, s)

/-- The aligned word `k` of a requester's BAR0, read whole by a request of `len` bytes at `off` (R11). A request
of 8 bytes at a word that latches reads both halves of its register (R15). -/
def State.readAt (s : State) (req off len k : Nat) : Nat × State :=
  let o := reqOff req (4 * k)
  match s.answers o with
  | .ones => (0xFFFFFFFF, s)
  | .no => (0, s)
  | .yes => match s.word? o with
    | none => (0, s)
    | some w => s.readWord req o w (len = 8 && off = (if w.held then 4 * k - 4 else 4 * k))

/-- The aligned words that `len` bytes at `off` touch, lowest first. -/
def touchedWords (off len : Nat) : List Nat :=
  if len = 0 then [] else (List.range ((off + len - 1) / 4 - off / 4 + 1)).map (off / 4 + ·)

/-- The words of a request, one after the other, as bytes. -/
def State.readWords (s : State) (req off len : Nat) : List Nat → Bytes × State
  | [] => ([], s)
  | k :: ks =>
    let r := s.readAt req off len k
    let q := State.readWords r.2 req off len ks
    (leBytes 4 r.1 ++ q.1, q.2)

/-- A read of `len` bytes at `off`: the bytes that it covers, with the side effects of every register that it
touches (R11). -/
def State.latchRead (s : State) (req off len : Nat) : State :=
  let r := s.readWords req off len (touchedWords off len)
  r.2.emit (.readData req off (leNat (byteSlice r.1 (off % 4) len)))

/-- A word of the MSI-X table of instance `n` (as PCIe has it: PRESUMED, log entry 32). -/
def State.msixTableWord (s : State) (n k : Nat) : Nat :=
  let e := s.msixEntry n (k / 4)
  if k / 4 ≥ vectors n then 0
  else ([e.addr % 2 ^ 32, e.addr / 2 ^ 32, e.data, b2n e.masked].getD (k % 4) 0)

/-- A word of the pending bit array of instance `n`. -/
def State.msixPending (s : State) (n k : Nat) : Nat :=
  maskOf 32 fun b => 32 * k + b < vectors n && (s.msixEntry n (32 * k + b)).pending

/-- A read of the MSI-X table or its pending bits (Table 6-1), at offset `off` of the table's area; the pending
bits begin `pba` bytes after it. -/
def State.msixRead (s : State) (n pba : Nat) (off len : Nat) : Bytes :=
  let word (k : Nat) : Nat := if 4 * k < pba then s.msixTableWord n k else s.msixPending n (k - pba / 4)
  byteSlice ((touchedWords off len).flatMap fun k => leBytes 4 (word k)) (off % 4) len

/-- A read request to BAR `bar` of a requester's function (Tables 6-1 and 6-2): its registers, or its MSI-X
table. The management cores, requesters 16 to 19, reach the registers alone. -/
def State.busRead (s : State) (req bar off len : Nat) : State :=
  let reg := off + len ≤ (if req = 0 || req ≥ 16 then 0x10000 else 0x800)
  if bar = 0 && reg then s.latchRead req off len
  else if req = 0 && bar = 2 && off + len ≤ 0x2000 then s.emit (.readData 0 off (leNat (s.msixRead 0 0x1000 off len)))
  else if 0 < req && req < 16 && bar = 0 && 0x800 ≤ off && off + len ≤ 0x1000 then
    s.emit (.readData req off (leNat (s.msixRead req 0x400 (off - 0x800) len)))
  else s

/-- LOW_WORD_READ (R11, R15, R65): a read of 1 to 8 bytes, `gclk` GCLK cycles after the last QCLK tick and no earlier
than the read before. Requesters 0 to 15 are the instances, 16 to 19 the management cores. -/
def execLowWordRead (req : Nat) (a : ReadAccess) (s : State) : Outcome State Fault Refusal :=
  unitStep req 20 (s.power.on && (req ≥ 16 || s.linked req) && 1 ≤ a.len && a.len ≤ 8 && s.inTick a.gclk)
    ((s.atGclk a.gclk).busRead req a.bar a.off a.len) s

end Sys2Proof.Machine
end

