-- ==== Sys2Proof/Machine/Amber.lean ====
section
/-!
DEFINITION. Amber (chapter 16): snapshots and telemetry, the wait-time maxima, SELFTEST, CALIBRATE and the
automatic self-tests.
-/
namespace Sys2Proof.Machine
open Host (Outcome)

/-! ## Samples (R371, R372) -/

/-- A list entry's value (Table 16-2): an entry not in use gives 0. -/
def State.listValue (s : State) (i : Nat) : Nat :=
  let e := s.reg AMB_TEL_LIST.ENTRY (4 * i)
  if !bit e 31 then 0
  else if bit e 14 then s.read64 (4 * bits e 0 14) else s.readOff (4 * bits e 0 14)

/-- ENTRIES: the index of the highest VALID entry plus 1. -/
def State.listLen (s : State) : Nat :=
  (((List.range 64).filter fun i => bit (s.reg AMB_TEL_LIST.ENTRY (4 * i)) 31).map (· + 1)).foldl max 0

/-- The bytes of a record of `n` entries. -/
def recordSize (n : Nat) : Nat := 64 + 64 * ceilDiv n 8

/-- The record's header and values. -/
def State.recordHead (s : State) (seq lost : Nat) (snap : Bool) : Bytes :=
  byteSlice (leBytes 4 seq ++ leBytes 2 s.listLen ++ leBytes 2 (min lost 0xFFFF) ++ leBytes 8 s.dtimeNow
    ++ [BitVec.ofNat 8 (b2n snap)]) 0 64
def State.recordVals (s : State) : Bytes :=
  byteSlice ((List.range s.listLen).flatMap fun i => leBytes 8 (s.listValue i)) 0 (recordSize s.listLen - 64)

/-- A record is written: its values first, its header last (R372). -/
def State.writeRecord (s : State) (inst at_ seq lost : Nat) (snap : Bool) : State :=
  let h := s.recordHead seq lost snap
  (s.emit (.dma inst (at_ + 64) s.recordVals [])).emit (.dma inst at_ h [])

/-- AMB_SNAP.GO (R373). The snapshot's write ends within its step. -/
def State.snapshot (s : State) : State :=
  let seq := (s.reg AMB_SNAP_SEQ.SEQ + 1) % 2 ^ 32
  let t := if s.canDma 0 then
      s.writeRecord 0 (s.reg64 AMB_SNAP_BASE_LO.ADDR AMB_SNAP_BASE_HI.ADDR / 64 * 64) seq 0 true
    else s
  t.setReg AMB_SNAP_SEQ.SEQ 0 seq

/-- SNAPSHOT (R373). -/
def execSnapshot (s : State) : Outcome State Fault Refusal := stepIf s.running s.snapshot s

/-- The telemetry ring (R374). -/
def State.telInst (s : State) : Nat := s.reg AMB_TEL_CTRL.INST
def State.telSize (s : State) : Nat :=
  let l := s.reg AMB_TEL_CTRL.LOG2
  2 ^ (if 4 ≤ l ∧ l ≤ 16 then l else 6)
def State.telFull (s : State) : Bool :=
  wrapDist 32 (s.reg AMB_TEL_TAIL.TAIL) (s.reg AMB_TEL_HEAD.HEAD) == s.telSize

/-- A record is dropped (R374). -/
def State.telDrop (s : State) : State :=
  let a := s.amber
  let s := ({ s with amber := { a with lost := a.lost + 1, told := true } } : State).count AMB_TEL_LOST.COUNT
  if a.told then s else s.event s.telInst { code := 0x0802 }

/-- A record is written at the tail (R374). -/
def State.telWrite (s : State) : State :=
  let k := s.reg AMB_TEL_TAIL.TAIL
  let base := s.reg64 AMB_TEL_BASE_LO.ADDR AMB_TEL_BASE_HI.ADDR / 4096 * 4096
  let t := if s.canDma s.telInst then
      s.writeRecord s.telInst (base + recordSize s.listLen * (k % s.telSize)) k s.amber.lost false
    else s
  { (t.setReg AMB_TEL_TAIL.TAIL 0 (k + 1)) with amber := { t.amber with lost := 0, told := false } }

/-- One telemetry sample; a new AMB_TEL_PERIOD applies from it on (Table 16-5). -/
def State.telSample (s : State) : State :=
  let s := s.applyStaged AMB_TEL_PERIOD.P10US
  if s.telFull then s.telDrop else s.telWrite

/-- TELEMETRY_SAMPLE (R374). -/
def execTelemetrySample (s : State) : Outcome State Fault Refusal :=
  stepIf (s.running && s.regB AMB_TEL_CTRL.EN) s.telSample s

/-- WAIT_MAX_CLR (R370). -/
def State.waitMaxClr (s : State) : State :=
  (List.range 8).foldl (fun t p => t.setReg AMB_WAIT_MAX.NS (4 * p) 0) s
def execWaitMaxClr (s : State) : Outcome State Fault Refusal := stepIf s.running s.waitMaxClr s

/-! ## SELFTEST (R375, R376) -/

/-- The fields of a test operator. -/
def Sqe.scope (e : Sqe) : Nat := e.fld 32 1
def Sqe.index (e : Sqe) : Nat := e.fld 33 1
def Sqe.modl (e : Sqe) : Nat := e.fld 34 1
def Sqe.unit (e : Sqe) : Nat := testCode e.scope e.index e.modl

/-- The units of a SELFTEST scope (Table 16-3). A MEMORY test has no index. -/
def testUnits (scope : Nat) : Nat := [64, 16, 256, 10, 4].getD scope 0

/-- The field checks of Table 16-3. -/
def selftestOk (e : Sqe) : Bool :=
  e.index < testUnits e.scope && e.modl < 4 && e.rsv [(35, 1)]
    && (e.scope != 2 || (e.fld 40 8 % 4096 == 0 && e.fld 48 8 % 4096 == 0 && e.fld 48 8 ≤ 2 ^ 34))

/-- The registered regions of module `m` (Table 15-1), base and length as addresses in `mem`. -/
def State.regionsOf (s : State) (m : Nat) : List (Nat × Nat) :=
  let tables := (List.range 256).filter fun t => (s.tMods t).contains m
  let own := if m != s.self then [] else
    ((s.ports.filter fun p => p.2.bound).map fun p => (s.localAddr p.2.ringBase, p.2.ringSize))
    ++ (if s.regB GNT_POSE_CTRL.EN then [(s.localAddr (s.poseOff 0), 64 * s.poseSize)] else [])
    ++ (((List.range 32).filter fun t => s.regB BRL_T_CTRL.EN (brlD t) && !s.regB BRL_T_CTRL.LOC (brlD t)).map
      fun t => (s.brlAt t, s.brlSize t))
  (m * moduleSpan, 0x10000) :: (s.poolBase m, segBytes * s.poolSegs m) :: (own
    ++ tables.map (fun t => s.stageArea t m)
    ++ tables.flatMap fun t => (s.tVersions t).map fun v => (s.segAt t v m, s.segEnd t v m - s.segAt t v m))

/-- Two ranges share a byte. -/
def overlap (a b : Nat × Nat) : Bool := a.2 != 0 && b.2 != 0 && a.1 < b.1 + b.2 && b.1 < a.1 + a.2

/-- A MEMORY test's range is refused (Table 16-4). -/
def State.memRefused (s : State) (e : Sqe) : Bool :=
  let base := e.modl * moduleSpan + e.fld 40 8
  e.fld 40 8 + e.fld 48 8 > localEnd || (s.regionsOf e.modl).any (overlap (base, e.fld 48 8))

/-- Span port `p` carries the only route to an ACTIVE member. -/
def State.onlyRoute (s : State) (p : Nat) : Bool :=
  let t : State := { s with node := { s.node with heard := if bit s.node.heard p then s.node.heard - 2 ^ p else s.node.heard } }
  s.isHead && [1, 2, 3].any fun k => s.memState k == memActive && s.hops 0 k < 4 && t.hops 0 k ≥ 4

/-- A refusal of Table 16-4, or another SELFTEST of the same unit. Those of another module's units are its own. -/
def State.testRefused (s : State) (tag : Nat) (e : Sqe) : Bool :=
  let here := e.modl == s.self
  s.amber.tests.any (fun x => x.1 == e.unit && x.2 != tag)
    || (match e.scope with
      | 0 => here && (s.facetFailed e.index || s.hotOut e.index)
      | 2 => s.memRefused e
      | 3 => here && (s.port e.index).bound
      | 4 => here && s.onlyRoute e.index
      | _ => false)

/-- The checks of SELFTEST in the order of R382. -/
def State.selftestErr (s : State) (tag : Nat) (e : Sqe) : Option Nat :=
  if !selftestOk e then some ERR_DESCRIPTOR
  else
    let r := if e.scope = 2 then s.rangesErr (optRange (e.fld 56 8) (8 * e.fld 36 4)) else none
    if r = some ERR_ACCESS then r
    else if s.testRefused tag e then some ERR_MODE
    else if !s.activeModule e.modl then some ERR_SPAN_LOST else r

/-- The failing lines of package memory or of a shelf bank that a test reports, as line numbers. -/
def testLinesIn (r : TestRes) (base len : Nat) : List Nat :=
  (sortBy id ((r.lines.filter fun a => a < 2 ^ 63 && within a base len).map (· / 64))).eraseDups
def State.bankLines (s : State) (r : TestRes) (b : Nat) : List Nat :=
  (sortBy id ((r.lines.filter fun a => a ≥ 2 ^ 63 && a % 2 ^ 63 / 2 ^ 21 == b).map fun a =>
    (shelfBase + s.self * shelfSize + a % 2 ^ 63) / 64)).eraseDups

/-- RESULT and DETAIL of R375: the unit failed, the count of failing lines or the lane mask, the first failing
pattern. -/
def testResult (bad : Bool) (n : Nat) : Nat := b2n bad + 65536 * (n % 65536)
def testDetail (bad : Bool) (r : TestRes) : Nat := if bad then r.pattern % 65536 else 0

/-- The test of facet `f` (R376), withdrawn for it: its pin is gone; one that fails is FAILED, and gives its tiles
back. -/
def State.testFacet (s : State) (f : Nat) (bad : Bool) : State :=
  let s := (s.setFacet f { s.facet f with pin := none }).returnStaged f
  if bad then (s.setDom (40 + f) { s.dom (40 + f) with failed := true }).returnTile f else s.feed

/-- The test of shelf bank `b`: failing lines are poisoned under R362. -/
def State.testBank (s : State) (ls : List Nat) : State :=
  ls.foldl (fun t l => if t.isPoison l then t else t.uncorrected .demand l) s

/-- The test of Span port `p`: it goes down for it, and lanes that fail stay out at the training that follows. -/
def State.testLanes (s : State) (p mask : Nat) : State :=
  let s := if s.reg SPAN_P_STATUS.STATE (spD p) ≥ 2 then (s.linkDown p).pfEvent 0x0611 (some p) else s
  ({ s with amber := { s.amber with lanesOut := SMap.put s.amber.lanesOut p (mask % 16) 0 } } : State).startTraining p

/-- A facet can be tested now: its tile has ended, and Topaz does not hold it (R101). -/
def State.facetFree (s : State) (f : Nat) : Bool := (s.facet f).cur.isNone && !s.topaz.held.contains f

/-- A facet is withdrawn for a test under `tag` after its current tile. -/
def State.withdrawFor (s : State) (tag f : Nat) : State :=
  if s.underTest f then s
  else
    let s := { s with amber := { s.amber with tests := s.amber.tests ++ [(testCode 0 f s.self, tag)] } }
    (s.returnStaged f).feed

/-- The end of a SELFTEST. -/
def State.endTest (s : State) (tag : Nat) (e : Sqe) (bad : Bool) (n : Nat) (r : TestRes) (mods : List Nat) : State :=
  let s := s.untest tag
  let s := if bad then s.testFail e.scope e.index e.modl false else s
  s.finishVia tag OK (some (testResult bad n)) (some (testDetail bad r)) (e.modl :: mods)

/-- A MEMORY test is destructive: the range is left zero, and the addresses that failed go to OUT. -/
def State.testMemory (s : State) (tag : Nat) (e : Sqe) (r : TestRes) : State :=
  let base := e.modl * moduleSpan + e.fld 40 8
  let ls := testLinesIn r base (e.fld 48 8)
  let s := s.zeroRange base (e.fld 48 8)
  let list := (ls.take (e.fld 36 4)).flatMap fun l => leBytes 8 (64 * l)
  let out := e.fld 56 8
  let s := if out = 0 then s else (s.write (s.lin out) list).1
  s.endTest tag e (!ls.isEmpty) (min ls.length 0xFFFF) r (modulesAt (optRange out list.length))

/-- SELFTEST's effect. A facet that computes or is held is withdrawn first, and tested at a later step. Another
module's unit is tested there. A Span port's test ends with the training that follows it; one that cannot train
ends at once. -/
def State.selftestOp (s : State) (tag : Nat) (e : Sqe) (r : TestRes) : State :=
  let k := e.index
  if e.scope = 2 then s.testMemory tag e r
  else if e.modl != s.self then
    let n := if e.scope = 1 then r.lines.length else if e.scope = 4 then r.lanes % 16 else 0
    s.endTest tag e r.failed n r []
  else if e.scope = 0 then
    if s.facetFree k then ((s.untest tag).testFacet k r.failed).endTest tag e r.failed 0 r [] else s.withdrawFor tag k
  else if e.scope = 1 then
    let ls := s.bankLines r k
    (s.testBank ls).endTest tag e (!ls.isEmpty) ls.length r []
  else if e.scope = 3 then
    let s := { s with amber := { s.amber with tests := s.amber.tests ++ [(e.unit, tag)] } }
    let s := if s.regB GNT_P_CABLE.BUSY (portD k) then s else s.startCableTest k
    match s.op? tag with
    | none => s
    | some o => s.setOp tag { o with phase := .held heldCable [k] }
  else
    let n := r.lanes % 16
    let s := s.testLanes k n
    if s.reg SPAN_P_STATUS.STATE (spD k) = 1 then
      let s := if n = 0 then s else s.testFail 4 k s.self false
      match s.op? tag with
      | none => s
      | some o =>
        let s : State := { s with amber := { s.amber with tests := s.amber.tests ++ [(e.unit, tag)] } }
        let wait : OpPhase := .held heldLanes [k, b2n (n == 15), testResult (n != 0) n, testDetail (n != 0) r]
        s.setOp tag { o with phase := wait }
    else s.endTest tag e (n != 0) n r []

/-- SELFTEST (R375, R376). -/
def execSelftest (tag : Nat) (io : OpIo) (res : TestRes) (s : State) : Outcome State Fault Refusal :=
  answer s (s.runOp tag 0x0020 pf0 (fun _ e => s.selftestErr tag e) fun _ e => (s.plant io.upsets).selftestOp tag e res)

/-! ## CALIBRATE (R377) -/

/-- The units of a CALIBRATE scope: DRAM channels, Span ports, sensor ports. -/
def calUnits (scope : Nat) : Nat := [8, 4, 10].getD scope 0

/-- The checks of CALIBRATE, those of R375 among them: scope 1 is the unit of SELFTEST's SPAN_LANES, scope 2 that of
its PORT_CABLE. -/
def State.calibrateErr (s : State) (e : Sqe) : Option Nat :=
  if !(e.index < calUnits e.scope && e.modl < 4 && e.rsv [(35, 29)]) then some ERR_DESCRIPTOR
  else if e.scope == 2 && e.modl == s.self && (s.port e.index).bound then some ERR_MODE
  else if e.scope != 0 && s.amber.tests.any (fun x => x.1 == testCode (5 - e.scope) e.index e.modl) then some ERR_MODE
  else if !s.activeModule e.modl then some ERR_SPAN_LOST else none

/-- CALIBRATE's effect: a channel waits for its next slot, a Span port retrains, a sensor PHY trains. A Span port
that is not up has nothing to retrain. -/
def State.calibrateOp (s : State) (tag : Nat) (e : Sqe) (r : TestRes) : State :=
  let k := e.index
  let hold (t : State) : State := match t.op? tag with
    | none => t
    | some o => t.setOp tag { o with phase := .held heldCal [e.scope, k] }
  let fail (t : State) : State := if r.failed then t.testFail e.scope k e.modl true else t
  if e.modl != s.self then
    (fail s).finishVia tag OK (if e.scope = 0 then some (min r.ns 0xFFF) else none) none [e.modl]
  else if e.scope = 0 then hold s
  else if e.scope = 1 && s.portUp k then
    hold ((s.setReg SPAN_P_STATUS.STATE (spD k) 3).count SPAN_P_RETRAIN.COUNT (spD k))
  else (fail s).finish tag OK

/-- CALIBRATE (R377). -/
def execCalibrate (tag : Nat) (_ : OpIo) (res : TestRes) (s : State) : Outcome State Fault Refusal :=
  answer s (s.runOp tag 0x0021 pf0 (fun _ e => s.calibrateErr e) fun _ e => s.calibrateOp tag e res)

/-! ## Automatic self-tests (R378) -/

/-- The tag that stands for an automatic test. -/
def autoTag : Nat := 65536

/-- The facet that the automatic test takes: one already withdrawn for it, else the next that Table 16-4 does not
refuse and Topaz does not hold. -/
def State.autoFacet (s : State) : Option Nat :=
  match s.amber.tests.find? fun x => x.2 == autoTag with
  | some x => some (x.1 % 4096 / 8)
  | none => ((List.range 64).map fun i => (s.amber.nextFacet + i) % 64).find? fun f =>
      !s.facetFailed f && !s.hotOut f && !s.topaz.held.contains f && !s.underTest f

/-- One automatic run is counted, with its failure. -/
def State.autoCount (s : State) (scope index : Nat) (bad : Bool) : State :=
  let s := s.count AMB_ST_RUNS.COUNT
  if bad then (s.count AMB_ST_FAILS.COUNT).testFail scope index s.self false else s

/-- The facet test of an automatic run; a facet that computes is withdrawn first. -/
def State.autoTestFacet (s : State) (r : TestRes) : State :=
  match s.autoFacet with
  | none => s
  | some f =>
    if s.hotOut f || s.facetFailed f then s.untest autoTag
    else if s.facetFree f then
      let s := ((s.untest autoTag).testFacet f r.failed).autoCount 0 f r.failed
      { s with amber := { s.amber with nextFacet := (f + 1) % 64 } }
    else s.withdrawFor autoTag f

/-- The bank test of an automatic run. -/
def State.autoTestBank (s : State) (r : TestRes) : State :=
  let b := s.amber.nextBank
  let ls := s.bankLines r b
  let s := (s.testBank ls).autoCount 1 b (!ls.isEmpty)
  { s with amber := { s.amber with nextBank := (b + 1) % 16 } }

/-- The two tests of a run. A facet that had to be withdrawn first is tested at a step of its own. -/
def State.autoTests (s : State) (facet bank : TestRes) : State :=
  let t := s.autoTestFacet facet
  if s.amber.tests.any fun x => x.2 == autoTag then t else t.autoTestBank bank

/-- AUTO_SELFTEST (R378). -/
def execAutoSelftest (facet bank : TestRes) (s : State) : Outcome State Fault Refusal :=
  stepIf (s.running && s.regB AMB_ST_CTRL.AUTO_EN) (s.autoTests facet bank) s

end Sys2Proof.Machine
end

