-- ==== Sys2Proof/Machine/Replies.lean ====
section
/-!
DEFINITION. How handoffs end (R186 to R191, R200, R201): replies, expiry and the loss of the handoff rings.
An operation's own check of its reply is in its operator; an item that is no operation is resolved here.
-/
namespace Sys2Proof.Machine
open Host (Outcome)

/-! ## Items that are no operations -/

/-- F1 without a usable reply: the LLDP match (Table 8-1). -/
def State.f1Hardware (s : State) (args : List Nat) : State :=
  let p := args.headD 0
  if s.portLink p then s.lldpMatch p ((args.drop 1).map (BitVec.ofNat 8)) else s

/-- F1's reply: a descriptor that is VALID; otherwise it cannot be used. -/
def State.f1Reply (s : State) (args : List Nat) (d : Nat) : Option State :=
  let p := args.headD 0
  if d < 32 && (s.desc d).valid then some (if s.portLink p then s.foundDesc p d else s) else none

/-- F10's reply, judged against the effective budget as it arrives, waits for the next budget evaluation (R96). -/
def State.f10Reply (s : State) (code n : Nat) : Option State :=
  if code ≤ 10 then some { s with topaz := { s.topaz with reply := some (s.fitReply code n) } } else none

/-- F12 without a usable reply: the hardware rule. -/
def State.f12Hardware (s : State) (args : List Nat) : State :=
  if s.isHead then s.decideJoin (args.headD 0) (args.getD 1 0) (args.getD 2 0) else s

/-- F12's reply: quarantine, or let in. -/
def State.f12Reply (s : State) (args : List Nat) (v : Nat) : Option State :=
  if v = 0 then some (if s.isHead then s.quarantine (args.headD 0) (args.getD 1 0) (args.getD 2 0) else s)
  else if v = 1 then some (if s.isHead then s.admitModule (args.headD 0) else s) else none

/-- An item that is no operation ends as the last column of Table 8-1 states. -/
def State.itemHardware (s : State) (func : Nat) (args : List Nat) : State :=
  if func = 1 then s.f1Hardware args else if func = 12 then s.f12Hardware args else s

/-- An item that is no operation ends with a reply (Table 8-4); `none`: the reply cannot be used. After F11's
reply the row is as the host has left it: an ASSIGN of the host's has made it readable, or it stays unreadable. -/
def State.itemReply (s : State) (func : Nat) (args : List Nat) (entry : Bytes) : Option State :=
  if func = 1 then s.f1Reply args (fieldLE entry 20 1)
  else if func = 10 then s.f10Reply (fieldLE entry 20 1) (fieldLE entry 21 1)
  else if func = 11 then (if fieldLE entry 20 1 ≤ 1 then some s else none)
  else if func = 12 then s.f12Reply args (fieldLE entry 20 1) else some s

/-! ## The end of a handoff -/

/-- The request slot and the staging bytes of a handoff are free (R189). -/
def State.freeHandoff (s : State) (h : Handoff) : State := { s with handoffs := s.handoffs.filter (· != h) }

/-- A handoff expires (R188): it is counted, reported, and its item goes its hardware course. -/
def State.expire (s : State) (h : Handoff) : State :=
  let s := (s.freeHandoff h).expireCount h.inst h.func h.tag
  match h.tag with
  | some t => s.resolveOp t none
  | none => s.itemHardware h.func h.args

/-- REJECT (R186): the operation ends with ERR_MODE, and a COMMIT leaves its step open. -/
def State.rejectOp (s : State) (t : Nat) : State :=
  let s := match (s.op? t).bind Op.sqe? with
    | some e => if e.opcode == 0x0402 then s.setStage (e.fld 32 1) 0 else s
    | none => s
  s.finish t ERR_MODE

/-- A reply that is used. An operation goes on with the entry, its handler's number after it, and the data. -/
def State.apply (s : State) (h : Handoff) (entry data : Bytes) : State :=
  match h.tag with
  | some t => (s.freeHandoff h).resolveOp t (some (entry ++ leBytes 1 h.inst, data))
  | none => match (s.freeHandoff h).itemReply h.func h.args entry with
    | some t => t
    | none => (s.count HO_BAD_CNT.COUNT (winD h.inst)).expire h

/-- A matched reply and its ACTION (R186, R187). -/
def State.takeReply (s : State) (h : Handoff) (entry data : Bytes) (ok : Bool) : State :=
  let action := fieldLE entry 4 1
  if action = 2 then match h.tag with
    | some t => (s.freeHandoff h).rejectOp t
    | none => s.expire h
  else if action != 0 then s.expire h
  else if !ok || fieldLE entry 8 8 % 64 != 0 || (fieldLE entry 8 8 = 0 && !data.isEmpty) || data.length != fieldLE entry 16 4 then
    (s.count HO_BAD_CNT.COUNT (winD h.inst)).expire h
  else s.apply h entry data

/-- The reply entry at the head of instance `n`'s reply ring is read, and its data (R186). One that answers no
pending request is late (R188). -/
def State.readReply (s : State) (n : Nat) (entry data : Bytes) (ok : Bool) : State :=
  let head := s.reg HO_RPL_HEAD.HEAD (winD n)
  let base := s.reg64 HO_RPL_BASE_LO.ADDR HO_RPL_BASE_HI.ADDR (winD n) / 4096 * 4096
  let s := (s.emit (.hostRead n (base + 64 * (head % s.hoRplSize n)) 64)).setReg HO_RPL_HEAD.HEAD (winD n) (head + 1)
  let s := if fieldLE entry 16 4 = 0 || fieldLE entry 8 8 = 0 then s else s.emit (.hostRead n (fieldLE entry 8 8) (fieldLE entry 16 4))
  match s.handoffs.find? fun h => h.inst == n && h.id == fieldLE entry 0 4 with
  | none => s.count HO_LATE_CNT.COUNT (winD n)
  | some h => s.takeReply h entry data ok

/-- HANDOFF_REPLY (R186): the host has written a reply and its HO_RPL_TAIL. -/
def execHandoffReply (n : Nat) (entry data : Bytes) (ok : Bool) (s : State) : Outcome State Fault Refusal :=
  unitStep n 16 (s.canDma n && s.regB HO_CTRL.EN (winD n)
    && s.reg HO_RPL_TAIL.TAIL (winD n) != s.reg HO_RPL_HEAD.HEAD (winD n)) (s.readReply n entry data ok) s

/-- HANDOFF_TIMEOUT (R188). -/
def execHandoffTimeout (n id : Nat) (s : State) : Outcome State Fault Refusal :=
  match s.handoffs.find? fun h => h.inst == n && h.id == id with
  | none => unitStep n 16 false s s
  | some h => unitStep n 16 s.running (s.expire h) s

/-- Every handoff pending at instance `n` expires (Table 8-8, R201). -/
def State.expireAll (s : State) (n : Nat) : State := (s.hoPending n).foldl State.expire s

/-- HO_CTRL.EN of instance `n` goes to 0: handoffs pending there expire at once. -/
def State.hoDisable (s : State) (n : Nat) : State := (s.setReg HO_CTRL.EN (winD n) 0).expireAll n

/-- A DMA error on the request ring (1) or the staging area (2) disables the rings (R201). -/
def State.hoFault (s : State) (n what : Nat) : State :=
  (s.hoDisable n).event n { code := 0x0A21, detail := some what }

/-- HANDOFF_DISABLE (R201, Table 8-8): EN written 0, or a DMA error. -/
def execHandoffDisable (n : Nat) (fault : Option Nat) (s : State) : Outcome State Fault Refusal :=
  unitStep n 16 (s.running && s.regB HO_CTRL.EN (winD n) && (match fault with | none => true | some w => w == 1 || w == 2))
    (match fault with | none => s.hoDisable n | some w => s.hoFault n w) s

/-- Once management cores 1 to 3 are all FAILED, every handoff that is pending is resolved as if it had expired
(R191). -/
def State.coresLost (s : State) : State := if s.coresFailed then s.handoffs.foldl State.expire s else s

/-- WAKE_TIMEOUT (R82): the first failure power-cycles the domain, through RETAIN where it never
reaches OFF; the second marks it FAILED. -/
def execWakeTimeout (n : Nat) (s : State) : Outcome State Fault Refusal :=
  let d := s.dom n
  let cycled := s.setDom n { d with attempt := 3, st := if neverOff n then .retain else .off }
  unitStep n nDomains (s.power.on && (d.attempt == 1 || d.attempt == 2))
    (if d.attempt == 1 then (if neverOff n then cycled else cycled.lostAtOff n) else (s.wakeFail n).coresLost) s

end Sys2Proof.Machine
end

