-- ==== Sys2Proof/Machine/Reset.lean ====
section
/-!
DEFINITION. Start-up, boot and resets (chapter 5), instance resets (R157), the PCIe link, and debug
authentication with the TAP and the console.
-/
namespace Sys2Proof.Machine
open Host (Outcome)

/-! ## Start-up stages (R106 to R114, R129, R130) -/

/-- A stage begins, with its record on UART_TX (R107). -/
def State.toStage (s : State) (k : Nat) : State := (s.setReg GBL_BOOT_STATUS.STAGE 0 k).emit (.uartStage k)

/-- The slot tried: the one an overrun or a rejection names, else the higher generation, A when equal (R113). -/
def State.slotChoice (s : State) (rep : StageReport) : Nat :=
  s.boot.firstSlot.getD (if rep.slotB.gen > rep.slotA.gen then 1 else 0)

/-- The lowest SVN accepted. -/
def State.minSvn (s : State) : Nat := max Config.fusedSvn.toNat s.boot.svn

/-- The first failed check of R112, in the order of R113. -/
def imageFault (i : ImageInfo) (svn : Nat) : Option Nat :=
  if !i.readable then some 6
  else if i.bodyLen > 6 * 2 ^ 20 - 512 then some 4
  else if !i.keyKnown then some 1
  else if i.keyRevoked then some 2
  else if !i.sigOk then some 3
  else if i.svn < svn then some 5 else none

/-- Recovery (R114): PF 0 without VFs, no operator. Configuration requests are answered, so STAGE is 0xF. -/
def State.enterRecovery (s : State) : State :=
  let s := (s.toStage 0xF).setReg GBL_BOOT_STATUS.RECOVERY 0 1
  let s := s.setReg GBL_RESET_CAUSE.CAUSE 0 s.boot.cause
  { s with boot := { s.boot with quiesce := false, warm := false, skipInit := false, overrun := false,
                                 firstSlot := none, recover := false },
           pcie := { s.pcie with vfEnable := false, setup := false } }

/-- A slot is refused with a check's code; the other is tried from stage 0x4, unless it was refused too. -/
def State.rejectSlot (s : State) (slot check : Nat) : State :=
  let tried := s.boot.rejected.any fun r => r.1 == 1 - slot
  let s : State := { s with boot := { s.boot with rejected := s.boot.rejected ++ [(slot, check)],
                                                  firstSlot := some (1 - slot) } }
  if tried then s.enterRecovery else (s.setReg GBL_BOOT_STATUS.SLOT 0 (1 - slot)).toStage 0x4

/-- An accepted image is the running firmware (Table 5-7). -/
def State.loadImage (s : State) (slot : Nat) (i : ImageInfo) : State :=
  let s := s.setReg (if slot = 0 then LPS_STATUS.SLOT_A_OK else LPS_STATUS.SLOT_B_OK) 0 1
  let s := (s.setReg GBL_FW_VERSION.PATCH 0 i.version).setReg GBL_FW_VERSION.MINOR 0 (i.version / 2 ^ 8)
  (s.setReg GBL_FW_VERSION.MAJOR 0 (i.version / 2 ^ 16)).setReg GBL_FW_VERSION.SVN 0 i.svn

/-- The end of stage 0x5: the image in the slot is accepted or refused. -/
def State.checkImage (s : State) (rep : StageReport) : State :=
  let slot := s.reg GBL_BOOT_STATUS.SLOT
  let i := if slot = 0 then rep.slotA else rep.slotB
  match imageFault i s.minSvn with
  | some c => s.rejectSlot slot c
  | none => (s.loadImage slot i).toStage (if s.boot.warm then 0x8 else 0x6)

/-- The end of stage 0x6: the channels have trained, or the module enters recovery (R129). -/
def State.channelsTrained (s : State) (rep : StageReport) : State :=
  match rep.trainFail with
  | c :: _ => (s.setReg GBL_BOOT_STATUS.FAIL_CODE 0 (0x60 + c)).enterRecovery
  | [] => s.toStage (if s.boot.skipInit then 0x8 else 0x7)

/-- The end of stage 0x7: package memory is zero, with valid check bits. -/
def State.memoryReady (s : State) : State :=
  let s := s.zeroRange (s.self * moduleSpan) moduleSpan
  ({ s with boot := { s.boot with memInit := true } } : State).toStage 0x8

/-- Every table's hot area is emptied (R297). -/
def State.emptyHotAreas (s : State) : State :=
  (List.range 256).foldl (fun t k =>
    if (t.tVersions k).contains (t.activeVer k) then t.emptyHotAll k (t.activeVer k) else t) s

/-- Stage 0x8 after a reset that kept package memory: hot areas are emptied (R297), table commits whose record was
written are completed (R128), and migrations are completed or rolled back (R125, R126). -/
def State.settleTables (s : State) : State :=
  let s := if s.boot.skipInit then s.emptyHotAreas else s
  ((s.steps.map (·.1)).foldl State.commitFinish s).resumeMigrations

/-- Stage 0xF (R111, R118): the cause is shown, Peridot is Active and ON, and a warm reset tells PF 0's vector 0 if it
is unmasked and the link carries it (Table 5-5). Span ports follow their cables again (R45). -/
def State.becomeReady (s : State) : State :=
  let s := s.settleTables
  let warm := s.boot.warm
  let s := (s.toStage 0xF).setReg GBL_RESET_CAUSE.CAUSE 0 s.boot.cause
  let s := { (s.setReg QTZ_STATUS.DEPTH 0 0) with
    boot := { s.boot with warm := false, skipInit := false, overrun := false, firstSlot := none }
    pcie := { s.pcie with setup := false } }
  let s := (s.depthDomains 0).settlePorts
  if warm && s.linked 0 && !(s.msixEntry 0 0).masked then s.emit (.msix 0 0) else s

/-- The PCIe domains come up to their floor when training may begin (R109). -/
def State.wakePcie (s : State) : State := if s.pcie.perst then (s.meetFloor 228).meetFloor 229 else s

/-- The end of the stage under way. -/
def State.stageDone (s : State) (rep : StageReport) : State :=
  match s.reg GBL_BOOT_STATUS.STAGE with
  | 1 => s.toStage 2
  | 2 => (s.toStage 3).wakePcie
  | 3 => (s.setReg GBL_BOOT_STATUS.SLOT 0 (s.slotChoice rep)).toStage 4
  | 4 => (if s.boot.warm then s.setReg GBL_BOOT_STATUS.SLOT 0 (s.slotChoice rep) else s).toStage 5
  | 5 => s.checkImage rep
  | 6 => s.channelsTrained rep
  | 7 => s.memoryReady
  | 8 => s.becomeReady
  | _ => s

/-- The start-up sequence runs: not ready, and no quiesce. -/
def State.starting (s : State) : Bool :=
  s.power.on && !s.boot.quiesce && s.reg GBL_BOOT_STATUS.STAGE != 0xF

/-- STARTUP_STAGE_COMPLETE (R107). -/
def execStartupStageComplete (rep : StageReport) (s : State) : Outcome State Fault Refusal :=
  stepIf s.starting (s.stageDone rep) s

/-- The slot whose image the stage under way uses. A warm reset chooses it in stage 0x4, by generations in flash that no
report has given when that stage overruns: the slot is then a free choice (log entry 142). Before a cold start's choice
it is slot A, so that the other slot is B (DEDUCED, log entry 136). -/
def State.slotInUse (s : State) : Nat × State :=
  if s.boot.warm && s.reg GBL_BOOT_STATUS.STAGE == 4 then
    match s.boot.firstSlot with
    | some k => (k, s)
    | none => (s.drawBool.1.toNat, s.drawBool.2)
  else (s.reg GBL_BOOT_STATUS.SLOT, s)

/-- A stage overran (R130): FAIL_CODE records it; a stage that used an image refuses that slot with check 7 (R113). The
sequence restarts at stage 0x3 with the other slot; a second overrun leads to recovery. A warm reset stays one: 0x6 and
0x7 do not follow (DEDUCED, log entry 136). -/
def State.stageOverrun (s : State) : State :=
  let k := s.reg GBL_BOOT_STATUS.STAGE
  let (slot, s) := s.slotInUse
  let used := if 4 ≤ k then [(slot, 7)] else []
  let s := ({ s with boot := { s.boot with rejected := s.boot.rejected ++ used } } : State).setReg
    GBL_BOOT_STATUS.FAIL_CODE 0 k
  if s.boot.overrun then s.enterRecovery
  else ({ s with boot := { s.boot with overrun := true, firstSlot := some (1 - slot) } } : State).toStage 0x3

/-- STAGE_OVERRUN (R130). -/
def execStageOverrun (s : State) : Outcome State Fault Refusal :=
  stepIf s.starting s.stageOverrun s

/-- FW_SLOT_REJECTED, once the event ring of PF 0 exists (R113). A rejection of an earlier boot not yet reported
has its slot number raised by 2. -/
def State.tellRejected (s : State) : State :=
  if s.canDma 0 && s.regB INST_CTRL.EN then
    let t := s.boot.rejected.foldl (fun (t : State) r => t.pfEvent 0x0A03 (some (r.1 % 2 + 2 * r.2))) s
    { t with boot := { t.boot with rejected := [] } }
  else s

/-! ## MRESET_N resets (R47, R106, R108, R117, R120) -/

/-- The registers that an MRESET_N reset keeps with package memory: the catalogue (R288), but for the state of an
open step and the counter in it (R367). -/
def keptReg (key : Nat) : Bool :=
  let off := key / 8 % 0x100000
  0x5D00 ≤ off && off < 0x5D80 && !(off / 4 * 4 == 0x5D74)
    && key % 0x800000 != TD_CTRL.STEP_OPEN.key 0 && key % 0x800000 != TD_CTRL.BUSY.key 0

/-- GBL_SUPPLY and DIE_C: measured all through an MRESET_N reset (R40). -/
def supplyReg (key : Nat) : Bool := key / 32 == 0x20 || key == GBL_THERMAL.DIE_C.key 0

/-- The firmware trace of debug level 2 ends, if it ran (Table 5-4). -/
def State.traceEnds (s : State) : State :=
  if s.reg LPS_STATUS.DBG_LEVEL = 2 then s.emit (.uartTrace false) else s

/-- A migration that outlives its operation. -/
def cutOff (e : Nat × Migration) : Nat × Migration := (e.1, { e.2 with restart := true })

/-- An MRESET_N reset with its cause, at the instant S. Commits that have taken effect and migrations stand in package
memory, and stage 0x8 settles them (R126, R128). -/
def State.moduleReset (s : State) (cause : Nat) : State :=
  let s := s.traceEnds
  let keep := s.boot.memInit && !s.regB GBL_RESET_CTRL.CLEAR_ON_MRESET
  let s := s.renumber 0
  let pkg {α : Type} (m : SMap α) (unit : Nat) : SMap α := if keep then m.filter fun e => e.1 * unit < shelfBase else []
  let t : State := { State.reset with
    pending := s.pending, out := s.out ++ [.uartStage 1], ticks := s.ticks, free := s.free,
    power := { s.power with awake := s.sensing },
    boot := { State.reset.boot with svn := s.boot.svn, memInit := keep, skipInit := keep, cause := cause },
    pcie := { State.reset.pcie with perst := s.pcie.perst },
    node := { State.reset.node with spres := s.node.spres },
    regs := s.regs.filter fun e => supplyReg e.1 || keep && keptReg e.1,
    mem := pkg s.mem 1, poison := pkg s.poison 64, ceLines := pkg s.ceLines 64, ueLines := pkg s.ueLines 64,
    lostSlots := if keep then s.lostSlots else [],
    steps := if keep then s.steps.filter fun e => e.2.stage == 3 else [],
    migs := if keep then s.migs.map cutOff else [],
    migTold := s.migTold ++ if keep then [] else s.migs.map settledEvent }
  t.setReg GBL_BOOT_STATUS.MEM_RETAINED 0 (b2n keep)

/-- MRESET_N_RESET (R47): a pulse of 1 µs to 10 µs may or may not reset. -/
def execMresetNReset (lowNs : Nat) (s : State) : Outcome State Fault Refusal :=
  let r := s.drawBool
  stepIf s.power.on
    (if lowNs ≥ 10000 then s.moduleReset 1 else if lowNs < 1000 then s
     else if r.1 then r.2.moduleReset 1 else r.2) s

/-! ## Warm resets (R116 to R119) -/

/-- A fault-caused warm reset that is the third within 60 s, which is 240,000,000 QCLK ticks (R119). -/
def State.faultRun (s : State) : List Nat := (s.boot.faultTicks.filter fun t => s.ticks < t + 240000000) ++ [s.ticks]

/-- Debug levels 1 and 2 end (R124), which Jasper sees (R197). -/
def State.endDebug (s : State) : State :=
  let s := (({ s with dbg := ⟨none⟩ } : State).setReg LPS_DBG_STATE.STATE 0 0)
  if s.reg LPS_STATUS.DBG_LEVEL = 3 || s.reg LPS_STATUS.DBG_LEVEL = 0 then s
  else (s.traceEnds.jspReset 0x30).setReg LPS_STATUS.DBG_LEVEL 0 0

/-- A warm reset begins: the quiesce. Jasper sees a reset of every core and the end of debug (R197, R199). `fault` says
that R119 counts it. Ignored during a start-up or a warm reset. -/
def State.warmReset (s : State) (cause : Nat) (fault : Bool) : State :=
  if !s.ready then s
  else
    let s := (List.range 4).foldl (fun t c => t.jspReset (0x10 + c)) s.endDebug
    let run := if fault then s.faultRun else s.boot.faultTicks
    let third := fault && run.length ≥ 3
    { s with boot := { s.boot with quiesce := true, warm := true, cause := cause, recover := third,
                                   faultTicks := if third then [] else run,
                                   firstSlot := none, overrun := false,
                                   rejected := s.boot.rejected.map fun (r : Nat × Nat) => (r.1 % 2 + 2, r.2) } }

/-- A write of GBL_RESET acts only with its key; MODULE governs WARM (Table 5-5). -/
def State.gblReset (s : State) (val : Nat) : State :=
  if val / 2 ^ 16 % 2 ^ 16 != 0xA5C3 then s
  else if bit val 1 then s.moduleReset 2
  else if bit val 0 then s.warmReset 3 false else s

/-- GBL_RESET_MODULE (R106): the word written. -/
def execGblResetModule (val : Nat) (s : State) : Outcome State Fault Refusal :=
  stepIf (s.power.on && bit val 1 && !s.starting || s.power.on && bit val 1 && s.boot.warm) (s.gblReset val) s

/-- GBL_RESET_WARM (R118). -/
def execGblResetWarm (val : Nat) (s : State) : Outcome State Fault Refusal :=
  stepIf (s.ready && bit val 0) (s.gblReset val) s

/-- WATCHDOG_TIMEOUT (R119). -/
def execWatchdogTimeout (s : State) : Outcome State Fault Refusal :=
  stepIf (s.ready && s.regB GBL_RESET_CTRL.WDOG_EN) (s.warmReset 4 true) s

/-- CORE_FAULT (R119, R191): a fault of one of the four cores. -/
def execCoreFault (core : Nat) (s : State) : Outcome State Fault Refusal :=
  unitStep core 4 s.ready (s.warmReset 5 true) s

/-! ### What stops -/

/-- What an operation that is dropped holds elsewhere is released; a commit or migration that has taken effect runs to
its end (R157, Table 6-13). -/
def State.letGo (s : State) (o : Op) : State :=
  match o.phase, o.sqe? with
  | .held w args, _ =>
    if w == heldReaders then s.emptyHotAll (args.getD 0 0) (args.getD 1 0) else s
  | .handoff, some e => if e.opcode == 0x0402 then s.setStage (e.fld 32 1) 0 else s
  | .started, some e =>
    if o.prog.isEmpty || o.stopped then s
    else if e.opcode == 0x0402 then s.commitFinish (e.fld 32 1)
    else if e.opcode == 0x0404 then s.dropMigration (e.fld 32 1) else s
  | _, _ => s

/-- The table whose BUSY an operation may bear on. -/
def opTable (o : Op) : Nat := match o.sqe? with | some e => e.fld 32 1 | none => 256

/-- An operation is dropped without completion and its tag is free. -/
def State.dropOp (s : State) (tag : Nat) : State :=
  match s.op? tag with
  | none => s
  | some o =>
    let s := ((s.letGo o).forgetTiles tag).untest tag
    (({ s with ops := SMap.del s.ops tag, handoffs := s.handoffs.filter (·.tag != some tag), tagStall := false } :
      State).settleBusy (opTable o))

/-- A counter of an instance window that other resets keep (R367): INST_EVT_LOST and the handoff counters. -/
def windowCounter (off : Nat) : Bool := off == 0x28 || off == 0x134 || off == 0x138 || off == 0x13C

/-- The registers that the reset of instance `n` resets: its window and its queue pairs, whose assignment stays. -/
def State.instReg (s : State) (n key : Nat) : Bool :=
  let off := key / 8 / 4 * 4
  if 0x8000 ≤ off && off < 0x10000 then (off - 0x8000) / 0x800 == n && !windowCounter (off % 0x800)
  else
    let q := (off - 0x2000) / 64
    0x2000 ≤ off && off < 0x3000 && s.qpInst q == n && key != QP_CTRL.INSTANCE.key (qpD q)

/-- Tables with an open step that instance `n` staged into. -/
def State.stepsOf (s : State) (n : Nat) : List Nat := (s.steps.filter fun e => e.2.insts.contains n).map (·.1)

/-- The span's part in a warm reset: a member leaves and will JOIN; a head's span is gone. The channels of span modules
stay as they are (R199). -/
def State.warmSpan (s : State) : State :=
  if s.isHead then
    let s := ([1, 2, 3].filter s.memIn).foldl (fun t m =>
      (t.setReg SPAN_MEMBER_STATUS.STATE (4 * m) memAbsent).dropWork m) s
    (s.setSpan stAlone).setReg SPAN_ROUTE.ROUTE 0 0
  else if s.inSpan then s.leaveSpan stJoining else s

/-- The modes of F0 to F12 are hardware again. -/
def State.hardwareModes (s : State) : State :=
  let s := allFuncs.foldl (fun t n => { (t.setReg MODE_F.MODE (4 * n) 0) with
    staged := SMap.del (SMap.del t.staged (MODE_F.MODE.key (4 * n))) (MODE_F.HANDLER.key (4 * n)) }) s
  { s with ports := s.ports.map fun (e : Nat × Port) => (e.1, { e.2 with sliceModes := [], f1 := 0 }), hoEvents := [] }

/-- Fences after a warm reset (R160): 0 without ERROR; the slice fence of a bound port keeps its value. -/
def State.warmFences (s : State) : State :=
  { s with fences := (s.fences.filter fun e => s.isSliceFence e.1).map fun (e : Nat × Fence) =>
      (e.1, { e.2 with error := false }) }

/-! ## Instance resets (R157, Table 6-13) -/

/-- A started operation stops at its next sub-operation boundary: its tiles are abandoned, nothing of its chain
follows, and its own handoff is given up. -/
def State.stopOp (s : State) (tag : Nat) : State :=
  match s.op? tag with
  | none => s
  | some o =>
    let s := s.letGo o
    let s := { (s.forgetTiles tag) with handoffs := s.handoffs.filter (·.tag != some tag) }
    s.setOp tag { o with stopped := true, members := o.members.take (o.idx + 1) }

/-- The layers that instance `n` owns. -/
def State.layersOf (s : State) (n : Nat) : List Nat :=
  (List.range 16).filter fun l => s.regB LY_CTRL.EN (selD l) && s.reg LY_CTRL.OWNER (selD l) == n

/-- The fences in an instance's range that its reset marks (R165). -/
def State.resetFences (s : State) (n : Nat) : List Nat :=
  ((List.range (s.reg PDT_INST0.FENCE_COUNT (8 * n))).map (s.reg PDT_INST0.FENCE_BASE (8 * n) + ·)).filter
    fun f => f < 16384 && !s.isSliceFence f

/-- An operation of instance `n` leaves if it waits, and stops otherwise. -/
def State.resetOp (s : State) (n tag : Nat) : State :=
  match s.op? tag with
  | none => s
  | some o => if o.inst != n then s else if o.phase == .waiting then s.dropOp tag else s.stopOp tag

/-- An instance reset begins. One under way absorbs another. -/
def State.instReset (s : State) (n : Nat) : State :=
  if s.regB INST_STATUS.RESET_BUSY (winD n) then s
  else
    let s := s.setReg INST_STATUS.RESET_BUSY (winD n) 1
    let s := (s.ops.map (·.1)).foldl (State.resetOp · n) s
    let s := (s.resetFences n).foldl State.fenceErr s
    let s := (s.stepsOf n).foldl (fun t k => t.discardStep k ABORT_RESET) s
    let s := (s.layersOf n).foldl State.flushLayer s
    let s := (s.hoDisable n).jspReset n
    if s.reg AMB_TEL_CTRL.INST = n then s.setReg AMB_TEL_CTRL.EN 0 0 else s

/-- Every instance from `lo` to 15 is reset. -/
def State.instResets (s : State) (lo : Nat) : State :=
  (allInsts.filter fun n => lo ≤ n).foldl State.instReset s

/-- The end of the reset of instance `n`: tags freed, its queue pairs, rings and MSI-X table as at reset. -/
def State.instResetDone (s : State) (n : Nat) : State :=
  let s := ((s.ops.filter fun e => e.2.inst == n).map (·.1)).foldl State.dropOp s
  let s := { s with
    qps := s.qps.filter fun e => s.qpInst e.1 != n,
    insts := SMap.del s.insts n,
    msix := s.msix.filter fun e => e.1 / 128 != n,
    hiHold := SMap.del s.hiHold n,
    regs := s.regs.filter fun e => !s.instReg n e.1 }
  s.settleSwitches.feed

/-! ## The end of the quiesce -/

/-- What the warm column of Table 5-3 ends. An F1 item that the host had not decided ends as in hardware mode. An
instance reset under way ends with the quiesce (Table 5-5). -/
def State.warmStop (s : State) : State :=
  let s := (allInsts.filter fun n => s.regB INST_STATUS.RESET_BUSY (winD n)).foldl State.instResetDone s
  let s := (s.steps.map (·.1)).foldl State.commitFinish { s with migs := s.migs.map cutOff }
  let f1 := s.handoffs.filter (·.func == 1)
  let s := (s.ops.map (·.1)).foldl State.dropOp s
  let s := f1.foldl (fun t h => t.f1Hardware h.args) { s with handoffs := [] }
  let s := (s.steps.map (·.1)).foldl (fun t k => t.discardStep k ABORT_RESET) s
  let s := { s.warmFences with
    workList := [], facets := [], runs := [], rlzRows := [], qps := [], insts := [],
    hiHold := s.hiHold.filter fun e => e.1 < 16, tagStall := false,
    regs := s.regs.filter fun e =>
      let off := e.1 / 8 / 4 * 4
      !(0x8000 ≤ off && off < 0x10000 && !windowCounter (off % 0x800)) && !(0x2000 ≤ off && off < 0x3000),
    domains := s.domains.map fun (e : Nat × Domain) => (e.1, { e.2 with failed := false }),
    topaz := { s.topaz with reply := none },
    amber := { s.amber with tests := [] } }
  (s.hardwareModes.setReg AMB_TEL_CTRL.EN 0 0).warmSpan

/-- The warm column of Table 5-3, with Agate's queues and Lapis. -/
def State.warmClean (s : State) : State :=
  let s := (List.range 4).foldl State.flushModule s.warmStop
  let s := (s.setReg LPS_STATUS.SLOT_A_OK 0 0).setReg LPS_STATUS.SLOT_B_OK 0 0
  s.setReg GBL_BOOT_STATUS.RECOVERY 0 0

/-- WARM_QUIESCE_COMPLETE (R118): the reload begins, or, after the third fault, recovery (R119). -/
def State.quiesceDone (s : State) : State :=
  let t := s.warmClean.count GBL_RESET_CAUSE.WARM_COUNT
  let t : State := { t with boot := { t.boot with quiesce := false } }
  if s.boot.recover then t.enterRecovery else t.toStage 0x4

/-- WARM_QUIESCE_COMPLETE (R118). -/
def execWarmQuiesceComplete (s : State) : Outcome State Fault Refusal :=
  stepIf (s.power.on && s.boot.quiesce) s.quiesceDone s

/-! ## The commands of instance resets -/

/-- A remote part of an operation of the instance is unanswered. -/
def State.remoteLeft (s : State) (n : Nat) : Bool :=
  s.ops.any fun e => e.2.inst == n && match e.2.phase with
    | .held w _ => w == heldRemote
    | _ => false

/-- INSTANCE_RESET_COMPLETE (R157): remote parts of the instance's operations have been answered or timed out. -/
def execInstanceResetComplete (n : Nat) (s : State) : Outcome State Fault Refusal :=
  unitStep n 16 (s.power.on && s.regB INST_STATUS.RESET_BUSY (winD n) && !s.remoteLeft n) (s.instResetDone n) s

/-- VF Enable is cleared: instances 1 to 15 are reset. -/
def State.vfOff (s : State) : State :=
  ({ s with pcie := { s.pcie with vfEnable := false } } : State).instResets 1

/-- A function-level reset; that of PF 0 clears VF Enable. -/
def State.flr (s : State) (n : Nat) : State :=
  if n = 0 then (s.instReset 0).vfOff else s.instReset n

/-- FUNCTION_LEVEL_RESET (R157). During a warm reset it is absorbed (Table 5-5). -/
def execFunctionLevelReset (fn : Nat) (s : State) : Outcome State Fault Refusal :=
  unitStep fn 16 (s.ready && s.linked fn) (s.flr fn) s

/-- INST_CTRL.RESET (R132): only the owner's write acts. -/
def State.windowReset (s : State) (by_ win : Nat) : State := if by_ = win then s.instReset win else s.cfgErr .win

/-- INSTANCE_RESET_WRITE (R157). -/
def execInstanceResetWrite (by_ win : Nat) (s : State) : Outcome State Fault Refusal :=
  if by_ < 16 ∧ win < 16 then stepIf (s.running && s.linked by_) (s.windowReset by_ win) s else .fault .noSuchUnit

/-- VF_DISABLE (R157). -/
def execVfDisable (s : State) : Outcome State Fault Refusal :=
  stepIf (s.power.on && s.linked 0 && s.pcie.vfEnable) s.vfOff s

/-! ## The PCIe link (R109, R121, R122, R144, R158) -/

/-- What a function's configuration space answers (R131): a class code of base 0x12 and subclass 0, the SR-IOV
capability of PF 0 alone, sizes in bytes, and 1 or 0 for a feature that is or is not supported. -/
def State.configValue (s : State) (fn : Nat) : CfgReq → Nat
  | .deviceId => if fn = 0 then 0x0128 else 0x0129
  | .classCode => 0x1200
  | .totalVfs => if fn = 0 then 15 else 0
  | .firstVfOffset | .vfStride => if fn = 0 then 1 else 0
  | .maxPayload => 512
  | .maxReadRequest => 4096
  | .aer | .flr | .l1 | .l11 | .l12 => 1
  | .l0s | .ats | .pri | .peerToPeer | .multicast => 0
  | .vfEnable _ => b2n (fn == 0 && s.pcie.vfEnable)

/-- A configuration request wakes the PCIe domains (R73). It is answered with Retry Status before stage 0xF, but not in
a warm reset, and while the set-up after PERST_N's rise runs (which may have ended by now); otherwise normally, and PF
0's may set or clear VF Enable. -/
def State.config (s : State) (fn : Nat) (req : CfgReq) : State :=
  let s := (s.rouse 228).rouse 229
  let r := s.drawBool
  let late := s.reg GBL_BOOT_STATUS.STAGE == 0xF || s.boot.warm
  let s := if s.pcie.setup && late then r.2 else s
  if !late || (s.pcie.setup && r.1) then s.emit (.cfg fn true 0)
  else
    let s := ({ s with pcie := { s.pcie with setup := false } } : State)
    let s := match req with
      | .vfEnable true =>
        if fn != 0 || s.regB GBL_BOOT_STATUS.RECOVERY then s else { s with pcie := { s.pcie with vfEnable := true } }
      | .vfEnable false => if fn = 0 && s.pcie.vfEnable then s.vfOff else s
      | _ => s
    s.emit (.cfg fn false (s.configValue fn req))

/-- CONFIG_REQUEST (R109, R118, R122, R131). A VF answers while it is enabled. -/
def execConfigRequest (fn : Nat) (req : CfgReq) (s : State) : Outcome State Fault Refusal :=
  unitStep fn 16 (s.power.on && s.pcie.up && s.pcie.perst
    && (fn == 0 || s.pcie.vfEnable || !(s.reg GBL_BOOT_STATUS.STAGE == 0xF || s.boot.warm))) (s.config fn req) s

/-- PERST_N falls (R121): the host interface is held in reset. -/
def State.perstFall (s : State) : State :=
  let s := s.instResets 0
  { s with pcie := { s.pcie with perst := false, up := false, aspm := 0 } }

/-- PERST_N_FALL (R121). -/
def execPerstNFall (s : State) : Outcome State Fault Refusal :=
  answer s (if s.power.on then (if s.pcie.perst then s.perstFall else s)
    else { s with pcie := { s.pcie with perst := false, up := false } })

/-- PERST_N rises (R122): configuration spaces as at reset, SR-IOV disabled, domains 228 and 229 woken. -/
def State.perstRise (s : State) : State :=
  let late := s.reg GBL_BOOT_STATUS.STAGE == 0xF || s.boot.warm
  let s : State := { s with msix := [], pcie := { s.pcie with perst := true, vfEnable := false, setup := late } }
  if s.reg GBL_BOOT_STATUS.STAGE ≥ 3 then (s.wakeOn 228 7).wakeOn 229 7 else s

/-- PERST_N_RISE (R122). -/
def execPerstNRise (s : State) : Outcome State Fault Refusal :=
  answer s (if s.power.on then (if s.pcie.perst then s else s.perstRise)
    else { s with pcie := { s.pcie with perst := true } })

/-- PCIE_LINK_UP (R109): training begins at the end of stage 0x2. -/
def execPcieLinkUp (s : State) : Outcome State Fault Refusal :=
  stepIf (s.power.on && s.pcie.perst && s.reg GBL_BOOT_STATUS.STAGE ≥ 3)
    { s with pcie := { s.pcie with up := true, aspm := 0 } } s

/-- HOST_LINK_DOWN (R158): what cannot be delivered from now on is dropped and counted. -/
def execHostLinkDown (s : State) : Outcome State Fault Refusal :=
  stepIf (s.power.on && s.pcie.up) { s with pcie := { s.pcie with up := false, aspm := 0 } } s

/-- The link states that Peridot's depth allows (Table 6-7): 1 is L1, 2 L1.1, 3 L1.2. -/
def State.mayEnter (s : State) (sub : Nat) : Bool :=
  match s.reg QTZ_STATUS.DEPTH with
  | 0 => false
  | 1 => sub == 1
  | _ => 1 ≤ sub && sub ≤ 3

/-- PCIE_L1_ENTRY (R144). -/
def execPcieL1Entry (sub : Nat) (s : State) : Outcome State Fault Refusal :=
  stepIf (s.power.on && s.pcie.up && s.mayEnter sub) { s with pcie := { s.pcie with aspm := sub } } s

/-- PCIE_L1_EXIT (R73). -/
def execPcieL1Exit (s : State) : Outcome State Fault Refusal :=
  stepIf (s.power.on && s.pcie.up && s.pcie.aspm != 0)
    ((({ s with pcie := { s.pcie with aspm := 0 } } : State).wakeOn 228 7).wakeOn 229 7) s

/-! ## Lapis: SVN, debug authentication (R115, R123, R124), TAP and console (R54) -/

/-- SVN_COMMIT (R115). -/
def State.commitSvn (s : State) : State :=
  { s with boot := { s.boot with svn := max s.boot.svn (s.reg GBL_FW_VERSION.SVN) } }
def execSvnCommit (s : State) : Outcome State Fault Refusal := stepIf s.ready s.commitSvn s

/-- DEBUG_NONCE (R123): 32 new bytes. -/
def State.debugNonce (s : State) (level : Nat) (nonce : Bytes) : State :=
  let s := (s.setReg LPS_DBG_REQ.LEVEL 0 level).setReg LPS_DBG_STATE.STATE 0 1
  let s := (List.range 8).foldl (fun t i => t.setReg LPS_DBG_NONCE.NONCE (4 * i) (fieldLE nonce (4 * i) 4)) s
  { s with dbg := ⟨some s.ticks⟩ }
def execDebugNonce (level : Nat) (nonce : Bytes) (s : State) : Outcome State Fault Refusal :=
  stepIf (s.ready && level < 4) (s.debugNonce level nonce) s

/-- The key that verifies the signature: 1 Warel service key, 2 integrator key, 0 none. -/
def State.debugSigner (s : State) (level : Nat) : Nat :=
  Config.debugKey ((List.range 24).map fun i => s.reg LPS_DBG_SIG.SIG (4 * i))
    ((List.range 8).flatMap fun i => leBytes 4 (s.reg LPS_DBG_NONCE.NONCE (4 * i))) level

/-- The key permits the level (Table 5-4). -/
def keyPermits (key level : Nat) : Bool :=
  (key == 1 && 1 ≤ level && level ≤ 3) || (key == 2 && (level == 1 || level == 3))

/-- The nonce is good: less than 60 s old, and not used. -/
def State.nonceLive (s : State) : Bool :=
  match s.dbg.nonceAt with
  | none => false
  | some t => s.ticks < t + 240000000

/-- Lapis accepts the request (R123, R124). -/
def State.debugOk (s : State) (level : Nat) : Bool :=
  !s.regB LPS_STATUS.DBG_LOCKED && !s.regB LPS_CTRL.DBG_DISABLE && s.nonceLive
    && keyPermits (s.debugSigner level) level && !(level == 3 && s.anyBound)

/-- An accepted level (R73, R123, R124). Level 3 lasts until a module reset, stops the guard with cause 9 (R249),
disables Jade and holds its outputs off; level 2 has the firmware trace. -/
def State.debugOpen (s : State) (level : Nat) : State :=
  let cur := s.reg LPS_STATUS.DBG_LEVEL
  let new := if cur = 3 then 3 else level
  let s := if new = 2 then (if cur = 2 then s else s.emit (.uartTrace true)) else s.traceEnds
  let s := (s.setReg LPS_STATUS.DBG_LEVEL 0 new).setReg LPS_DBG_STATE.STATE 0 2
  let s := if level = 3 then ((s.stop 9 0).outputs false).setJState 0 else s
  ((s.pfEvent 0x0A02).wakeOn 239 7).wakeOn 243 7

/-- A refused request; the third locks. -/
def State.debugRefuse (s : State) : State :=
  let s := ((s.count LPS_DBG_STATE.FAILS).setReg LPS_DBG_STATE.STATE 0 3).pfEvent 0x0A01
  if s.reg LPS_DBG_STATE.FAILS ≥ 3 then s.setReg LPS_STATUS.DBG_LOCKED 0 1 else s

/-- GO: the nonce is used, the signature cleared. -/
def State.debugGo (s : State) (level : Nat) : State :=
  let s := s.setReg LPS_DBG_REQ.LEVEL 0 level
  let ok := s.debugOk level
  let s : State := { s with dbg := ⟨none⟩ }
  let s := (List.range 24).foldl (fun t i => t.setReg LPS_DBG_SIG.SIG (4 * i) 0) s
  if ok then s.debugOpen level else s.debugRefuse

/-- DEBUG_GO (R123). During a warm reset it is refused without a count (Table 5-5). -/
def execDebugGo (level : Nat) (s : State) : Outcome State Fault Refusal :=
  answer s (if s.ready then (if level < 4 then s.debugGo level else s)
    else if s.power.on && s.boot.warm then s.setReg LPS_DBG_STATE.STATE 0 0 else s)

/-- DEBUG_END (R124). -/
def execDebugEnd (s : State) : Outcome State Fault Refusal := stepIf s.ready s.endDebug s

/-- What the TAP shifts out (R54, Table 5-4). `ir` is 1 for IDCODE, 2 SAMPLE/PRELOAD, 3 EXTEST, 4 an access to the
management cores, anything else BYPASS; an instruction that is not open gives BYPASS, one bit of delay. -/
def State.tap (s : State) (ir : Nat) (data : Bytes) : State :=
  let level := s.reg LPS_STATUS.DBG_LEVEL
  let open_ := (ir == 2 || ir == 3) && level == 3 || ir == 4 && level == 2
  if ir = 1 then s.emit (.tap 1 (leBytes data.length (Config.idcode.toNat + 2 ^ 32 * leNat data)))
  else if open_ then let r := s.drawBytes data.length; r.2.emit (.tap ir r.1)
  else s.emit (.tap 0 (leBytes data.length (2 * leNat data)))

/-- TAP_ACCESS (R54). -/
def execTapAccess (ir : Nat) (data : Bytes) (s : State) : Outcome State Fault Refusal :=
  stepIf s.power.on (s.tap ir data) s

/-- UART_RX_COMMAND (R54, Table 5-4): ignored but at debug levels 1 and 2. -/
def execUartRxCommand (cmd : Bytes) (s : State) : Outcome State Fault Refusal :=
  let level := s.reg LPS_STATUS.DBG_LEVEL
  stepIf (s.power.on && (level == 1 || level == 2)) (s.emit (.uartStatus level cmd)) s

end Sys2Proof.Machine
end

