-- ==== Sys2Proof/Machine/RegWrite.lean ====
section
/-!
DEFINITION. Writing the registers of BAR0, field by field by access code (R5 to R11, Table 0-3), with the
action that each field triggers, and the MSI-X tables.
-/
namespace Sys2Proof.Machine
open Host (Outcome)

/-! ## When a field takes a write -/

/-- The register of a word holds this field. -/
def Word32.has (w : Word32) (F : Fld) : Bool := w.reg.flds.contains F

/-- A descriptor is enabled while a bound port has it in force or in its DESC_MASK (Table 9-10). -/
def State.descUsed (s : State) (d : Nat) : Bool :=
  s.ports.any fun e => e.2.bound && (s.reg GNT_P_STATUS.DESC (portD e.1) == d || bit e.2.mask d)

/-- An elevation table is enabled while an enabled descriptor names it. -/
def State.elevUsed (s : State) (t : Nat) : Bool :=
  (List.range 32).any fun d => s.descUsed d && (s.desc d).elev == t

/-- The owning block of a word is enabled, so that its RWD fields take no new value. -/
def State.blockOn (s : State) (w : Word32) : Bool :=
  let o := w.reg.off
  let view := w.d / 0x100000 * 0x100000
  match w.blk with
  | .pdt => s.regB INST_CTRL.EN (winD (w.d / 8))
  | .qp => s.regB QP_CTRL.EN (w.d / 64 * 64)
  | .win =>
    if 0x8100 ≤ o && o < 0x8140 then s.regB HO_CTRL.EN (w.d / 0x800 * 0x800)
    else s.regB INST_CTRL.EN (w.d / 0x800 * 0x800)
  | .amb => s.regB AMB_TEL_CTRL.EN
  | .gnt =>
    if o < 0x4100 then s.regB GNT_POSE_CTRL.EN
    else if o < 0x4600 then (s.port (w.d / 0x80)).bound
    else if o < 0x4800 then s.elevUsed (w.d / 0x80) else s.descUsed (w.d / 32)
  | .jde => s.jState ≥ 2
  | .brl => s.regB BRL_T_CTRL.EN (w.d / 0x18 * 0x18)
  | .spn => s.regB TD_CTRL.EN view
  | .agt => if o < 0x6100 then s.regB AGT_CTRL.EN else s.regB LY_CTRL.EN view
  | .span => s.regB SPAN_CTRL.EN
  | _ => false

/-- The LOCK bit over a word's RWL fields is set (R8). -/
def State.lockOn (s : State) (w : Word32) : Bool :=
  match w.blk with
  | .gbl => s.regB GBL_RESET_CTRL.LOCK
  | .lps => s.regB LPS_CTRL.LOCK
  | .jde => s.regB JDE_CTRL.LOCK
  | .jsp => s.regB JSP_BIND.LOCK (w.d / 128 * 128)
  | _ => false

/-- The RW fields whose write has an action that sets them. -/
def actedFields : List Fld :=
  [QP_CTRL.EN, INST_CTRL.EN, HO_CTRL.EN, JDE_CTRL.ARM, BRL_T_CTRL.EN, TD_CTRL.EN, LY_CTRL.EN, SPAN_CTRL.EN]

/-- What a write does to one field: leave it, set it, stage it, or drop the write of it. -/
inductive FieldWrite where
  | keep | set (v : Nat) | stage (v : Nat) | drop
deriving DecidableEq, Repr

/-- The sum of the tag reserves with instance `n`'s at `v` (Table 6-15). -/
def State.reserveSum (s : State) (n v : Nat) : Nat :=
  (allInsts.map fun k => if k = n then v else s.reserveOf k).sum

/-- A value that an RWD field refuses in any state: reserves beyond their sum, or a seventeenth queue pair of an instance
other than PF 0 (R134; DESIGN CHOICE, log entry 143). -/
def State.badValue (s : State) (F : Fld) (d v : Nat) : Bool :=
  F == PDT_INST1.TAG_RESERVE && s.reserveSum (d / 8) v > 16384
    || F == QP_CTRL.INSTANCE && v != 0 && (allQps.filter fun q => s.qpInst q == v).length ≥ 16

/-- Table 0-3: a field written with `v`, its block enabled or not, its lock set or not. -/
def State.fieldWrite (s : State) (F : Fld) (d v : Nat) (on locked : Bool) : FieldWrite :=
  let old := s.reg F d
  match F.acc with
  | .rw => if actedFields.contains F then .keep else .set v
  | .rws => .stage v
  | .rwd => if v = old then .keep else if on || s.badValue F d v then .drop else .set v
  | .rwl => if locked then .keep else .set v
  | .w1c => .set (old - Nat.land old v)
  | .w1s => .set (Nat.lor old v)
  | _ => .keep

/-- One field takes its write; the flag says that it was dropped. -/
def State.putField (s : State) (F : Fld) (d v : Nat) (on locked : Bool) : State × Bool :=
  match s.fieldWrite F d v on locked with
  | .keep => (s, false)
  | .set x => (s.setReg F d x, false)
  | .stage x => (s.stage F d x, false)
  | .drop => (s, true)

/-- The fields of a word in turn. The enable and the lock are those before the write; INSTANCE is read-only
through a window slot (R134). -/
def State.putFields (s : State) (w : Word32) (v : Nat) (slot : Bool) : State × Bool :=
  let on := s.blockOn w
  let locked := s.lockOn w
  w.reg.flds.foldl (fun (t : State × Bool) F =>
    if slot && F == QP_CTRL.INSTANCE then t
    else
      let r := t.1.putField F w.d (bits v F.lo F.w) on locked
      (r.1, t.2 || r.2)) (s, false)

/-- A dropped write is reported (R6): at its queue pair, its channel with its count, or its port. -/
def State.dropWord (s : State) (w : Word32) : State :=
  match w.blk with
  | .qp => s.cfgErr .qp (w.d / 64 * 64)
  | .jsp => s.jspDrop (w.d / 128)
  | .gnt => if 0x4100 ≤ w.reg.off && w.reg.off < 0x4600 then s.portCfgErr (w.d / 0x80) else s.cfgErr .gnt
  | b => s.cfgErr b

/-! ## Actions -/

/-- GBL, LPS and QTZ: resets, the SVN, debug authentication, the DTIME step, a domain's floor. -/
def State.actSys (s : State) (w : Word32) (v : Nat) : State :=
  if w.has GBL_RESET.KEY then s.gblReset v
  else if w.has LPS_CTRL.SVN_COMMIT then (if bit v 1 then s.commitSvn else s)
  else if w.has LPS_DBG_REQ.GO then
    let s := if bit v 2 then (let r := s.drawBytes 32; r.2.debugNonce (v % 4) r.1) else s
    let s := if bit v 3 then s.debugGo (v % 4) else s
    if bit v 4 then s.endDebug else s
  else if w.has QTZ_DTIME_STEP_HI.STEP then s.addStep v
  else if w.has QTZ_DOM.FLOOR then s.meetFloor (w.d / 4)
  else s

/-- TPZ and ZRC: the cap, the limits and the fallback, which apply at once (R399), and the threshold. -/
def State.actPower (s : State) (w : Word32) (v : Nat) : State :=
  if w.has TPZ_CAP.CAP then s.writeCap v
  else if w.has TPZ_LIMITS.FCLK_MAX then s.writeLimits v
  else if w.has TPZ_FALLBACK.BU then s.rebalance
  else if w.has ZRC_CE_THRESH.COUNT then s.writeThresh v
  else s

/-- The SAT bits of one word of AMB_SAT_MAP cleared (R368). -/
def State.clearSats (s : State) (i v : Nat) : State :=
  let base := satBase (s.reg AMB_SAT_SEL.BLOCK) (s.reg AMB_SAT_SEL.INST) + 32 * i
  if s.reg AMB_SAT_SEL.BLOCK > 18 then s
  else { s with sats := s.sats.filter fun e => !(base ≤ e.1 && e.1 < base + 32 && bit v (e.1 - base)) }

/-- INST_CTRL.EN goes to 1: the event ring starts at its first entry, in PHASE 1 (R150 with R141). -/
def State.instEnable (s : State) (n : Nat) : State :=
  if s.regB INST_CTRL.EN (winD n) then s
  else
    let s := s.setReg INST_CTRL.EN (winD n) 1
    s.setInst n { s.inst n with evtTail := 0, sbDirty := true }

/-- HO_CTRL.EN goes to 1: the request ring starts at its first entry, in PHASE 1 (R185 with R141), and the next payload
byte lies within the staging area as HO_SIZES now has it. -/
def State.hoEnable (s : State) (n : Nat) : State :=
  if s.regB HO_CTRL.EN (winD n) then s
  else ((s.setReg HO_CTRL.EN (winD n) 1).setReg HO_REQ_TAIL.TAIL (winD n) 0).setInst n
    { s.inst n with stageAt := (s.inst n).stageAt % s.hoStageSize n }

/-- The status blocks of instances have changed (R143). -/
def State.sbChanged (s : State) (ns : List Nat) : State :=
  ns.foldl (fun t n => t.setInst n { t.inst n with sbDirty := true }) s

/-- The host interface: queue pairs, fences, Amber, instance windows and handoff rings. The free room of a completion
ring goes to the completions that wait for it. -/
def State.actHost (s : State) (by_ : Nat) (w : Word32) (v : Nat) : State :=
  let q := w.d / 64
  let n := w.d / 0x800
  if w.has QP_CTRL.EN then (if bit v 0 then s.qpEnable q else s.qpDisable q)
  else if w.has QP_FLUSH.GO then (if bit v 0 then s.flushWrite q (bit v 1) else s)
  else if w.has INST_CQ_HEAD.HEAD then s.settleQp (w.d % 0x800 / 4)
  else if w.has PDT_IDLE_POLL.POLL_US then (if s.reg QTZ_STATUS.DEPTH = 1 then s.sbChanged allInsts else s)
  else if w.has OPL_FENCE_CTRL.SIGNAL then s.fenceCtrl v []
  else if w.has AMB_CTRL.WAIT_MAX_CLR then (if bit v 1 then s.waitMaxClr else s)
  else if w.has AMB_SNAP.GO then (if bit v 0 then s.snapshot else s)
  else if w.has AMB_SAT_MAP.SAT then s.clearSats (w.d / 4) v
  else if w.has INST_CTRL.EN then
    let s := if bit v 0 then s.instEnable n else s.setReg INST_CTRL.EN (winD n) 0
    let s := if n = 0 && bit v 0 then s.tellRejected else s
    let s := if s.canDma n && s.regB INST_CTRL.EN (winD n) then s.tellMigrations n else s
    if bit v 1 then s.windowReset by_ n else s
  else if w.has INST_KICK.QP then s.kick by_ n
  else if w.has HO_CTRL.EN then
    (if bit v 0 then s.hoEnable n else if s.regB HO_CTRL.EN (winD n) then s.hoDisable n else s)
  else s

/-- BRL_Tt_CTRL.EN cleared (Table 11-10): operations that wait for the table's zeroing find it disabled. -/
def State.brlDisable (s : State) (t : Nat) : State :=
  ((s.setReg BRL_T_CTRL.EN (brlD t) 0).setReg BRL_T_CTRL.ZEROING (brlD t) 0).zeroingOver

/-- TD_CTRL.EN cleared. -/
def State.tableDisable (s : State) (t : Nat) : State :=
  if s.regB TD_CTRL.EN (tdD t) then s.setReg TD_CTRL.EN (tdD t) 0 else s

/-- SPAN_CTRL: EN set, FORM, REMOVE, LEAVE, EN cleared. -/
def State.actSpan (s : State) (v : Nat) : State :=
  let s := if bit v 0 then s.spanEnable else s
  let s := if bit v 3 then s.ctrlForm else s
  let s := if bit v 4 then s.ctrlRemove (s.reg SPAN_CTRL.REMOVE_MOD) else s
  let s := if bit v 5 then s.ctrlLeave else s
  if bit v 0 then s else s.spanDisable

/-- The engines: sensor ports, the guard, tables, layers, hardware queues, the span. -/
def State.actEngine (s : State) (by_ : Nat) (w : Word32) (v : Nat) : State :=
  let p := w.d / 0x80
  let view := w.d / 0x100000
  if w.has GNT_P_CTRL.CABLE_TEST then
    let s := if !bit v 4 && s.regB GNT_P_STATUS.PODL_ON (portD p) then s.podlOff p else s
    if bit v 5 then s.cableTestWrite p else s
  else if w.has GNT_P_STATUS.PODL_FAULT then (if bit v 5 then s.podlClear p else s)
  else if w.has GNT_POSE_CTRL.EN then
    (let p := s.reg GNT_POSE_CTRL.PORT
     if bit v 0 && p < nPorts then (s.meetFloor (4 + p)).meetFloor (14 + p) else s)
  else if w.has JDE_CTRL.ARM then (if bit v 0 then s.armOn else s.armOff)
  else if w.has JDE_RESTART.GO then
    (if bit v 2 && by_ = 0 && (!s.regB JDE_RESTART.SRC || s.jState == 4) then s.restart true else s)
  else if w.has BRL_T_CTRL.EN then
    (if bit v 0 then s.brlEnable (w.d / 0x18) else s.brlDisable (w.d / 0x18))
  else if w.has TD_CTRL.EN then (if bit v 0 then s.tableEnable view else s.tableDisable view)
  else if w.has AGT_HQ_FLUSH.GO then (if bit v 0 then s.hqFlushWrite else s)
  else if w.has LY_CTRL.EN then (if bit v 0 then s.layerEnable view else s.setReg LY_CTRL.EN (lyD view) 0)
  else if w.has SPAN_CTRL.EN then s.actSpan v
  else if w.has SPAN_DIGEST_LO.DIGEST || w.has SPAN_DIGEST_HI.DIGEST then s.digestWritten
  else s

/-- The action of a word's fields. -/
def State.act (s : State) (by_ : Nat) (w : Word32) (v : Nat) : State :=
  match w.blk with
  | .gbl | .lps | .qtz => s.actSys w v
  | .tpz | .zrc => s.actPower w v
  | .pdt | .qp | .opl | .mode | .amb | .win => s.actHost by_ w v
  | .gnt | .jde | .brl | .fct | .spn | .agt | .span => s.actEngine by_ w v
  | .jsp => s

/-! ## Mailbox words (R192 to R194) -/

/-- A master that writes JSP_BIND and MODE: PF 0, or management core 0 (R192). -/
def jspOwner (m : Nat) : Bool := m == 0 || m == 0x10

/-- JSP_CTRL written by master `m`: MODE is that of R192's masters, ABORTED its sender's (R197), the rest a bound
master's (R193). -/
def State.jspCtrl (s : State) (m c v : Nat) : State :=
  let d := chanD c
  let s := if jspOwner m && !s.regB JSP_BIND.LOCK d then s.setReg JSP_CTRL.MODE d (bits v 3 1) else s
  if !s.boundTo c m then (if jspOwner m && !bit v 0 && !bit v 2 && !bit v 4 then s else s.jspDrop c)
  else
    let s := if bit v 2 && s.reg JSP_CTRL.SRC d == m then s.setReg JSP_CTRL.ABORTED d 0 else s
    let s := if bit v 0 then s.jspSend m c else s
    if bit v 4 then s.jspRelease m c else s

/-- A word of channel `c` written by master `m`. JSP_BIND is that of R192's masters until it is locked; JSP_STATUS, where
drops show, is PF 0's also when it is bound to neither end (DESIGN CHOICE, log entry 39). -/
def State.jspWord (s : State) (m : Nat) (w : Word32) (v : Nat) : State :=
  let c := w.d / 128
  if w.reg.off = 0x3000 then s.jspData m c (w.d % 128 / 4) v
  else if w.has JSP_CTRL.GO then s.jspCtrl m c v
  else if w.has JSP_BIND.LOCK then (if jspOwner m then (s.putFields w v false).1 else s.jspDrop c)
  else if s.boundTo c m || w.has JSP_STATUS.CFG_ERR && m = 0 then (s.putFields w v false).1
  else s.jspDrop c

/-! ## A write request (R11, R132) -/

/-- A word written: its fields, the report of a drop (R6), its action, and the copies of a catalogue entry that it
changes (R288). -/
def State.writeWord (s : State) (by_ : Nat) (w : Word32) (v : Nat) (slot : Bool) : State :=
  if w.blk == .jsp then s.jspWord by_ w v
  else if w.high then s
  else
    let r := s.putFields w v slot
    let t := if r.2 then r.1.dropWord w else r.1
    let q := w.d / 64
    let t := if w.has QP_CTRL.INSTANCE && s.qpInst q != t.qpInst q then t.sbChanged [s.qpInst q, t.qpInst q] else t
    let t := t.act by_ w v
    if w.blk == .spn then t.spreadFrom s (w.d / 0x100000) else t

/-- A word of an instance window that a write does not reach: INST_CQ_HEAD of a queue pair that the instance
does not own (Table 6-16). -/
def State.foreignHead (s : State) (o : Nat) : Bool :=
  let x := (o - 0x8000) % 0x800
  0x8000 ≤ o && o < 0x10000 && 0x200 ≤ x && x < 0x300 && s.qpInst ((x - 0x200) / 4) != (o - 0x8000) / 0x800

/-- PF 0's offset `o` is in a queue pair's slot of a window. -/
def inSlot (o : Nat) : Bool := 0x8000 ≤ o && o < 0x10000 && 0x400 ≤ (o - 0x8000) % 0x800

/-- The bytes of a write, starting at `off`, that cover the word at `4 * k`: the word's value when they cover all
of it (R11). -/
def coveredWord (off : Nat) (data : Bytes) (k : Nat) : Option Nat :=
  if off ≤ 4 * k && 4 * k + 4 ≤ off + data.length then some (fieldLE data (4 * k - off) 4) else none

/-- One aligned word that a write of instance `n` touches: written whole, or dropped (R11). -/
def State.touchWord (s : State) (n off : Nat) (data : Bytes) (k : Nat) : State :=
  let o := reqOff n (4 * k)
  if s.answers o != .yes || s.foreignHead o then s
  else match s.word? o with
    | none => s
    | some w => match coveredWord off data k with
      | some v => s.writeWord n w v (inSlot o)
      | none => s.dropWord w

/-- A word of the MSI-X table of instance `n`: address, data and vector control (as PCIe has it: PRESUMED, log entry 32). -/
def State.msixWord (s : State) (n k v : Nat) : State :=
  let e := s.msixEntry n (k / 4)
  if k / 4 ≥ vectors n then s
  else if k % 4 = 0 then s.setMsix n (k / 4) { e with addr := e.addr / 2 ^ 32 * 2 ^ 32 + v }
  else if k % 4 = 1 then s.setMsix n (k / 4) { e with addr := e.addr % 2 ^ 32 + 2 ^ 32 * v }
  else if k % 4 = 2 then s.setMsix n (k / 4) { e with data := v }
  else if bit v 0 then s.setMsix n (k / 4) { e with masked := true } else s.unmask n (k / 4)

/-- A write to the MSI-X table; the pending bits are read-only. -/
def State.msixWrite (s : State) (n off : Nat) (data : Bytes) : State :=
  (touchedWords off data.length).foldl (fun t k => match coveredWord off data k with
    | some v => t.msixWord n k v
    | none => t) s

/-- Word `k` of BAR0 lies in Jasper's block. -/
def inJasper (k : Nat) : Bool := 0x3000 ≤ 4 * k && 4 * k < 0x4000

/-- A write request of instance `n` to one of its BARs (Tables 6-1 and 6-2). Of the words that a management core, 16 to
19, writes, the manual gives only Jasper's (R192). -/
def State.busWrite (s : State) (n bar off : Nat) (data : Bytes) : State :=
  if n ≥ 16 then
    (if bar = 0 then ((touchedWords off data.length).filter inJasper).foldl (·.touchWord n off data ·) s else s)
  else if n = 0 then
    if bar = 0 then
      (if off + data.length ≤ 0x10000 then (touchedWords off data.length).foldl (·.touchWord 0 off data ·) s else s)
    else if bar = 2 && off + data.length ≤ 0x800 then s.msixWrite 0 off data else s
  else if bar != 0 then s
  else if off + data.length ≤ 0x800 then (touchedWords off data.length).foldl (·.touchWord n off data ·) s
  else if 0x800 ≤ off && off + data.length ≤ 0x880 then s.msixWrite n (off - 0x800) data else s

/-- REGISTER_WRITE (R5, R6, R10, R11): by an instance, or by a management core. -/
def execRegisterWrite (n bar off : Nat) (data : Bytes) (s : State) : Outcome State Fault Refusal :=
  unitStep n 20 (if n ≥ 16 then s.ready else s.power.on && s.linked n) (s.busWrite n bar off data) s

/-- THRESHOLD_WRITE (R14): ZRC_CE_THRESH. -/
def execThresholdWrite (v : Nat) (s : State) : Outcome State Fault Refusal := stepIf s.running (s.writeThresh v) s

end Sys2Proof.Machine
end

