-- ==== Sys2Proof/Machine/Dispatch.lean ====
section
/-!
DEFINITION. The effect of each command on everything but the queue of commands: one arm for each row of the
table of operations and events.
-/
namespace Sys2Proof.Machine

def exec (i : Instr) (s : State) : Host.Outcome State Fault Refusal :=
  match i with
  | .registerWrite inst bar off data => Sys2Proof.Machine.execRegisterWrite inst bar off data s
  | .lowWordRead req acc => Sys2Proof.Machine.execLowWordRead req acc s
  | .thresholdWrite val => Sys2Proof.Machine.execThresholdWrite val s
  | .bulkChargeComplete => Sys2Proof.Machine.execBulkChargeComplete s
  | .inputQualified => Sys2Proof.Machine.execInputQualified s
  | .vinUndervoltage => Sys2Proof.Machine.execVinUndervoltage s
  | .vinBelow12v => Sys2Proof.Machine.execVinBelow12v s
  | .drawOver28w => Sys2Proof.Machine.execDrawOver28w s
  | .vinOvervoltage => Sys2Proof.Machine.execVinOvervoltage s
  | .overvoltageRecovery => Sys2Proof.Machine.execOvervoltageRecovery s
  | .holdTimeExpiry => Sys2Proof.Machine.execHoldTimeExpiry s
  | .dieTemperatureSample a b c d => Sys2Proof.Machine.execDieTemperatureSample a b c d s
  | .thermalStepExit => Sys2Proof.Machine.execThermalStepExit s
  | .supplyMeasurement vinMv stopvsDv iinMa => Sys2Proof.Machine.execSupplyMeasurement vinMv stopvsDv iinMa s
  | .drawComparison => Sys2Proof.Machine.execDrawComparison s
  | .smbusBlockRead addr cmd => Sys2Proof.Machine.execSmbusBlockRead addr cmd s
  | .mresetNReset lowNs => Sys2Proof.Machine.execMresetNReset lowNs s
  | .gblResetModule val => Sys2Proof.Machine.execGblResetModule val s
  | .gblResetWarm val => Sys2Proof.Machine.execGblResetWarm val s
  | .watchdogTimeout => Sys2Proof.Machine.execWatchdogTimeout s
  | .coreFault core => Sys2Proof.Machine.execCoreFault core s
  | .warmQuiesceComplete => Sys2Proof.Machine.execWarmQuiesceComplete s
  | .startupStageComplete rep => Sys2Proof.Machine.execStartupStageComplete rep s
  | .stageOverrun => Sys2Proof.Machine.execStageOverrun s
  | .configRequest fn req => Sys2Proof.Machine.execConfigRequest fn req s
  | .perstNFall => Sys2Proof.Machine.execPerstNFall s
  | .perstNRise => Sys2Proof.Machine.execPerstNRise s
  | .pcieL1Exit => Sys2Proof.Machine.execPcieL1Exit s
  | .hostLinkDown => Sys2Proof.Machine.execHostLinkDown s
  | .svnCommit => Sys2Proof.Machine.execSvnCommit s
  | .debugNonce level nonce => Sys2Proof.Machine.execDebugNonce level nonce s
  | .debugGo level => Sys2Proof.Machine.execDebugGo level s
  | .debugEnd => Sys2Proof.Machine.execDebugEnd s
  | .qclkTick => Sys2Proof.Machine.execQclkTick s
  | .dtimeStep hi => Sys2Proof.Machine.execDtimeStep hi s
  | .qclkLoss => Sys2Proof.Machine.execQclkLoss s
  | .domainIdle n => Sys2Proof.Machine.execDomainIdle n s
  | .powerDownStart n => Sys2Proof.Machine.execPowerDownStart n s
  | .drainComplete n => Sys2Proof.Machine.execDrainComplete n s
  | .powerDownComplete n => Sys2Proof.Machine.execPowerDownComplete n s
  | .retainHoldExpiry n => Sys2Proof.Machine.execRetainHoldExpiry n s
  | .floorWrite n val => Sys2Proof.Machine.execFloorWrite n val s
  | .packetArrival n seg pkt => Sys2Proof.Machine.execPacketArrival n seg pkt s
  | .wake n src => Sys2Proof.Machine.execWake n src s
  | .wakeComplete n => Sys2Proof.Machine.execWakeComplete n s
  | .drainTimeout n => Sys2Proof.Machine.execDrainTimeout n s
  | .wakeTimeout n => Sys2Proof.Machine.execWakeTimeout n s
  | .powerCycleComplete n => Sys2Proof.Machine.execPowerCycleComplete n s
  | .deepSleepPoll => Sys2Proof.Machine.execDeepSleepPoll s
  | .linkEnergyDetect p => Sys2Proof.Machine.execLinkEnergyDetect p s
  | .grantRequest item prio => Sys2Proof.Machine.execGrantRequest item prio s
  | .budgetRisingEdge period high => Sys2Proof.Machine.execBudgetRisingEdge period high s
  | .budgetEvaluation => Sys2Proof.Machine.execBudgetEvaluation s
  | .budgetLos => Sys2Proof.Machine.execBudgetLos s
  | .fclkRaiseComplete => Sys2Proof.Machine.execFclkRaiseComplete s
  | .zirconChargeRelease c => Sys2Proof.Machine.execZirconChargeRelease c s
  | .tpzCapWrite val => Sys2Proof.Machine.execTpzCapWrite val s
  | .tpzLimitsWrite val => Sys2Proof.Machine.execTpzLimitsWrite val s
  | .setBudget tag io => Sys2Proof.Machine.execSetBudget tag io s
  | .stopVsLow dv => Sys2Proof.Machine.execStopVsLow dv s
  | .stopOvercurrent out => Sys2Proof.Machine.execStopOvercurrent out s
  | .testPulse out stuck => Sys2Proof.Machine.execTestPulse out stuck s
  | .testPulseEnd out => Sys2Proof.Machine.execTestPulseEnd out s
  | .feedbackSample a b => Sys2Proof.Machine.execFeedbackSample a b s
  | .podlClassification p cls mw volts12 => Sys2Proof.Machine.execPodlClassification p cls mw volts12 s
  | .podlFault p => Sys2Proof.Machine.execPodlFault p s
  | .podlRetry p => Sys2Proof.Machine.execPodlRetry p s
  | .podlFaultClear p => Sys2Proof.Machine.execPodlFaultClear p s
  | .spresNChange p high => Sys2Proof.Machine.execSpresNChange p high s
  | .doorbellPoll => Sys2Proof.Machine.execDoorbellPoll s
  | .doorbellReadComplete inst data ok => Sys2Proof.Machine.execDoorbellReadComplete inst data ok s
  | .sqeFetched qp tag entries ok => Sys2Proof.Machine.execSqeFetched qp tag entries ok s
  | .peridotIdle => Sys2Proof.Machine.execPeridotIdle s
  | .peridotDeep => Sys2Proof.Machine.execPeridotDeep s
  | .instKick by_ win qp => Sys2Proof.Machine.execInstKick by_ win qp s
  | .operationComplete tag cqe => Sys2Proof.Machine.execOperationComplete tag cqe s
  | .interruptCoalesceTimeout qp => Sys2Proof.Machine.execInterruptCoalesceTimeout qp s
  | .msixUnmask inst vec => Sys2Proof.Machine.execMsixUnmask inst vec s
  | .eventsLost inst => Sys2Proof.Machine.execEventsLost inst s
  | .qpEnable q => Sys2Proof.Machine.execQpEnable q s
  | .qpDisable q => Sys2Proof.Machine.execQpDisable q s
  | .qpFlush q fenceErr tail entries => Sys2Proof.Machine.execQpFlush q fenceErr tail entries s
  | .qpPrioWrite q prio => Sys2Proof.Machine.execQpPrioWrite q prio s
  | .functionLevelReset fn => Sys2Proof.Machine.execFunctionLevelReset fn s
  | .instanceResetWrite by_ win => Sys2Proof.Machine.execInstanceResetWrite by_ win s
  | .vfDisable => Sys2Proof.Machine.execVfDisable s
  | .instanceResetComplete inst => Sys2Proof.Machine.execInstanceResetComplete inst s
  | .arbiterGrant arb round => Sys2Proof.Machine.execArbiterGrant arb round s
  | .deadlockWalk tag => Sys2Proof.Machine.execDeadlockWalk tag s
  | .oplFenceSignal w => Sys2Proof.Machine.execOplFenceSignal w s
  | .oplFenceSetErr w => Sys2Proof.Machine.execOplFenceSetErr w s
  | .oplFenceClearErr w => Sys2Proof.Machine.execOplFenceClearErr w s
  | .setMode tag io => Sys2Proof.Machine.execSetMode tag io s
  | .modeStagedApply n => Sys2Proof.Machine.execModeStagedApply n s
  | .handoffReply inst entry data ok => Sys2Proof.Machine.execHandoffReply inst entry data ok s
  | .handoffTimeout inst id => Sys2Proof.Machine.execHandoffTimeout inst id s
  | .handoffDisable inst fault => Sys2Proof.Machine.execHandoffDisable inst fault s
  | .jspDataWrite by_ chan word val => Sys2Proof.Machine.execJspDataWrite by_ chan word val s
  | .jspGo by_ chan => Sys2Proof.Machine.execJspGo by_ chan s
  | .jspRelease by_ chan => Sys2Proof.Machine.execJspRelease by_ chan s
  | .jspD15Read by_ chan => Sys2Proof.Machine.execJspD15Read by_ chan s
  | .portLinkUp p rate => Sys2Proof.Machine.execPortLinkUp p rate s
  | .lldpduReceived p lldpdu => Sys2Proof.Machine.execLldpduReceived p lldpdu s
  | .discoveryTimeout p => Sys2Proof.Machine.execDiscoveryTimeout p s
  | .lldpTransmit p => Sys2Proof.Machine.execLldpTransmit p s
  | .frameReceived p frame fcsOk laneUpset stall => Sys2Proof.Machine.execFrameReceived p frame fcsOk laneUpset stall s
  | .sliceCloseTimeout p => Sys2Proof.Machine.execSliceCloseTimeout p s
  | .sweepStalled p => Sys2Proof.Machine.execSweepStalled p s
  | .poseFrameReceived p payload => Sys2Proof.Machine.execPoseFrameReceived p payload s
  | .gptpSync offset pdelay gm => Sys2Proof.Machine.execGptpSync offset pdelay gm s
  | .gptpAnnounceTimeout => Sys2Proof.Machine.execGptpAnnounceTimeout s
  | .syncInEdge => Sys2Proof.Machine.execSyncInEdge s
  | .hotDetach p => Sys2Proof.Machine.execHotDetach p s
  | .bindPort tag io => Sys2Proof.Machine.execBindPort tag io s
  | .unbind tag io => Sys2Proof.Machine.execUnbind tag io s
  | .sliceConsume tag io => Sys2Proof.Machine.execSliceConsume tag io s
  | .cableTest p => Sys2Proof.Machine.execCableTest p s
  | .cableTestDone p result dist => Sys2Proof.Machine.execCableTestDone p result dist s
  | .motionComp tag io => Sys2Proof.Machine.execMotionComp tag io s
  | .poseWaitTimeout tag io => Sys2Proof.Machine.execPoseWaitTimeout tag io s
  | .voxelise tag io => Sys2Proof.Machine.execVoxelise tag io s
  | .fieldStepDown => Sys2Proof.Machine.execFieldStepDown s
  | .velStale => Sys2Proof.Machine.execVelStale s
  | .portSilent p => Sys2Proof.Machine.execPortSilent p s
  | .armWrite arm => Sys2Proof.Machine.execArmWrite arm s
  | .guardRun => Sys2Proof.Machine.execGuardRun s
  | .restartRequest by_ => Sys2Proof.Machine.execRestartRequest by_ s
  | .gpio0RestartPulse ms => Sys2Proof.Machine.execGpio0RestartPulse ms s
  | .storeCrcCheck crcA crcB => Sys2Proof.Machine.execStoreCrcCheck crcA crcB s
  | .guardFieldLoad tag io => Sys2Proof.Machine.execGuardFieldLoad tag io s
  | .hashBuild tag io => Sys2Proof.Machine.execHashBuild tag io s
  | .hashQuery tag io => Sys2Proof.Machine.execHashQuery tag io s
  | .rulebook tag io => Sys2Proof.Machine.execRulebook tag io s
  | .neighbourRadius tag io => Sys2Proof.Machine.execNeighbourRadius tag io s
  | .downsample tag io => Sys2Proof.Machine.execDownsample tag io s
  | .brlTableEnable t => Sys2Proof.Machine.execBrlTableEnable t s
  | .tableZeroingComplete t => Sys2Proof.Machine.execTableZeroingComplete t s
  | .spconv tag io => Sys2Proof.Machine.execSpconv tag io s
  | .gemm tag io => Sys2Proof.Machine.execGemm tag io s
  | .groupedGemm tag io => Sys2Proof.Machine.execGroupedGemm tag io s
  | .elementwise tag io => Sys2Proof.Machine.execElementwise tag io s
  | .norm tag io => Sys2Proof.Machine.execNorm tag io s
  | .poolVoxel tag io => Sys2Proof.Machine.execPoolVoxel tag io s
  | .windowAttn tag io => Sys2Proof.Machine.execWindowAttn tag io s
  | .softmax tag io => Sys2Proof.Machine.execSoftmax tag io s
  | .tileComplete f io => Sys2Proof.Machine.execTileComplete f io s
  | .tableEnable => Sys2Proof.Machine.execTableEnable s
  | .tableLookup tag io => Sys2Proof.Machine.execTableLookup tag io s
  | .tableUpdateStage tag io => Sys2Proof.Machine.execTableUpdateStage tag io s
  | .tableUpdateCommit tag io => Sys2Proof.Machine.execTableUpdateCommit tag io s
  | .tableUpdateAssign tag io => Sys2Proof.Machine.execTableUpdateAssign tag io s
  | .tableSwitch tag io => Sys2Proof.Machine.execTableSwitch tag io s
  | .tableMigrate tag io => Sys2Proof.Machine.execTableMigrate tag io s
  | .hotsetLoad tag io => Sys2Proof.Machine.execHotsetLoad tag io s
  | .prefetch tag io => Sys2Proof.Machine.execPrefetch tag io s
  | .rowReclass tag io => Sys2Proof.Machine.execRowReclass tag io s
  | .route tag io => Sys2Proof.Machine.execRoute tag io s
  | .scatter tag io => Sys2Proof.Machine.execScatter tag io s
  | .combine tag io => Sys2Proof.Machine.execCombine tag io s
  | .expertStats tag io => Sys2Proof.Machine.execExpertStats tag io s
  | .hqPush m q item withPop => Sys2Proof.Machine.execHqPush m q item withPop s
  | .hqPop m q => Sys2Proof.Machine.execHqPop m q s
  | .hqFlush => Sys2Proof.Machine.execHqFlush s
  | .layerEnable => Sys2Proof.Machine.execLayerEnable s
  | .spanLinkTrained p lanes => Sys2Proof.Machine.execSpanLinkTrained p lanes s
  | .spanTrainingTimeout p => Sys2Proof.Machine.execSpanTrainingTimeout p s
  | .spanRetrain p => Sys2Proof.Machine.execSpanRetrain p s
  | .spanRetrainTimeout p => Sys2Proof.Machine.execSpanRetrainTimeout p s
  | .nak p hdr seq => Sys2Proof.Machine.execNak p hdr seq s
  | .helloTransmit => Sys2Proof.Machine.execHelloTransmit s
  | .hello p hdr h => Sys2Proof.Machine.execHello p hdr h s
  | .helloRsp p hdr x => Sys2Proof.Machine.execHelloRsp p hdr x s
  | .joinTransmit => Sys2Proof.Machine.execJoinTransmit s
  | .join p hdr h => Sys2Proof.Machine.execJoin p hdr h s
  | .joinAck p hdr module epoch admitted routes => Sys2Proof.Machine.execJoinAck p hdr module epoch admitted routes s
  | .leave p hdr => Sys2Proof.Machine.execLeave p hdr s
  | .req p hdr work suppressed io => Sys2Proof.Machine.execReq p hdr work suppressed io s
  | .rsp p hdr data poison => Sys2Proof.Machine.execRsp p hdr data poison s
  | .ctrl p hdr work => Sys2Proof.Machine.execCtrl p hdr work s
  | .spanForm => Sys2Proof.Machine.execSpanForm s
  | .spanRemove m => Sys2Proof.Machine.execSpanRemove m s
  | .spanCtrlLeave => Sys2Proof.Machine.execSpanCtrlLeave s
  | .spanDigestWrite val => Sys2Proof.Machine.execSpanDigestWrite val s
  | .spanLeaveReset => Sys2Proof.Machine.execSpanLeaveReset s
  | .headLost => Sys2Proof.Machine.execHeadLost s
  | .holdExpired => Sys2Proof.Machine.execHoldExpired s
  | .memberLost m => Sys2Proof.Machine.execMemberLost m s
  | .remoteTimeout tag m => Sys2Proof.Machine.execRemoteTimeout tag m s
  | .spanSync tag io => Sys2Proof.Machine.execSpanSync tag io s
  | .spanAllreduce tag io => Sys2Proof.Machine.execSpanAllreduce tag io s
  | .ceWriteback c => Sys2Proof.Machine.execCeWriteback c s
  | .scrubBurst c upsets => Sys2Proof.Machine.execScrubBurst c upsets s
  | .scrubBehind c => Sys2Proof.Machine.execScrubBehind c s
  | .directorySearch line => Sys2Proof.Machine.execDirectorySearch line s
  | .dramRetraining c ns ok retryOk => Sys2Proof.Machine.execDramRetraining c ns ok retryOk s
  | .scrubRegion tag io => Sys2Proof.Machine.execScrubRegion tag io s
  | .copy tag io => Sys2Proof.Machine.execCopy tag io s
  | .fill tag io => Sys2Proof.Machine.execFill tag io s
  | .snapshot => Sys2Proof.Machine.execSnapshot s
  | .telemetrySample => Sys2Proof.Machine.execTelemetrySample s
  | .waitMaxClr => Sys2Proof.Machine.execWaitMaxClr s
  | .selftest tag io res => Sys2Proof.Machine.execSelftest tag io res s
  | .calibrate tag io res => Sys2Proof.Machine.execCalibrate tag io res s
  | .autoSelftest facet bank => Sys2Proof.Machine.execAutoSelftest facet bank s
  | .nop tag io => Sys2Proof.Machine.execNop tag io s
  | .fenceSignal tag io => Sys2Proof.Machine.execFenceSignal tag io s
  | .fenceWait tag io => Sys2Proof.Machine.execFenceWait tag io s
  | .domainHint tag io => Sys2Proof.Machine.execDomainHint tag io s
  | .domainHintHoldExpiry n k => Sys2Proof.Machine.execDomainHintHoldExpiry n k s
  | .portLinkDown p => Sys2Proof.Machine.execPortLinkDown p s
  | .pcieLinkUp => Sys2Proof.Machine.execPcieLinkUp s
  | .spanFrameError p => Sys2Proof.Machine.execSpanFrameError p s
  | .spanIdleFrame p hdr => Sys2Proof.Machine.execSpanIdleFrame p hdr s
  | .tapAccess ir data => Sys2Proof.Machine.execTapAccess ir data s
  | .uartRxCommand cmd => Sys2Proof.Machine.execUartRxCommand cmd s
  | .pcieL1Entry sub => Sys2Proof.Machine.execPcieL1Entry sub s

end Sys2Proof.Machine
end

