-- ==== Sys2Proof/Safety.lean ====
section
/-!
DEFINITION. What counts as a safe run: the queue holds only commands that name units of the part, memory is in
its canonical form, and no step stops.
-/
namespace Sys2Proof.Machine

/-- A sparse array is in canonical form: indexes rise strictly, and no listed value is the default. -/
def SMap.wf {α : Type} [DecidableEq α] (d : α) : SMap α → Bool
  | [] => true
  | [(_, v)] => v != d
  | (i, v) :: (j, w) :: m => i < j && v != d && SMap.wf d ((j, w) :: m)

/-- Package memory and the shelves are in canonical form; a byte that nothing has written reads as zero. -/
def Memory.wf (m : SMap Byte) : Bool := SMap.wf 0 m

/-- Every command that waits is well-formed. -/
def State.queueWf (s : State) : Bool := s.pending.all Instr.wf

/-- Of the register fields, only those under the keys `ks` change from `s` to `t`. -/
def RegsBut (ks : List Nat) (s t : State) : Prop := ∀ k, k ∉ ks → SMap.get? t.regs k = SMap.get? s.regs k

/-- From `s` to `t` nothing changes but registers, and of them only the fields under the keys `ks`. -/
def Touches (ks : List Nat) (s t : State) : Prop := t = { s with regs := t.regs } ∧ RegsBut ks s t

/-- The key of a register field that loses events count in. -/
def lostKey (n : Nat) : Nat := INST_EVT_LOST.COUNT.key (winD n)

/-- The domains of PCIe and Peridot, which an event for an event ring wakes (Table 3-4). -/
def ringDomains : List Nat := [228, 229, 234, 235]

/-- A register field that raising an event can change: a count of lost events, or CANCEL of a domain woken for it. -/
def eventKey (k : Nat) : Prop := (∃ n, k = lostKey n) ∨ ∃ n ∈ ringDomains, k = QTZ_DOM.CANCEL.key (domD n)

/-- From `s` to `t` nothing changes but what events that are raised change (the output, free values, the event rings,
MSI-X pending bits, SAT bits, the windows' counts of lost events, the domains of PCIe and Peridot), and the register
fields under the keys `ks`. -/
def Tells (ks : List Nat) (s t : State) : Prop :=
  t = { s with out := t.out, free := t.free, insts := t.insts, msix := t.msix, sats := t.sats, regs := t.regs,
               domains := t.domains } ∧
  (∀ n, n ∉ ringDomains → t.dom n = s.dom n) ∧
  ∀ k, k ∉ ks → ¬ eventKey k → SMap.get? t.regs k = SMap.get? s.regs k

/-- From `s` to `t` the module has started from power-on at the instant S (R106): everything is as `State.reset` has
it but the fuses, the pins' levels, the queue, the outputs, the model's counters and what R125 and R126 have the firmware
report; a thermal trip is recorded. -/
def PoweredOn (s t : State) : Prop :=
  t = { State.reset with
    pending := s.pending, out := s.out ++ [.uartStage 1], ticks := s.ticks, free := s.free, regs := t.regs,
    boot := { State.reset.boot with svn := s.boot.svn }, pcie := { State.reset.pcie with perst := s.pcie.perst },
    node := { State.reset.node with spres := s.node.spres },
    migTold := s.migTold ++ s.migs.map settledEvent } ∧
  ∀ F d, t.reg F d = if s.power.trip = true ∧ F.key d = GBL_THERMAL.TRIPPED.key 0 then 1 else F.rst d

/-- The operation under `tag` has been dispatched to the engine of `opcode`, at the member of its chain that the
entry `e` is; the module runs operators, the entry's MODE_OVR is none that R184 refuses, and no charge of a memory channel
is waited for (R398). -/
def Runs (s : State) (tag opcode : Nat) (o : Op) (e : Sqe) : Prop :=
  s.running = true ∧ s.op? tag = some o ∧ o.sqe? = some e ∧ o.phase = .started ∧ o.stopped = false ∧
  e.opcode = opcode ∧ s.ovrRefused o e = false ∧ (memOpcode opcode && s.memWaits) = false

/-- The operation under `tag` has ended with this outcome, and its completion is due; a RESULT or DETAIL that
no rule states is `none`. -/
def Ended (s : State) (tag status : Nat) (result detail : Option Nat) : Prop :=
  ∃ o, s.op? tag = some o ∧ o.phase = .done status result detail

/-- Memory is sound: no line is poisoned or in error, and no channel is FAILED. -/
def State.sound (s : State) : Prop :=
  s.poison = [] ∧ s.ceLines = [] ∧ s.ueLines = [] ∧ ∀ c < 8, s.channelFailed c = false

/-- The ranges (operator address, length) pass their checks, and all lie in this module. -/
def State.here (s : State) (rs : List (Nat × Nat)) : Prop :=
  s.rangesErr rs = none ∧ ∀ m ∈ modulesAt rs, m = s.self

/-- The item of F n that an operation carries takes its course in hardware mode: it is resolved already, or the
mode in force is hardware and no other value waits. -/
def State.inHw (s : State) (o : Op) (e : Sqe) (n : Nat) : Prop :=
  o.reply = some none ∨
  (o.reply = none ∧ s.modeStaged n = false ∧ s.anyHeld heldMode [n] = false ∧ s.assisted e n = false)

/-- The byte at `a` after runs of bytes have been stored, one after the other. -/
def State.stored (s : State) (l : List (Nat × Bytes)) (a : Nat) : Byte :=
  l.foldl (fun old x => if Sys2Proof.Machine.within a x.1 x.2.length then x.2.getD (a - x.1) 0 else old) (s.byteAt a)

/-- From `s` to `t` the operation under `tag` has ended with this outcome, the runs `l` of bytes have been stored, and
nothing else has changed but what events and counters change (`Tells`), and write-backs that a write makes needless. -/
def Operated (ks : List Nat) (s t : State) (tag status : Nat) (result detail : Option Nat)
    (l : List (Nat × Bytes)) : Prop :=
  Ended t tag status result detail ∧ (∀ x, x ≠ tag → t.op? x = s.op? x) ∧ (∀ a, t.byteAt a = s.stored l a) ∧
  Tells ks s { t with mem := s.mem, ops := s.ops, wbQueue := s.wbQueue }

/-- A table operator may work on its table: the issuer is its OWNER or PF 0, it is enabled, the version named (255: the
active one) is set up, and the table lies on this module alone (on module 0, when its rows are pooled). -/
def State.tableHere (s : State) (o : Op) (e : Sqe) (t : Nat) (version : Option Nat) : Prop :=
  s.tableIssuer o e = true ∧ s.regB TD_CTRL.EN (tdD t) = true ∧ s.tMods t = [s.self] ∧
  (s.tPlace t = 2 → s.self = 0) ∧ ∀ v, version = some v → v = 0xFF ∨ v ∈ s.tVersions t

/-- A step that stops: a fault or a refusal. -/
def Stops (o : Host.Outcome State Fault Refusal) : Prop := ∀ t, o ≠ .next t

end Sys2Proof.Machine
end

