-- ==== Sys2Proof/Certificates/Slice0/Obligations.lean ====
section
/-!
DEFINITION. The statements of this model. Each is a rule of the spec, or a property that rests on several. Most of
them say of a group of commands that `exec` answers a next state, what that state holds, and what it leaves as it
was: `t = { s with … }` names every field of the state that may change, and `RegsBut` the register fields.
-/
section
open Sys2Proof Sys2Proof.Machine
open Host (Outcome)

/-- R37, R36 and R83: a power fail switches both outputs off and leaves nothing on; only an overvoltage opens the
input switch, and only a loss of QCLK sets the hold of 10 ms. R35, R36, R106 and R394: how the module comes back from
no power. -/
def Obligations.PowerSupply : Prop :=
  (∀ (s : State) (c : Instr), s.power.on = true →
   c ∈ [Instr.vinUndervoltage, .vinBelow12v, .drawOver28w, .vinOvervoltage, .qclkLoss] →
   ∃ t, exec c s = .next t ∧ t.reg JDE_STATUS.OUT_A = 0 ∧ t.reg JDE_STATUS.OUT_B = 0 ∧
     t.power = ⟨false, false, false, c != .vinOvervoltage, if c = .qclkLoss then .ms10 else .none, false, false, [0, 0, 0]⟩ ∧
     t = { s with power := t.power, regs := t.regs } ∧
     RegsBut [JDE_STATUS.OUT_A.key 0, JDE_STATUS.OUT_B.key 0] s t) ∧
  (∀ s : State, s.power.on = false →
   (s.power.closed = true → s.power.hold = .none → s.power.charged = false →
     ∃ t, exec .bulkChargeComplete s = .next t ∧ (s.power.qualified = true → PoweredOn s t) ∧
       (s.power.qualified = false → t = { s with power := { s.power with charged := true } })) ∧
   (s.power.closed = true → s.power.hold = .none →
     ∃ t, exec .inputQualified s = .next t ∧ (s.power.charged = true → PoweredOn s t) ∧
       (s.power.charged = false → t = { s with power := { s.power with qualified := true } })) ∧
   (s.power.closed = false → ∃ t, exec .overvoltageRecovery s = .next t ∧
     t = { s with power := { s.power with charged := false, closed := true, qualified := s.power.hold == .none } }) ∧
   (s.power.hold ≠ .none → ∃ t, exec .holdTimeExpiry s = .next t ∧
     t = { s with power := { s.power with hold := .none } }))

/-- R58, R37 and R62: the highest of the four die readings (in 0.1 °C) is shown; from 120 °C on it is a power fail
with a hold of 1 s; a higher step caps FCLK, is recorded, and raises THERMAL_STEP; a step left by its exit condition
is replaced by the highest lower one whose own 10 ms have not passed, without an event. ALERT_N is low while any bit
of GBL_PWR_EVENTS is set. R63, R105 and R40: the supply registers show what was measured; a draw above charged plus 10
% for 10 comparisons in a row raises DRAW_EXCEEDED once; and SMBus serves two of the measurement words, and answers
nothing else. -/
def Obligations.ThermalAndSupply : Prop :=
  (∀ s : State, s.power.on = true →
   (∀ a b c d : Int, s.power.awake = true ∨ 2 ≤ s.reg GBL_BOOT_STATUS.STAGE →
     let m := max (max a b) (max c d)
     (1200 ≤ m → ∃ t, exec (.dieTemperatureSample a b c d) s = .next t ∧
       t.power = ⟨false, false, false, true, .sec1, true, false, [0, 0, 0]⟩ ∧ t.reg JDE_STATUS.OUT_A = 0 ∧ t.reg JDE_STATUS.OUT_B = 0 ∧
       t.reg GBL_THERMAL.DIE_C = unsigned 12 m ∧ t = { s with power := t.power, regs := t.regs } ∧
       RegsBut [GBL_THERMAL.DIE_C.key 0, JDE_STATUS.OUT_A.key 0, JDE_STATUS.OUT_B.key 0] s t) ∧
     (m < 1200 → s.reg GBL_THERMAL.STEP < thermalStep m →
       ∃ u, exec (.dieTemperatureSample a b c d) s =
           .next { (u.pfEvent 0x01E1 (some (thermalStep m))).rebalance with pending := s.pending } ∧
         u.reg GBL_THERMAL.DIE_C = unsigned 12 m ∧ u.reg GBL_THERMAL.STEP = thermalStep m ∧
         u.reg GBL_PWR_EVENTS.THERM = 1 ∧ u.fclkCharged ≤ u.thermalCap ∧
         u = { s with topaz := { s.topaz with raising := u.topaz.raising }, regs := u.regs,
                      power := { s.power with cool := u.power.cool } } ∧
         RegsBut [GBL_THERMAL.DIE_C.key 0, GBL_THERMAL.STEP.key 0, GBL_PWR_EVENTS.THERM.key 0,
           TPZ_STATUS.FCLK_CODE.key 0] s u) ∧
     (m < 1200 → thermalStep m ≤ s.reg GBL_THERMAL.STEP → ∃ t, exec (.dieTemperatureSample a b c d) s = .next t ∧
       t.reg GBL_THERMAL.DIE_C = unsigned 12 m ∧ Touches [GBL_THERMAL.DIE_C.key 0] s { t with power := s.power } ∧
       t.power = { s.power with cool := t.power.cool } ∧
       (∀ k ∈ [1, 2, 3], t.power.cool.getD (k - 1) 0 = 0 ↔ stepThreshold k - 50 < m)) ∧
     (s.power.on = true → (s.alertLow = true ↔ s.reg GBL_PWR_EVENTS.STOP_OC ≠ 0 ∨ s.reg GBL_PWR_EVENTS.STOPVS_LOW ≠ 0 ∨
       s.reg GBL_PWR_EVENTS.THERM ≠ 0 ∨ s.reg GBL_PWR_EVENTS.PODL ≠ 0))) ∧
   (let k := s.reg GBL_THERMAL.STEP
    s.power.on = true → 1 ≤ k → k ≤ 3 → s.power.cool.getD (k - 1) 0 ≠ 0 →
    ∃ u, exec .thermalStepExit s = .next { u.rebalance with pending := s.pending } ∧
      u.reg GBL_THERMAL.STEP < k ∧ (∀ i, u.reg GBL_THERMAL.STEP < i → i < k → s.cooled k i = true) ∧
      (u.reg GBL_THERMAL.STEP ≠ 0 → s.cooled k (u.reg GBL_THERMAL.STEP) = false) ∧
      Touches [GBL_THERMAL.STEP.key 0] s u)) ∧
  (∀ s : State,
   (∀ (v : Int) (dv ma : Nat), s.power.on = true → ∃ t, exec (.supplyMeasurement v dv ma) s = .next t ∧
     t.reg GBL_SUPPLY.VIN_MV = min v.toNat 0xFFFF ∧ t.reg GBL_SUPPLY.STOPVS_DV = min dv 0xFFF ∧
     t.reg GBL_SUPPLY.STOPVS_OK = (if 160 ≤ dv then 1 else 0) ∧ t.reg GBL_INPUT.IIN_MA = min ma 0xFFFF ∧
     t.reg GBL_INPUT.PIN_DW = min (v.toNat * ma / 100000) 0xFFFF ∧
     Touches [GBL_SUPPLY.VIN_MV.key 0, GBL_SUPPLY.STOPVS_DV.key 0, GBL_SUPPLY.STOPVS_OK.key 0,
       GBL_INPUT.IIN_MA.key 0, GBL_INPUT.PIN_DW.key 0] s t) ∧
   (s.power.on = true → ∃ t, exec .drawComparison s = .next t ∧
     let above := s.charged * 1375 < s.reg GBL_INPUT.PIN_DW * 1000
     let n := s.topaz.drawRun + 1
     (¬above → t = { s with topaz := { s.topaz with drawRun := 0, drawTold := false } }) ∧
     (above → n < 10 ∨ s.topaz.drawTold = true → t = { s with topaz := { s.topaz with drawRun := min n 10 } }) ∧
     (above → 10 ≤ n → s.topaz.drawTold = false →
       t = ({ s with topaz := { s.topaz with drawRun := 10, drawTold := true } } : State).pfEvent 0x0207
         (some (s.reg GBL_INPUT.PIN_DW)))) ∧
   (∀ addr cmd, ∃ t, exec (.smbusBlockRead addr cmd) s = .next t ∧ t = { s with out := t.out } ∧
     let served := s.power.on = true ∧ (s.power.awake = true ∨ 2 ≤ s.reg GBL_BOOT_STATUS.STAGE) ∧ addr = 0x4C
     (served → cmd = 0x80 → t.out = s.out ++ [.smbus (leBytes 4 (s.reg GBL_SUPPLY.VIN_MV
       + 2 ^ 16 * s.reg GBL_SUPPLY.STOPVS_DV + 2 ^ 28 * s.reg GBL_SUPPLY.STOPVS_OK))]) ∧
     (served → cmd = 0x84 → t.out = s.out ++ [.smbus (leBytes 4 (s.reg GBL_THERMAL.DIE_C
       + 2 ^ 12 * s.reg GBL_THERMAL.STEP + 2 ^ 14 * s.reg GBL_THERMAL.TRIPPED))]) ∧
     (¬(served ∧ (cmd = 0x80 ∨ cmd = 0x84)) → t.out = s.out ++ [.smbusNoAck])))

/-- R47, R106, R108, R117 and R120: an MRESET_N pulse of 10 µs or more, and GBL_RESET.MODULE with its key, reset the
module. The cause is recorded; package memory and the catalogue stay exactly when stage 0x7 had been completed and
CLEAR_ON_MRESET is 0, and with them commits that have taken effect and migrations (R126, R128); GBL_SUPPLY and DIE_C
stay (R40); the shelf and everything else are as at reset. A pulse below 1 µs does nothing. R118 and R119:
GBL_RESET.WARM with its key, a watchdog that has run out and a fault of a management core begin a warm reset with its
cause, which ends debug levels 1 and 2 and resets the cores' ends of Jasper (R124, R197); the third fault-caused one
within 60 s will end in recovery. The quiesce's end reloads the firmware from stage 0x4, or enters recovery. -/
def Obligations.ModuleResets : Prop :=
  (∀ (s : State) (c : Instr) (cause : Nat), s.power.on = true →
   ((∃ ns, 10000 ≤ ns ∧ c = .mresetNReset ns ∧ cause = 1) ∨
     (∃ v, c = .gblResetModule v ∧ v / 2 ^ 16 % 2 ^ 16 = 0xA5C3 ∧ bit v 1 = true ∧
       (s.starting = false ∨ s.boot.warm = true) ∧ cause = 2)) →
   let keep := s.boot.memInit && !s.regB GBL_RESET_CTRL.CLEAR_ON_MRESET
   ∃ t, exec c s = .next t ∧
     t.boot = { State.reset.boot with svn := s.boot.svn, memInit := keep, skipInit := keep, cause := cause } ∧
     t.out = s.out ++ (if s.reg LPS_STATUS.DBG_LEVEL = 2 then [.uartTrace false] else []) ++ [.uartStage 1] ∧
     t.reg GBL_BOOT_STATUS.MEM_RETAINED = (if keep then 1 else 0) ∧
     (∀ F d, keptReg (F.key d) = false → supplyReg (F.key d) = false →
       F.key d ≠ GBL_BOOT_STATUS.MEM_RETAINED.key 0 → t.reg F d = F.rst d) ∧
     (∀ F d, supplyReg (F.key d) = true → t.reg F d = s.reg F d) ∧
     (keep = true → s.self = 0 → ∀ a, t.byteAt a = if a < shelfBase then s.byteAt a else 0) ∧
     (keep = true → t.migs = s.migs.map cutOff ∧ t.migTold = s.migTold ∧ t.steps = s.steps.filter fun e => e.2.stage == 3) ∧
     (keep = false → t.migs = [] ∧ t.migTold = s.migTold ++ s.migs.map settledEvent ∧ t.steps = []) ∧
     (keep = false → t.mem = [] ∧ ∀ F d, supplyReg (F.key d) = false →
       F.key d ≠ GBL_BOOT_STATUS.MEM_RETAINED.key 0 → t.reg F d = F.rst d) ∧
     t = { State.reset with
       pending := s.pending, out := t.out, ticks := s.ticks, free := s.free, boot := t.boot,
       power := { s.power with awake := s.power.awake || 2 ≤ s.reg GBL_BOOT_STATUS.STAGE },
       pcie := { State.reset.pcie with perst := s.pcie.perst }, node := { State.reset.node with spres := s.node.spres },
       regs := t.regs, mem := t.mem, poison := t.poison, ceLines := t.ceLines, ueLines := t.ueLines,
       lostSlots := t.lostSlots, steps := t.steps, migs := t.migs, migTold := t.migTold } ∧
     ∀ ns, ns < 1000 → exec (.mresetNReset ns) s = .next s) ∧
  (∀ s : State,
   (∀ (c : Instr) (cause : Nat) (fault : Bool), s.ready = true →
     ((∃ v, c = .gblResetWarm v ∧ v / 2 ^ 16 % 2 ^ 16 = 0xA5C3 ∧ bit v 0 = true ∧ bit v 1 = false) ∧
         cause = 3 ∧ fault = false ∨
       c = .watchdogTimeout ∧ s.regB GBL_RESET_CTRL.WDOG_EN = true ∧ cause = 4 ∧ fault = true ∨
       (∃ k, k < 4 ∧ c = .coreFault k) ∧ cause = 5 ∧ fault = true) →
     ∃ t, exec c s = .next t ∧ t.boot.quiesce = true ∧ t.boot.warm = true ∧ t.boot.cause = cause ∧
       (t.boot.recover = true ↔ fault = true ∧ 3 ≤ s.faultRun.length) ∧
       t = { (List.range 4).foldl (fun u k => u.jspReset (0x10 + k)) s.endDebug with
         boot := t.boot, pending := s.pending }) ∧
   (s.power.on = true → s.boot.quiesce = true → ∃ t, exec .warmQuiesceComplete s = .next t ∧
     t.boot.quiesce = false ∧ t.reg LPS_STATUS.SLOT_A_OK = 0 ∧ t.reg LPS_STATUS.SLOT_B_OK = 0 ∧
     (s.boot.recover = false → t.reg GBL_BOOT_STATUS.STAGE = 4 ∧ t.reg GBL_BOOT_STATUS.RECOVERY = 0) ∧
     (s.boot.recover = true → t.reg GBL_BOOT_STATUS.STAGE = 0xF ∧ t.reg GBL_BOOT_STATUS.RECOVERY = 1 ∧
       t.reg GBL_RESET_CAUSE.CAUSE = s.warmClean.boot.cause % 2 ^ GBL_RESET_CAUSE.CAUSE.w)))

/-- R106 to R114, R129: what the end of each stage of a cold start leaves. The image in the slot is accepted, or the
other slot is tried from stage 0x4, or, with both refused, the module enters recovery; a channel that twice failed
training leads to recovery; stage 0x7 leaves the module's package memory zero; stage 0x8 completes commits and
migrations (R126, R128), and shows the cause with Peridot Active (R111) and the Span ports as their cables have them.
R130 and R113: a stage that overruns is recorded, a stage that used an image refuses its slot with check 7, and the
sequence goes on at stage 0x3 with the other slot first; a second overrun leads to recovery. Which slot counts as used
before one is chosen is the model's choice, and a warm reset's stage 0x4 that overruns before any report used one of
the two (log entry 142). -/
def Obligations.StartUp : Prop :=
  (∀ (s : State) (rep : StageReport), s.power.on = true →
   s.boot.quiesce = false → s.boot.warm = false → s.boot.skipInit = false →
   let k := s.reg GBL_BOOT_STATUS.STAGE
   let slot := s.reg GBL_BOOT_STATUS.SLOT
   let i := if slot = 0 then rep.slotA else rep.slotB
   1 ≤ k → k ≤ 8 → slot ≤ 1 → ∃ t, exec (.startupStageComplete rep) s = .next t ∧
   (k = 1 ∨ k = 3 ∨ k = 4 → t.reg GBL_BOOT_STATUS.STAGE = k + 1 ∧ t.out = s.out ++ [.uartStage (k + 1)] ∧
     t = { s with out := t.out, regs := t.regs } ∧
     RegsBut ([GBL_BOOT_STATUS.STAGE.key 0] ++ if k = 3 then [GBL_BOOT_STATUS.SLOT.key 0] else []) s t ∧
     (k = 3 → s.boot.firstSlot = none →
       t.reg GBL_BOOT_STATUS.SLOT = if rep.slotB.gen > rep.slotA.gen then 1 else 0)) ∧
   (k = 2 → s.pcie.perst = false → t.reg GBL_BOOT_STATUS.STAGE = 3 ∧ t.out = s.out ++ [.uartStage 3] ∧
     t = { s with out := t.out, regs := t.regs } ∧ RegsBut [GBL_BOOT_STATUS.STAGE.key 0] s t) ∧
   (k = 2 → s.pcie.perst = true → ∃ u : State, t = { (u.meetFloor 228).meetFloor 229 with pending := s.pending } ∧
     u.reg GBL_BOOT_STATUS.STAGE = 3 ∧ u = { s with out := s.out ++ [.uartStage 3], regs := u.regs } ∧
     RegsBut [GBL_BOOT_STATUS.STAGE.key 0] s u) ∧
   (k = 5 → imageFault i s.minSvn = none → t.reg GBL_BOOT_STATUS.STAGE = 6 ∧ t.reg GBL_FW_VERSION.SVN = i.svn % 2 ^ GBL_FW_VERSION.SVN.w ∧
     t.reg (if slot = 0 then LPS_STATUS.SLOT_A_OK else LPS_STATUS.SLOT_B_OK) = 1 ∧
     t = { s with out := t.out, regs := t.regs }) ∧
   (k = 5 → ∀ c, imageFault i s.minSvn = some c → (∀ r ∈ s.boot.rejected, r.1 ≠ 1 - slot) →
     t.reg GBL_BOOT_STATUS.STAGE = 4 ∧ t.reg GBL_BOOT_STATUS.SLOT = 1 - slot ∧
     t.boot.rejected = s.boot.rejected ++ [(slot, c)]) ∧
   (k = 5 → ∀ c, imageFault i s.minSvn = some c → (∃ r ∈ s.boot.rejected, r.1 = 1 - slot) →
     t.reg GBL_BOOT_STATUS.STAGE = 0xF ∧ t.reg GBL_BOOT_STATUS.RECOVERY = 1) ∧
   (k = 6 → ∀ c cs, rep.trainFail = c :: cs → c < 8 → t.reg GBL_BOOT_STATUS.FAIL_CODE = 0x60 + c ∧
     t.reg GBL_BOOT_STATUS.RECOVERY = 1) ∧
   (k = 6 → rep.trainFail = [] → t.reg GBL_BOOT_STATUS.STAGE = 7) ∧
   (k = 7 → t.reg GBL_BOOT_STATUS.STAGE = 8 ∧ t.boot = { s.boot with memInit := true } ∧
     ∀ a, t.byteAt a = if s.self * moduleSpan ≤ a ∧ a < s.self * moduleSpan + moduleSpan then 0 else s.byteAt a) ∧
   (k = 8 → let v := s.settleTables
     (s.steps = [] → s.migs = [] → v = s) ∧
     (v.boot.warm = false → ∃ u : State, t = { (u.depthDomains 0).settlePorts with pending := s.pending } ∧
       u.reg GBL_BOOT_STATUS.STAGE = 0xF ∧ u.reg GBL_RESET_CAUSE.CAUSE = v.boot.cause % 2 ^ GBL_RESET_CAUSE.CAUSE.w ∧
       u.reg QTZ_STATUS.DEPTH = 0 ∧
       u = { v with out := v.out ++ [.uartStage 0xF], regs := u.regs, pcie := { v.pcie with setup := false },
                    boot := { v.boot with warm := false, skipInit := false, overrun := false, firstSlot := none } } ∧
       RegsBut [GBL_BOOT_STATUS.STAGE.key 0, GBL_RESET_CAUSE.CAUSE.key 0, QTZ_STATUS.DEPTH.key 0] v u))) ∧
  (∀ s : State, s.power.on = true → s.boot.quiesce = false →
   let k := s.reg GBL_BOOT_STATUS.STAGE
   k ≠ 0xF → ∃ (slot : Nat) (t : State), exec .stageOverrun s = .next t ∧ t.reg GBL_BOOT_STATUS.FAIL_CODE = k ∧
     (s.boot.warm = false ∨ k ≠ 4 → slot = s.reg GBL_BOOT_STATUS.SLOT) ∧
     (s.boot.warm = true → k = 4 → (∀ f, s.boot.firstSlot = some f → slot = f) ∧ (s.boot.firstSlot = none → slot < 2)) ∧
     t.boot.rejected = s.boot.rejected ++ (if 4 ≤ k then [(slot, 7)] else []) ∧
     (s.boot.overrun = false → t.reg GBL_BOOT_STATUS.STAGE = 3 ∧
       t.boot.firstSlot = some (1 - slot) ∧ t.boot.overrun = true ∧
       t = { s with out := t.out, boot := t.boot, regs := t.regs, free := t.free } ∧
       RegsBut [GBL_BOOT_STATUS.FAIL_CODE.key 0, GBL_BOOT_STATUS.STAGE.key 0] s t) ∧
     (s.boot.overrun = true → t.reg GBL_BOOT_STATUS.STAGE = 0xF ∧ t.reg GBL_BOOT_STATUS.RECOVERY = 1))

/-- R73, R109, R122, R131, R144 and R158: the PCIe link. A configuration request wakes the PCIe domains; before stage
0xF of a cold start it is answered with Retry Status; afterwards it is completed with what R131 has the function's
configuration space hold, and PF 0's may set or clear VF Enable. -/
def Obligations.HostLink : Prop := ∀ s : State,
  (s.power.on = false →
    (∃ t, exec .perstNFall s = .next t ∧ t = { s with pcie := { s.pcie with perst := false, up := false } }) ∧
    ∃ t, exec .perstNRise s = .next t ∧ t = { s with pcie := { s.pcie with perst := true } }) ∧
  (s.power.on = true →
  (∀ fn req, fn < 16 → s.pcie.up = true → s.pcie.perst = true → fn = 0 ∨ s.pcie.vfEnable = true →
    (∃ t, exec (.configRequest fn req) s = .next t) ∧
    (s.pcie.setup = false → let v := (s.rouse 228).rouse 229
    let done (on : Bool) (x : Nat) : State :=
      { v with out := s.out ++ [.cfg fn false x], pcie := { s.pcie with setup := false, vfEnable := on }, pending := s.pending }
    (s.reg GBL_BOOT_STATUS.STAGE ≠ 0xF → s.boot.warm = false → exec (.configRequest fn req) s =
      .next { v with out := s.out ++ [.cfg fn true 0], pending := s.pending }) ∧
    ((s.reg GBL_BOOT_STATUS.STAGE = 0xF ∨ s.boot.warm = true) →
      ((∀ on, req ≠ .vfEnable on) → exec (.configRequest fn req) s = .next (done s.pcie.vfEnable (s.configValue fn req))) ∧
      (fn = 0 → req = .vfEnable true → s.regB GBL_BOOT_STATUS.RECOVERY = false →
        exec (.configRequest fn req) s = .next (done true 1)) ∧
      (fn = 0 → req = .vfEnable false → s.pcie.vfEnable = true → exec (.configRequest fn req) s =
        .next { ({ v with pcie := { s.pcie with setup := false } } : State).vfOff.emit (.cfg 0 false
          (b2n ({ v with pcie := { s.pcie with setup := false } } : State).vfOff.pcie.vfEnable)) with
          pending := s.pending })))) ∧
  (s.pcie.perst = false → s.reg GBL_BOOT_STATUS.STAGE < 3 → s.boot.warm = false →
    ∃ t, exec .perstNRise s = .next t ∧
      t = { s with msix := [], pcie := { s.pcie with perst := true, vfEnable := false, setup := false } }) ∧
  (s.pcie.perst = false → 3 ≤ s.reg GBL_BOOT_STATUS.STAGE → ∃ u : State, exec .perstNRise s =
      .next { (u.wakeOn 228 7).wakeOn 229 7 with pending := s.pending } ∧
    u = { s with msix := [], pcie := { s.pcie with
      perst := true, vfEnable := false, setup := s.reg GBL_BOOT_STATUS.STAGE == 0xF || s.boot.warm } }) ∧
  (s.pcie.perst = true → 3 ≤ s.reg GBL_BOOT_STATUS.STAGE → ∃ t, exec .pcieLinkUp s = .next t ∧
    t = { s with pcie := { s.pcie with up := true, aspm := 0 } }) ∧
  (s.pcie.up = true → ∃ t, exec .hostLinkDown s = .next t ∧
    t = { s with pcie := { s.pcie with up := false, aspm := 0 } }) ∧
  (∀ sub, s.pcie.up = true → s.mayEnter sub = true → ∃ t, exec (.pcieL1Entry sub) s = .next t ∧
    t = { s with pcie := { s.pcie with aspm := sub } }) ∧
  (s.pcie.up = true → s.pcie.aspm ≠ 0 → ∃ u : State, exec .pcieL1Exit s =
      .next { (u.wakeOn 228 7).wakeOn 229 7 with pending := s.pending } ∧
    u = { s with pcie := { s.pcie with aspm := 0 } }))

/-- R121, R157, R165, R197 and R201: what begins the reset of an instance. Its RESET_BUSY reads 1, an operation of it
that waits is gone, another stops where it is and its chain goes no further, and every other instance's operation is
as it was, unless a commit, migration or switch of it must first run to its end (`letGo`); then its fences are marked,
and its steps, queues, handoffs, channels and telemetry follow. An FLR of PF 0, the clearing of VF Enable and the fall
of PERST_N reset the instances that they cover. R157 and R145: at the end of an instance's reset its operations are
gone and their tags free, its MSI-X entries, ring positions and latched words are as at reset, and no register of its
window but counters is listed. -/
def Obligations.InstanceResets : Prop :=
  (∀ s : State,
   (∀ n c, n < 16 → s.regB INST_STATUS.RESET_BUSY (winD n) = false →
     c = .functionLevelReset n ∧ n ≠ 0 ∧ s.ready = true ∧ s.linked n = true ∨
       c = .instanceResetWrite n n ∧ s.running = true ∧ s.linked n = true →
     let u : State := (s.ops.map (·.1)).foldl (State.resetOp · n) (s.setReg INST_STATUS.RESET_BUSY (winD n) 1)
     ((∀ tag o, s.op? tag = some o → o.inst = n → ∀ v : State, v.letGo o = v) →
       u.reg INST_STATUS.RESET_BUSY (winD n) = 1 ∧
       ∀ tag o, s.op? tag = some o →
         (o.inst ≠ n → u.op? tag = some o) ∧ (o.inst = n → o.phase = .waiting → u.op? tag = none) ∧
         (o.inst = n → o.phase ≠ .waiting →
           u.op? tag = some { o with stopped := true, members := o.members.take (o.idx + 1) })) ∧
       exec c s = .next {
         (let v : State := (u.resetFences n).foldl State.fenceErr u
          let v : State := (v.stepsOf n).foldl (fun t k => t.discardStep k ABORT_RESET) v
          let v : State := (((v.layersOf n).foldl State.flushLayer v).hoDisable n).jspReset n
          if v.reg AMB_TEL_CTRL.INST = n then v.setReg AMB_TEL_CTRL.EN 0 0 else v : State) with
         pending := s.pending }) ∧
   (∀ w n, n < 16 → w < 16 → n ≠ w → s.running = true → s.linked n = true → ∃ t, exec (.instanceResetWrite n w) s = .next t ∧
     t.reg PDT_STATUS.CFG_ERR = 1 ∧ bit (t.reg GBL_ERR_SUMMARY.CFG_ERR) 4 = true ∧
     Touches [PDT_STATUS.CFG_ERR.key 0, GBL_ERR_SUMMARY.CFG_ERR.key 0] s t) ∧
   (s.power.on = true → s.linked 0 = true → s.pcie.vfEnable = true → exec .vfDisable s = .next {
     ((allInsts.filter fun n => 1 ≤ n).foldl State.instReset
       ({ s with pcie := { s.pcie with vfEnable := false } } : State)) with pending := s.pending }) ∧
   (s.power.on = true → s.pcie.perst = true →
     let v : State := (allInsts.filter fun n => 0 ≤ n).foldl State.instReset s
     exec .perstNFall s = .next
       { v with pcie := { v.pcie with perst := false, up := false, aspm := 0 }, pending := s.pending })) ∧
  (∀ (s : State) (n : Nat), n < 16 → s.power.on = true →
   s.regB INST_STATUS.RESET_BUSY (winD n) = true → s.remoteLeft n = false →
   ∃ u : State, exec (.instanceResetComplete n) s = .next { u.settleSwitches.feed with pending := s.pending } ∧
     u.inst n = instReset ∧ (∀ v, v < 128 → u.msixEntry n v = msixReset) ∧ SMap.get? u.hiHold n = none ∧
     u.reg INST_STATUS.RESET_BUSY (winD n) = INST_STATUS.RESET_BUSY.rst (winD n) ∧
     ((∀ tag o, s.op? tag = some o → o.inst = n → ∀ v : State, v.letGo o = v) →
     (∀ tag o, s.op? tag = some o → o.inst = n → u.op? tag = none) ∧
     ∀ m, m ≠ n → u.inst m = s.inst m))

/-- R115, R123, R124 and R54: the SVN only rises; a nonce request shows the nonce and is remembered with its time; a
request with GO is accepted or refused by R123's conditions, the third refusal locks; and what the TAP and the
console answer at each level. -/
def Obligations.Debug : Prop := ∀ s : State,
  (s.ready = true → ∃ t, exec .svnCommit s = .next t ∧
    t = { s with boot := { s.boot with svn := max s.boot.svn (s.reg GBL_FW_VERSION.SVN) } }) ∧
  (∀ level nonce, s.ready = true → level < 4 → ∃ t, exec (.debugNonce level nonce) s = .next t ∧
    t.reg LPS_DBG_REQ.LEVEL = level ∧ t.reg LPS_DBG_STATE.STATE = 1 ∧ t.dbg = ⟨some s.ticks⟩ ∧
    (∀ i < 8, t.reg LPS_DBG_NONCE.NONCE (4 * i) = fieldLE nonce (4 * i) 4 % 2 ^ 32) ∧
    t = { s with dbg := t.dbg, regs := t.regs }) ∧
  (∀ level, s.ready = true → level < 4 → ∃ u : State, u.dbg = ⟨none⟩ ∧
    (∀ i < 24, u.reg LPS_DBG_SIG.SIG (4 * i) = 0) ∧ u = { s with dbg := u.dbg, regs := u.regs } ∧
    let v := s.setReg LPS_DBG_REQ.LEVEL 0 level
    (v.debugOk level = true → exec (.debugGo level) s = .next { u.debugOpen level with pending := s.pending }) ∧
    (v.debugOk level = false → exec (.debugGo level) s = .next { u.debugRefuse with pending := s.pending })) ∧
  (s.ready = true → s.reg LPS_STATUS.DBG_LEVEL = 0 ∨ s.reg LPS_STATUS.DBG_LEVEL = 3 →
    ∃ t, exec .debugEnd s = .next t ∧ t.dbg = ⟨none⟩ ∧ t.reg LPS_DBG_STATE.STATE = 0 ∧
      t = { s with dbg := t.dbg, regs := t.regs } ∧ RegsBut [LPS_DBG_STATE.STATE.key 0] s t) ∧
  (s.ready = true → s.reg LPS_STATUS.DBG_LEVEL = 1 ∨ s.reg LPS_STATUS.DBG_LEVEL = 2 →
    ∃ u : State, exec .debugEnd s =
        .next { (u.jspReset 0x30).setReg LPS_STATUS.DBG_LEVEL 0 0 with pending := s.pending } ∧ u.dbg = ⟨none⟩ ∧
      u.reg LPS_DBG_STATE.STATE = 0 ∧ u = { s with dbg := u.dbg, out := u.out, regs := u.regs } ∧
      u.out = s.out ++ (if s.reg LPS_STATUS.DBG_LEVEL = 2 then [.uartTrace false] else []) ∧
      RegsBut [LPS_DBG_STATE.STATE.key 0] s u) ∧
  (∀ ir data, s.power.on = true → ∃ t, exec (.tapAccess ir data) s = .next t ∧
    t = { s with out := t.out, free := t.free } ∧
    let open_ := (ir = 2 ∨ ir = 3) ∧ s.reg LPS_STATUS.DBG_LEVEL = 3 ∨ ir = 4 ∧ s.reg LPS_STATUS.DBG_LEVEL = 2
    (ir = 1 → t.out = s.out ++ [.tap 1 (leBytes data.length (Config.idcode.toNat + 2 ^ 32 * leNat data))]) ∧
    (ir ≠ 1 → ¬open_ → t.out = s.out ++ [.tap 0 (leBytes data.length (2 * leNat data))]) ∧
    (open_ → ∃ bs, bs.length = data.length ∧ t.out = s.out ++ [.tap ir bs])) ∧
  (∀ cmd, s.power.on = true →
    (s.reg LPS_STATUS.DBG_LEVEL = 1 ∨ s.reg LPS_STATUS.DBG_LEVEL = 2 → ∃ t, exec (.uartRxCommand cmd) s = .next t ∧
      t = { s with out := s.out ++ [.uartStatus (s.reg LPS_STATUS.DBG_LEVEL) cmd] }) ∧
    (s.reg LPS_STATUS.DBG_LEVEL = 0 ∨ s.reg LPS_STATUS.DBG_LEVEL = 3 → exec (.uartRxCommand cmd) s = .next s))

/-- R65, R66 and R48: at a tick DTIME advances by 250 ns corrected by the rate, to the last 10⁻⁹ ns; then a pending
step is applied, SYNC_OUT is given where a second has passed, and the timed reports follow. A DTIME step is added to
the one that is pending. -/
def Obligations.Time : Prop := ∀ s : State,
  (s.power.on = true → ∃ t, exec .qclkTick s = .next t) ∧
  (s.power.on = true → ∃ u : State, u.ticks = s.ticks + 1 ∧
    10 ^ 9 * u.quartz.dtime + u.quartz.frac = 10 ^ 9 * s.quartz.dtime + s.quartz.frac + s.tickAdvance ∧
    u.quartz.frac < 10 ^ 9 ∧ u = { s with ticks := u.ticks, quartz := u.quartz } ∧
    u.quartz = { s.quartz with dtime := u.quartz.dtime, sub := 0, frac := u.quartz.frac } ∧
    (s.quartz.stepPend = 0 → exec .qclkTick s = .next
      (let v := if u.quartz.dtime / second > s.quartz.dtime / second then u.syncOut else u
       { ((v.ports.map (·.1)).foldl State.reportLost v).flushAllSb with pending := s.pending })) ∧
    (s.quartz.stepPend ≠ 0 → exec .qclkTick s = .next
      (let w := u.applyStep
       let v := if u.quartz.dtime / second > s.quartz.dtime / second ∨
           s.quartz.stepPend > 0 ∧ w.quartz.dtime / second > u.quartz.dtime / second then w.syncOut else w
       { ((v.ports.map (·.1)).foldl State.reportLost v).flushAllSb with pending := s.pending }))) ∧
  (∀ hi, s.running = true → ∃ t, exec (.dtimeStep hi) s = .next t ∧ t = { s with quartz := { s.quartz with
    stepPend := s.quartz.stepPend + signed 64 (s.reg QTZ_DTIME_STEP_LO.STEP + 2 ^ 32 * (hi % 2 ^ 32)) } })

/-- R67, R68, R76, R81, R86, R90, R94 and R144: how a domain goes down. A floor, a tile that it computes, a hold, a parked
packet or Peridot's depth keeps it up; a wake asked for meanwhile follows. -/
def Obligations.DomainGoesDown : Prop := ∀ (s : State) (n : Nat), n < 244 → s.power.on = true →
  let d := s.dom n
  (d.st = .on → d.phase = .none → (s.effFloor n).code < 3 → s.computes n = false → s.peridotMay n 1 = true →
    (s.charged ≤ s.budget → ∃ t, exec (.domainIdle n) s = .next t ∧ t = s.setDom n { d with st := .idle }) ∧
    (s.budget < s.charged → exec (.domainIdle n) s =
      .next { (s.setDom n { d with st := .idle }).forceDown n with pending := s.pending })) ∧
  (d.st = .idle → d.phase = .none → d.parked = [] → (s.effFloor n).code < 2 → d.holdoff ≤ s.ticks →
    s.heldFacet n = false → s.peridotMay n 2 = true → ∃ t, exec (.powerDownStart n) s = .next t ∧ t = s.setDom n (t.dom n) ∧
      (t.dom n) = { d with phase := .drain, fromRetain := false, target := (t.dom n).target } ∧
      (t.dom n).target = if s.effFloor n = .off ∧ s.reg QTZ_DOM.RETAIN_HOLD (domD n) = 0 then .off else .retain) ∧
  (d.st = .retain → d.phase = .none → s.effFloor n = .off → d.retainHold ≠ 0xFF →
    d.parked = [] → d.wakePend = false → d.holdoff ≤ s.ticks →
    ∃ t, exec (.retainHoldExpiry n) s = .next t ∧
      t = s.setDom n { d with phase := .drain, target := .off, fromRetain := true }) ∧
  (d.phase = .drain → ∃ t, exec (.drainComplete n) s = .next t ∧ t = s.setDom n { d with phase := .rails }) ∧
  (d.phase = .drain → ∃ t, exec (.drainTimeout n) s = .next t ∧
    t = (s.setDom n { d with phase := .none, fromRetain := false, holdoff := s.ticks + 4000,
                             st := if d.fromRetain then .retain else .on }).pfEvent 0x0102 (some n)) ∧
  (d.phase = .rails → ∃ u : State,
    u.dom n = { d with st := d.target, phase := .none, fromRetain := false,
                       retainHold := s.reg QTZ_DOM.RETAIN_HOLD (domD n) } ∧
    (d.target = .retain → u = s.setDom n (u.dom n)) ∧ (d.target = .off → u = (s.setDom n (u.dom n)).lostAtOff n) ∧
    (d.target = .retain ∨ d.target = .off → d.wakePend = false →
      exec (.powerDownComplete n) s = .next { u.releaseDomain n with pending := s.pending }) ∧
    (d.target = .retain ∨ d.target = .off → d.wakePend = true → exec (.powerDownComplete n) s =
      .next { (u.releaseDomain n).beginWake n d.wakePrio d.wakeTo with pending := s.pending }))

/-- R71, R73 to R79, R84, R144 and R395: what brings a domain up. A packet for a domain that runs is delivered; one
for a domain that is down is parked in its segment's four slots, or held at its sender, and wakes the domain; one
whose segment is down waits at its sender and wakes the segment (R78). R71, R73 to R76, R78, R82, R191, R387 and R395:
how a wake ends. It delivers every parked packet in order, passes on those that waited at their senders for a segment,
and releases what waited; a wake to RETAIN delivers nothing, and the wake to ON asked for meanwhile follows it; a
first failure power-cycles the domain; a second marks it FAILED. -/
def Obligations.Wakes : Prop :=
  (∀ (s : State) (n : Nat), n < 244 →
   let d := s.dom n
   (∀ src, s.power.on = true → s.wakeAllowed n src = true → src ≠ .floor → d.failed = false → d.phase = .none →
     (n < 40 ∨ 103 < n) →
     (d.st = .idle → ∃ t, exec (.wake n src) s = .next t ∧ t = s.setDom n { d with st := .on }) ∧
     (d.st = .off ∨ d.st = .retain → itemOf n = none → d.attempt = 0 → d.grantWait = false →
       ∃ t, exec (.wake n src) s = .next t ∧
         t.dom n = { d with wakePend := true, wakeTo := .on, lift := false, wakePrio := 7, attempt := 1 } ∧
         t = { s with domains := t.domains } ∧ ∀ m, m ≠ n → t.dom m = s.dom m) ∧
     (d.st = .off ∨ d.st = .retain → d.attempt = 0 → d.grantWait = false →
       exec (.wake n src) s = .next { s.beginWake n 7 .on with pending := s.pending })) ∧
   (∀ v, v < 4 → s.running = true → ∃ u : State,
     exec (.floorWrite n v) s = .next { u.meetFloor n with pending := s.pending } ∧
     u.reg QTZ_DOM.FLOOR (domD n) = v ∧ Touches [QTZ_DOM.FLOOR.key (domD n)] s u) ∧
   (∀ seg p, 204 ≤ seg → seg ≤ 219 → s.power.on = true → d.failed = false →
     let g := s.dom seg
     let v := s.setDom seg { g with st := .on }
     let x := v.dom n
     (g.failed = false → g.phase = .none → g.up = true →
       (x.st = .on ∨ x.st = .idle → x.phase = .none → ∃ t, exec (.packetArrival n seg p) s = .next t ∧
         t = { v.setDom n { x with st := .on } with out := s.out ++ [.delivered n [p]] }) ∧
       (x.st = .off ∨ x.st = .retain → x.phase = .none → x.parked = [] → ∃ u : State,
         exec (.packetArrival n seg p) s = .next { u.wakeOn n (u.pktPrio p) with pending := s.pending } ∧
         (x.stalled = [] → u = v.setDom n { x with parked := [⟨seg, p⟩] }))) ∧
     (g.failed = false → g.phase = .none → g.up = false → exec (.packetArrival n seg p) s = .next
       { (s.setDom seg { g with atSender := g.atSender ++ [(n, p)] }).wakeOn seg (s.pktPrio p) with
         pending := s.pending })) ∧
   (∀ p, p < 10 → s.running = true → s.regB GNT_P_CTRL.CABLE_DETECT (portD p) = true → exec (.linkEnergyDetect p) s =
     .next { (s.wakeOn (4 + p) 7).wakeOn (14 + p) 7 with pending := s.pending }) ∧
   (s.running = true → s.reg QTZ_STATUS.DEPTH = 2 → exec .deepSleepPoll s = .next
     { ((((s.wakeOn 228 7).wakeOn 229 7).wakeOn 234 7).wakeOn 235 7).pollAll with pending := s.pending })) ∧
  (∀ (s : State) (n : Nat), n < 244 → s.power.on = true →
   let d := s.dom n
   (d.attempt = 1 ∨ d.attempt = 2 → d.wakeTo ≠ .retain → n < 40 ∨ 103 < n ∨ (s.dom (n + 64)).up = true →
     let v := s.setDom n { d with
       st := d.wakeTo, attempt := 0, wakePend := false, lift := false, wakePrio := 7, holds := d.holds ++ d.holdsNext,
       holdsNext := [], retainHold := s.reg QTZ_DOM.RETAIN_HOLD (domD n) }
     let u := ((v.selfRefreshExit n).deliver n).passOn n
     exec (.wakeComplete n) s = .next { u.domainReached n with pending := s.pending } ∧
     (n < 188 ∨ 195 < n → d.atSender = [] →
       u.dom n = { v.dom n with parked := [], stalled := [] } ∧
       u.out = s.out ++ (if d.parked = [] ∧ d.stalled = [] then []
         else [.delivered n ((d.parked ++ d.stalled).map (·.pkt))]) ∧
       u = { s with domains := u.domains, out := u.out } ∧ ∀ m, m ≠ n → u.dom m = s.dom m)) ∧
   (d.attempt = 1 ∨ d.attempt = 2 → d.wakeTo = .retain →
     let v := s.setDom n { d with st := .retain, attempt := 0, wakePend := false, lift := false, wakePrio := 7,
                                  retainHold := s.reg QTZ_DOM.RETAIN_HOLD (domD n) }
     (d.lift = false ∧ d.parked = [] ∧ d.atSender = [] → exec (.wakeComplete n) s = .next v) ∧
     (d.lift = true ∨ d.parked ≠ [] ∨ d.atSender ≠ [] →
       exec (.wakeComplete n) s = .next { v.wakeOn n d.wakePrio with pending := s.pending })) ∧
   (d.attempt = 1 → neverOff n = true → ∃ t, exec (.wakeTimeout n) s = .next t ∧
     t = s.setDom n { d with attempt := 3, st := .retain }) ∧
   (d.attempt = 1 → neverOff n = false → exec (.wakeTimeout n) s =
     .next { (s.setDom n { d with attempt := 3, st := .off }).lostAtOff n with pending := s.pending }) ∧
   (d.attempt = 2 → ∃ u : State,
     u = s.setDom n
       { d with failed := true, attempt := 0, wakePend := false, lift := false, holdsNext := [], parked := [],
                stalled := [], atSender := [] } ∧
     exec (.wakeTimeout n) s = .next
       (let v := ((u.pfEvent 0x0103).releaseDomain n).bindFailed n
        let v := if 40 ≤ n && n ≤ 167 then v.returnTile ((n - 40) % 64)
          else v.abortPackets ((d.parked ++ d.stalled).map (·.pkt) ++ d.atSender.map (·.2))
        { (v.domainReached n).coresLost with pending := s.pending })) ∧
   (d.attempt = 3 → ∃ t, exec (.powerCycleComplete n) s = .next t ∧ t = s.setDom n { d with attempt := 2 }) ∧
   (∀ k, k < d.holds.length → ∃ t, exec (.domainHintHoldExpiry n k) s = .next t ∧
     t = s.setDom n { d with holds := d.holds.eraseIdx k }))

/-- R92, R102, R103 and R104: how a period of the BUDGET input acts, before the evaluation that follows each one. A
lower value is taken at once, a higher one after RISE_PERIODS periods that all carry more, as their smallest; three
invalid periods in a row are a loss of signal. R90, R91, R96, R102, R398 and R399: the other events of the budget. -/
def Obligations.BudgetInput : Prop :=
  (∀ (s : State) (period high : Nat), s.power.on = true → high ≤ period →
   ∃ u : State, exec (.budgetRisingEdge period high) s = .next { u.evaluate with pending := s.pending } ∧
   (periodValid period high = true →
     let c := dutyBudget (high * 1000 / period)
     u.reg TPZ_DUTY.DUTY = high * 1000 / period ∧ u.reg TPZ_DUTY.PERIOD = min (period / 100) 0xFFFF ∧ u.topaz.badRun = 0 ∧
     (s.regB TPZ_STATUS.LOS = false → c < s.reg TPZ_STATUS.SIGNALLED →
       u.reg TPZ_STATUS.SIGNALLED = c ∧ u.topaz.rise = []) ∧
     (s.regB TPZ_STATUS.LOS = false → s.reg TPZ_STATUS.SIGNALLED < c →
       (s.topaz.rise.length + 1 < s.risePeriods →
         u.reg TPZ_STATUS.SIGNALLED = s.reg TPZ_STATUS.SIGNALLED ∧ u.topaz.rise = s.topaz.rise ++ [c]) ∧
       (s.risePeriods ≤ s.topaz.rise.length + 1 →
         u.reg TPZ_STATUS.SIGNALLED = leastOf (s.topaz.rise ++ [c]) ∧ u.topaz.rise = [])) ∧
     (s.regB TPZ_STATUS.LOS = true → s.topaz.recover.length + 1 < s.risePeriods →
       u.reg TPZ_STATUS.LOS = s.reg TPZ_STATUS.LOS ∧ u.topaz.recover = s.topaz.recover ++ [c]) ∧
     (s.regB TPZ_STATUS.LOS = true → s.risePeriods ≤ s.topaz.recover.length + 1 →
       u.reg TPZ_STATUS.LOS = 0 ∧ u.reg TPZ_STATUS.SIGNALLED = leastOf (s.topaz.recover ++ [c])) ∧
     Tells [TPZ_DUTY.DUTY.key 0, TPZ_DUTY.PERIOD.key 0, TPZ_STATUS.SIGNALLED.key 0, TPZ_STATUS.LOS.key 0] s
       { u with topaz := s.topaz }) ∧
   (periodValid period high = false → s.regB TPZ_STATUS.LOS = true ∨ s.topaz.badRun + 1 < 3 →
     u.topaz = { s.topaz with rise := [], recover := [], badRun := s.topaz.badRun + 1 } ∧
     Tells [TPZ_INVALID_CNT.COUNT.key 0] s { u with topaz := s.topaz }) ∧
   (periodValid period high = false → s.regB TPZ_STATUS.LOS = false → 3 ≤ s.topaz.badRun + 1 →
     ∃ v : State, v.reg TPZ_STATUS.LOS = 1 ∧ v.topaz = { s.topaz with rise := [], recover := [], badRun := 0 } ∧
       Tells [TPZ_INVALID_CNT.COUNT.key 0, TPZ_STATUS.LOS.key 0] s { v with topaz := s.topaz } ∧
       u = (v.pfEvent 0x0202 (some v.fallback)).rebalance)) ∧
  (∀ s : State, s.power.on = true →
   (exec .budgetEvaluation s =
     .next { ((s.applyStaged TPZ_CTRL.SRC).rebalance).applyReply with pending := s.pending }) ∧
   (s.regB TPZ_STATUS.LOS = false → ∃ u : State,
     exec .budgetLos s = .next { (u.pfEvent 0x0202 (some u.fallback)).rebalance with pending := s.pending } ∧
     u.reg TPZ_STATUS.LOS = 1 ∧ u.topaz = { s.topaz with rise := [], recover := [], badRun := 0 } ∧
     u = { s with topaz := u.topaz, regs := u.regs } ∧ RegsBut [TPZ_STATUS.LOS.key 0] s u) ∧
   (∀ c, s.topaz.raising = some c → c ≤ 10 → ∃ t, exec .fclkRaiseComplete s = .next t ∧
     t.reg TPZ_STATUS.FCLK_CODE = c ∧ t = { s with topaz := { s.topaz with raising := none }, regs := t.regs } ∧
     RegsBut [TPZ_STATUS.FCLK_CODE.key 0] s t) ∧
   (∀ c, c < 8 → s.topaz.items.contains (.zirconExtra c) = true → ∃ u : State,
     exec (.zirconChargeRelease c) s = .next { u.rebalance with pending := s.pending } ∧
     u = { s with topaz := { s.topaz with items := s.topaz.items.filter (· != .zirconExtra c) } }))

/-- R79, R89, R97, R104, R386 and R399: requests and limits. For domains that are down Quartz begins the wake. A floor
item is granted at once; another when nothing waits and it fits; otherwise it waits, and the deferral is counted.
TPZ_CAP and TPZ_LIMITS act when written, and SET_BUDGET writes both and ends with the budget in force. R94 and R95:
step 1 of the throttling order picks the highest FCLK code, from FCLK_MIN up and no higher than the one in force, at
which all active facets fit the budget. -/
def Obligations.BudgetGrants : Prop :=
  (∀ s : State,
   (∀ i prio, i.real = true → prio < 8 → s.power.on = true →
     s.topaz.queue.any (·.item == i) = false →
     let down := (domainsOf i).filter fun n =>
       !(s.dom n).up && (s.dom n).phase == .none && !(s.dom n).wakePend && !(s.dom n).failed
     (down ≠ [] → exec (.grantRequest i prio) s =
       .next { (down.foldl (fun t n => t.wakeOn n prio) s).rebalance with pending := s.pending }) ∧
     (down = [] → ∃ u : State,
     exec (.grantRequest i prio) s = .next { u.rebalance with pending := s.pending } ∧
     (s.inFloor i = true → u = s.grant i) ∧
     (s.inFloor i = false → s.topaz.items.contains i = false → (∀ f, i ≠ .facet f) →
       (s.topaz.queue = [] → s.charged + s.added i ≤ s.budget → u = s.grant i ∧ u.topaz.items = s.topaz.items ++ [i]) ∧
       (s.topaz.queue ≠ [] ∨ s.budget < s.charged + s.added i →
         u.topaz = { s.topaz with queue := insertBy (·.prio) ⟨i, prio, s.topaz.reqSeq⟩ s.topaz.queue,
                                  reqSeq := s.topaz.reqSeq + 1 } ∧
         Tells [TPZ_DEFER_CNT.COUNT.key 0] s { u with topaz := s.topaz })))) ∧
   (∀ v, s.ready = true → ∃ u : State, exec (.tpzCapWrite v) s = .next { u.rebalance with pending := s.pending } ∧
     u.reg TPZ_CAP.CAP = v % 2 ^ TPZ_CAP.CAP.w ∧ Touches [TPZ_CAP.CAP.key 0] s u) ∧
   (∀ v, s.ready = true → ∃ u : State, exec (.tpzLimitsWrite v) s = .next { u.clampFclk with pending := s.pending } ∧
     u.reg TPZ_LIMITS.FCLK_MIN = bits v 0 4 ∧ u.reg TPZ_LIMITS.FCLK_MAX = bits v 4 4 ∧
     u.reg TPZ_LIMITS.FACET_MIN = bits v 8 7 ∧
     Touches [TPZ_LIMITS.FCLK_MIN.key 0, TPZ_LIMITS.FCLK_MAX.key 0, TPZ_LIMITS.FACET_MIN.key 0] s u) ∧
   (∀ tag io o e, Runs s tag 0x0010 o e → o.inst = 0 → s.setBudgetOk e = true → ∃ u : State,
     u.reg TPZ_CAP.CAP = e.fld 32 2 ∧ (e.fld 34 1 = 1 → u.reg TPZ_LIMITS.FCLK_MAX = e.fld 35 1) ∧
     (e.fld 34 1 = 0 → u.reg TPZ_LIMITS.FCLK_MAX = s.reg TPZ_LIMITS.FCLK_MAX) ∧
     Touches [TPZ_CAP.CAP.key 0, TPZ_LIMITS.FCLK_MAX.key 0] s u ∧
     exec (.setBudget tag io) s = .next
       { u.clampFclk.finish tag OK (some u.clampFclk.budget) with pending := s.pending })) ∧
  (∀ s : State, s.topaz.raising = none → s.reg TPZ_STATUS.FCLK_CODE ≤ 10 →
   (∃ c, min (s.reg TPZ_LIMITS.FCLK_MIN) (s.reg TPZ_STATUS.FCLK_CODE) ≤ c ∧ c ≤ s.reg TPZ_STATUS.FCLK_CODE ∧
     s.chargedAt c ≤ s.budget) →
   let t := s.step1
   t.charged ≤ t.budget ∧ t.budget = s.budget ∧
   min (s.reg TPZ_LIMITS.FCLK_MIN) (s.reg TPZ_STATUS.FCLK_CODE) ≤ t.reg TPZ_STATUS.FCLK_CODE ∧
   t.reg TPZ_STATUS.FCLK_CODE ≤ s.reg TPZ_STATUS.FCLK_CODE ∧
   (∀ c, t.reg TPZ_STATUS.FCLK_CODE < c → c ≤ s.reg TPZ_STATUS.FCLK_CODE → s.budget < s.chargedAt c) ∧
   Touches [TPZ_STATUS.FCLK_CODE.key 0] s t)

/-- R61, R247 and R249: a low STOP_VS, an overcurrent, a silent required port and a cleared ARM stop the guard in RUN:
both outputs go off, the cause is recorded and counted, and a restart is wanted. In any other state a low STOP_VS and
an overcurrent are recorded, and change no output. R247, R248 and R254: with ARM set and every condition of R247 met,
the guard goes to RUN with both outputs on: by itself where no restart request is wanted, by PF 0's GO with SRC 0 or
in FAULT, and by a GPIO0 pulse of 100 ms to 5 s with SRC 1. A request that meets a failing condition is refused with
the first one's number, whatever the state. A warm reset does not stop the guard, but for the register write of GO. -/
def Obligations.GuardLatch : Prop :=
  (∀ s : State,
   (∀ (c : Instr) (cause tgt : Nat), s.power.on = true → s.jState = 2 →
     ((∃ dv, dv < 160 ∧ c = .stopVsLow dv) ∧ cause = 5 ∧ tgt = 3 ∨
       (∃ o, o < 2 ∧ s.regB (outFld o) = true ∧ c = .stopOvercurrent o) ∧ cause = 6 ∧ tgt = 3 ∨
       (∃ p, p < 10 ∧ bit (s.reg JDE_REQ_PORTS.MASK) p = true ∧ s.portHeard p = false ∧ c = .portSilent p) ∧
         cause = 2 ∧ tgt = 3 ∨
       s.ready = true ∧ c = .armWrite false ∧ cause = 7 ∧ tgt = 1) →
     ∃ t, exec c s = .next t ∧ t.reg JDE_STATUS.STATE = tgt ∧ t.reg JDE_STATUS.OUT_A = 0 ∧
       t.reg JDE_STATUS.OUT_B = 0 ∧ t.reg JDE_CAUSE.CAUSE = cause ∧ t.jade.needGo = true ∧
       t.reg JDE_STOP_CNT.COUNT = min (s.reg JDE_STOP_CNT.COUNT + 1) (2 ^ 32 - 1) ∧
       Tells [JDE_STATUS.STATE.key 0, JDE_STATUS.OUT_A.key 0, JDE_STATUS.OUT_B.key 0, JDE_CAUSE.CAUSE.key 0,
         JDE_STOP_CNT.COUNT.key 0, JDE_CTRL.ARM.key 0, GBL_SUPPLY.STOPVS_DV.key 0, GBL_SUPPLY.STOPVS_OK.key 0,
         GBL_PWR_EVENTS.STOPVS_LOW.key 0, GBL_PWR_EVENTS.STOP_OC.key 0] s { t with jade := s.jade }) ∧
   (s.power.on = true → s.jState ≠ 2 →
     (∀ dv, dv < 160 → ∃ t, exec (.stopVsLow dv) s = .next t ∧ t.reg GBL_SUPPLY.STOPVS_DV = dv ∧
       t.reg GBL_SUPPLY.STOPVS_OK = 0 ∧ t.reg GBL_PWR_EVENTS.STOPVS_LOW = 1 ∧
       Tells [GBL_SUPPLY.STOPVS_DV.key 0, GBL_SUPPLY.STOPVS_OK.key 0, GBL_PWR_EVENTS.STOPVS_LOW.key 0] s t) ∧
     ∀ o, o < 2 → s.regB (outFld o) = true → ∃ t, exec (.stopOvercurrent o) s = .next t ∧
       t.reg GBL_PWR_EVENTS.STOP_OC = 1 ∧ Tells [GBL_PWR_EVENTS.STOP_OC.key 0] s t)) ∧
  ((∀ (s : State) (c : Instr), s.ready = true ∨ s.guardRuns = true ∧ c ≠ .restartRequest 0 →
     s.regB JDE_CTRL.ARM = true →
     ((s.jState = 1 ∨ s.jState = 3) ∧ c = .guardRun ∧ ¬(s.jade.needGo = true ∧ s.regB JDE_RESTART.MANUAL = true) ∨
       (s.jState = 1 ∨ s.jState = 3) ∧ c = .restartRequest 0 ∧ s.regB JDE_RESTART.SRC = false ∨
       s.jState = 4 ∧ c = .restartRequest 0 ∨
       (s.jState = 1 ∨ s.jState = 3) ∧ s.regB JDE_RESTART.SRC = true ∧
         ∃ ms, 100 ≤ ms ∧ ms ≤ 5000 ∧ c = .gpio0RestartPulse ms) →
     s.turnOn.all id = true → s.regB JDE_STATUS.VEL_STALE = true ∨
       (s.stepFor (s.reg JDE_SPEED.SPEED_MMS) 0).isSome = true →
     ∃ t, exec c s = .next t ∧ t.reg JDE_STATUS.STATE = 2 ∧ t.reg JDE_STATUS.OUT_A = 1 ∧
       t.reg JDE_STATUS.OUT_B = 1 ∧ t.jade.needGo = false ∧ t.jade.pulse = none ∧
       Tells [JDE_STATUS.STATE.key 0, JDE_STATUS.OUT_A.key 0, JDE_STATUS.OUT_B.key 0, JDE_TEST.EN.key 0,
         JDE_TEST.PERIOD_MS.key 0, JDE_TEST.PULSE_US.key 0] s { t with jade := s.jade, staged := s.staged }) ∧
   (∀ (s : State) (c : Instr) (i : Nat),
     s.ready = true ∧ c = .restartRequest 0 ∧ (s.regB JDE_RESTART.SRC = false ∨ s.jState = 4) ∨
       s.guardRuns = true ∧ s.regB JDE_RESTART.SRC = true ∧ (∃ ms, 100 ≤ ms ∧ ms ≤ 5000 ∧ c = .gpio0RestartPulse ms) →
     i < 6 → s.turnOn.getD i false = false → (∀ j, j < i → s.turnOn.getD j false = true) →
     exec c s = .next (s.pfEvent 0x0420 (some (i + 1)))))

/-- R244 to R247: arming, a stale velocity, and a lower field step. A velocity that is stale puts step 15 in force,
and stops a running guard where STALE_STOP is set; the lowest step whose UPPER_MMS - HYST_MMS the speed has kept for
DOWN_MS comes into force; a step in force takes the set that the velocity table names. R252: a field set, a velocity
table or a transform that passes every check comes into force, and the operation ends with the CRC of what is stored;
nothing in package memory changes. R50, R250, R251 and R254: test pulses, the comparison of the feedback inputs, and
the storage check. A pulse takes one output off and never while another is off for one; its end gives the output back.
The second mismatch in a row, a stuck output (of a pulse, or of a stop in the last 100 µs) and a CRC that differs put
the guard in FAULT with both outputs off, but under debug level 3, which keeps it DISABLED (R124). All of it goes on
in a warm reset. -/
def Obligations.GuardFields : Prop :=
  (∀ s : State,
   (s.ready = true → s.regB JDE_CTRL.ARM = false → s.jState ≠ 2 →
     ∃ t, exec (.armWrite true) s = .next t ∧ t.reg JDE_CTRL.ARM = 1 ∧ t.regB JDE_STATUS.VEL_STALE = true ∧
       t.jade = { s.jade with needGo := false, speeds := t.jade.speeds } ∧
       t.reg JDE_STATUS.STATE = s.reg JDE_STATUS.STATE ∧
       (s.regB JDE_STATUS.VEL_STALE = false → t.reg JDE_STATUS.STEP = 15) ∧
       Tells [JDE_CTRL.ARM.key 0, JDE_STATUS.VEL_STALE.key 0, JDE_STATUS.STEP.key 0, JDE_STATUS.SET.key 0] s
         { t with jade := s.jade }) ∧
   (s.guardRuns = true → s.regB JDE_STATUS.VEL_STALE = false →
     s.jade.velAt + msTicks (orIf0 (s.reg JDE_VEL.VEL_TMO_MS) 50) ≤ s.ticks + 1 →
     ∃ t, exec .velStale s = .next t ∧ t.reg JDE_STATUS.VEL_STALE = 1 ∧ t.reg JDE_STATUS.STEP = 15 ∧
       (s.vLoaded = true → t.reg JDE_STATUS.SET = (s.vEntry 15).2) ∧
       (s.jState = 2 ∧ s.regB JDE_CTRL.STALE_STOP = true → t.reg JDE_STATUS.STATE = 3 ∧ t.reg JDE_CAUSE.CAUSE = 4 ∧
         t.reg JDE_STATUS.OUT_A = 0 ∧ t.reg JDE_STATUS.OUT_B = 0) ∧
       (s.jState ≠ 2 ∨ s.regB JDE_CTRL.STALE_STOP = false → t.jade = { s.jade with speeds := [] } ∧
         Tells [JDE_STATUS.VEL_STALE.key 0, JDE_STATUS.STEP.key 0, JDE_STATUS.SET.key 0] s { t with jade := s.jade })) ∧
   (∀ k, s.guardRuns = true → s.vLoaded = true → s.regB JDE_STATUS.VEL_STALE = false → k < s.reg JDE_STATUS.STEP →
     k < 16 → s.reg JDE_SEL.HYST_MMS ≤ (s.vEntry k).1 →
     s.stayedBelow ((s.vEntry k).1 - s.reg JDE_SEL.HYST_MMS) (msTicks (s.reg JDE_SEL.DOWN_MS)) = true →
     (∀ i, i < k → ¬(s.reg JDE_SEL.HYST_MMS ≤ (s.vEntry i).1 ∧
       s.stayedBelow ((s.vEntry i).1 - s.reg JDE_SEL.HYST_MMS) (msTicks (s.reg JDE_SEL.DOWN_MS)) = true)) →
     ∃ t, exec .fieldStepDown s = .next t ∧ t.reg JDE_STATUS.STEP = k ∧ t.reg JDE_STATUS.SET = (s.vEntry k).2 ∧
       Tells [JDE_STATUS.STEP.key 0, JDE_STATUS.SET.key 0] s t)) ∧
  (∀ (s : State) (tag : Nat) (io : OpIo) (o : Op) (e : Sqe),
   Runs s tag 0x0110 o e → o.inst = 0 → s.regB JDE_CTRL.LOAD_LOCK = false →
   let scope := e.fld 32 1
   let idx := e.fld 33 1
   scope ≤ 2 → guardIndexOk scope idx = true → e.fld 48 8 % 64 = 0 → e.rsv [(34, 2), (44, 4), (56, 8)] = true →
   ¬(scope = 0 ∧ s.namedSets.contains idx = true ∧ (s.jState = 2 ∨ s.jState = 3)) →
   io.hostOk = true → io.hostPoison = [] → io.host.length = e.fld 36 4 → crc32 io.host = e.fld 40 4 →
   s.guardBlockOk scope io.host = true →
   ∃ t, exec (.guardFieldLoad tag io) s = .next t ∧ Ended t tag OK (some (t.reg JDE_CRC.CRC)) none ∧
     t.reg JDE_CRC.CRC = (Config.guardCrc t.guardBlocks).toNat ∧ t.mem = s.mem ∧
     (scope = 0 → t.jade = { s.jade with sets := SMap.ins s.jade.sets idx io.host }) ∧
     (scope = 1 → t.jade.vtab = io.host ∧ t.jade.sets = s.jade.sets ∧ t.jade.xforms = s.jade.xforms) ∧
     (scope = 2 → t.jade = { s.jade with xforms := SMap.ins s.jade.xforms idx io.host }) ∧
     (scope ≠ 1 → t = { s with jade := t.jade, ops := t.ops, regs := t.regs,
                               out := s.out ++ [.hostRead 0 (e.fld 48 8) (e.fld 36 4)] } ∧
       RegsBut [JDE_CRC.CRC.key 0] s t)) ∧
  (∀ s : State, s.guardRuns = true →
   let inFault (t : State) : Prop := s.reg LPS_STATUS.DBG_LEVEL ≠ 3 →
     t.reg JDE_STATUS.STATE = 4 ∧ t.reg JDE_STATUS.OUT_A = 0 ∧ t.reg JDE_STATUS.OUT_B = 0
   let stuck (o : Nat) (t : State) : Prop :=
     t.reg (if o = 0 then JDE_FAULT.STUCK_A else JDE_FAULT.STUCK_B) ≠ 0 ∧ inFault t
   (∀ o, o < 2 → s.jState = 2 → s.jade.pulse = none → (s.testPeriod o).regB JDE_TEST.EN = true →
     (∃ t, exec (.testPulse o false) s = .next t ∧ t.reg (outFld o) = 0 ∧ t.jade = { s.jade with pulse := some o } ∧
       t.reg (outFld (1 - o)) = s.reg (outFld (1 - o)) ∧ t = { s with jade := t.jade, staged := t.staged, regs := t.regs } ∧
       RegsBut [(outFld o).key 0, JDE_TEST.EN.key 0, JDE_TEST.PERIOD_MS.key 0, JDE_TEST.PULSE_US.key 0] s t) ∧
     ∃ t, exec (.testPulse o true) s = .next t ∧ stuck o t) ∧
   (∀ o p x, o < 2 → s.jState = 2 → s.jade.pulse = some p → (s.testPeriod o).regs = s.regs →
     ∃ t, exec (.testPulse o x) s = .next t ∧ t = { s with staged := t.staged }) ∧
   (∀ o, o < 2 → s.jState ≠ 2 → exec (.testPulse o false) s = .next s ∧
     (s.readsBack o = true → ∃ t, exec (.testPulse o true) s = .next t ∧ stuck o t) ∧
     (s.readsBack o = false → exec (.testPulse o true) s = .next s)) ∧
   (∀ o, o < 2 → s.jState = 2 → s.jade.pulse = some o → ∃ t, exec (.testPulseEnd o) s = .next t ∧
     t.reg (outFld o) = 1 ∧ t.jade.pulse = none ∧ t = { s with jade := t.jade, regs := t.regs } ∧
     RegsBut [(outFld o).key 0] s t) ∧
   (∀ a b,
     let run (en : Bool) (change : Nat) (pol out x : Bool) (n : Nat) : Nat :=
       if s.fbCompared en change = true ∧ x ≠ (if pol then !out else out) then n + 1 else 0
     let na := run (s.regB JDE_FB.EN_A) s.jade.changeA (s.regB JDE_FB.POL_A) (s.regB JDE_STATUS.OUT_A) a s.jade.badA
     let nb := run (s.regB JDE_FB.EN_B) s.jade.changeB (s.regB JDE_FB.POL_B) (s.regB JDE_STATUS.OUT_B) b s.jade.badB
     ∃ t, exec (.feedbackSample a b) s = .next t ∧ t.reg JDE_STATUS.FB_A = b2n a ∧ t.reg JDE_STATUS.FB_B = b2n b ∧
       (na < 2 → nb < 2 → t = { s with jade := { s.jade with badA := na, badB := nb }, regs := t.regs } ∧
         RegsBut [JDE_STATUS.FB_A.key 0, JDE_STATUS.FB_B.key 0] s t) ∧
       (2 ≤ na → t.reg JDE_FAULT.FB_A ≠ 0) ∧ (2 ≤ nb → t.reg JDE_FAULT.FB_B ≠ 0) ∧
       (2 ≤ na ∨ 2 ≤ nb → inFault t)) ∧
   (∀ a b, (a = s.reg JDE_CRC.CRC → b = s.reg JDE_CRC.CRC → exec (.storeCrcCheck a b) s = .next s) ∧
     (a ≠ s.reg JDE_CRC.CRC ∨ b ≠ s.reg JDE_CRC.CRC → ∃ t, exec (.storeCrcCheck a b) s = .next t ∧
       t.reg JDE_FAULT.STORE_CRC ≠ 0 ∧ inFault t)))

/-- R42 to R44, R89 and R100: PoDL on a port. A class of 12 V within the limits asks Topaz for its power, unless that
would raise the floor of a bound port above 768 BU; any other is refused; a fault takes the power off and is recorded;
a retry asks again; software's clear arms the port anew. The priority 7 of the request is the model's (log entry 131).
R228: a cable test takes an unbound port out of service until it ends, and shows what it found; on a bound port the
write is dropped and reported. -/
def Obligations.PortCables : Prop :=
  (∀ (s : State) (p : Nat), p < 8 → s.power.on = true →
   (∀ cls mw v12, s.regB GNT_P_CTRL.PODL_EN (portD p) = true → s.regB GNT_P_STATUS.PODL_ON (portD p) = false →
     s.regB GNT_P_STATUS.PODL_FAULT (portD p) = false → s.reg GNT_P_STATUS.STATE (portD p) ≠ 6 →
     ∃ u : State, u.reg GNT_P_STATUS.PODL_CLASS (portD p) = cls % 256 ∧
       Touches [GNT_P_STATUS.PODL_CLASS.key (portD p)] s u ∧
       (v12 = true → mw ≤ min 7000 (s.reg GNT_P_PODL_LIMIT.MW (portD p)) →
         (((s.port p).bound = false ∨ u.floorBU + podlCharge mw ≤ 768) → exec (.podlClassification p cls mw v12) s =
           .next { ((u.setPort p { s.port p with podlMw := mw }).request (.podl p) 7).1.rebalance with pending := s.pending }) ∧
         ((s.port p).bound = true → 768 < u.floorBU + podlCharge mw →
           exec (.podlClassification p cls mw v12) s = .next u)) ∧
       (v12 = false ∨ min 7000 (s.reg GNT_P_PODL_LIMIT.MW (portD p)) < mw →
         exec (.podlClassification p cls mw v12) s = .next { u.portEvent p 0x03E1 none with pending := s.pending })) ∧
   (s.regB GNT_P_STATUS.PODL_ON (portD p) = true → s.topaz.items.contains (.podl p) = false →
     ∃ u : State, exec (.podlFault p) s = .next (u.portEvent p 0x03E0 none) ∧ u.reg GNT_P_STATUS.PODL_ON (portD p) = 0 ∧
       u.reg GNT_P_PODL_MW.MW (portD p) = 0 ∧ u.reg GNT_P_STATUS.PODL_FAULT (portD p) = 1 ∧
       u.reg GBL_PWR_EVENTS.PODL = 1 ∧ u.port p = { s.port p with podlFails := (s.port p).podlFails + 1 } ∧
       u.topaz = { s.topaz with queue := s.topaz.queue.filter (·.item != Item.podl p), shed := s.topaz.shed.filter (· != p) } ∧
       Touches [GNT_P_STATUS.PODL_ON.key (portD p), GNT_P_PODL_MW.MW.key (portD p),
         GNT_P_STATUS.PODL_FAULT.key (portD p), GBL_PWR_EVENTS.PODL.key 0] s { u with ports := s.ports, topaz := s.topaz }) ∧
   (s.regB GNT_P_CTRL.PODL_EN (portD p) = true → s.regB GNT_P_STATUS.PODL_FAULT (portD p) = true →
     s.regB GNT_P_STATUS.PODL_ON (portD p) = false → s.reg GNT_P_STATUS.STATE (portD p) ≠ 6 →
     1 ≤ (s.port p).podlFails → (s.port p).podlFails ≤ 3 →
     exec (.podlRetry p) s = .next { s.podlPower p (s.port p).podlMw with pending := s.pending }) ∧
   (s.running = true → ∃ t, exec (.podlFaultClear p) s = .next t ∧ t.reg GNT_P_STATUS.PODL_FAULT (portD p) = 0 ∧
     t.port p = { s.port p with podlFails := 0 } ∧ Touches [GNT_P_STATUS.PODL_FAULT.key (portD p)] s
       { t with ports := s.ports })) ∧
  (∀ (s : State) (p : Nat), p < 10 →
   (s.running = true → (s.port p).bound = false → s.regB GNT_P_CABLE.BUSY (portD p) = false → s.portLink p = false →
     s.topaz.items.contains (.podl p) = false → ∃ t, exec (.cableTest p) s = .next t ∧
       t.reg GNT_P_STATUS.STATE (portD p) = 6 ∧ t.reg GNT_P_CABLE.BUSY (portD p) = 1 ∧
       t.reg GNT_P_STATUS.PODL_ON (portD p) = 0 ∧
       t.topaz = { s.topaz with queue := s.topaz.queue.filter (·.item != Item.podl p), shed := s.topaz.shed.filter (· != p) } ∧
       Touches [GNT_P_STATUS.STATE.key (portD p), GNT_P_CABLE.BUSY.key (portD p), GNT_P_STATUS.PODL_ON.key (portD p),
         GNT_P_PODL_MW.MW.key (portD p)] s { t with topaz := s.topaz }) ∧
   (s.running = true → (s.port p).bound = true → ∃ t, exec (.cableTest p) s = .next t ∧
     t.reg GNT_P_STATUS.CFG_ERR (portD p) = 1 ∧ t.reg GNT_STATUS.CFG_ERR = 1 ∧
     bit (t.reg GBL_ERR_SUMMARY.CFG_ERR) 10 = true ∧
     Touches [GNT_P_STATUS.CFG_ERR.key (portD p), GNT_STATUS.CFG_ERR.key 0, GBL_ERR_SUMMARY.CFG_ERR.key 0] s t) ∧
   (∀ result dist, s.power.on = true → s.regB GNT_P_CABLE.BUSY (portD p) = true → 1 ≤ result → result ≤ 3 →
     s.anyHeld heldCable [p] = false → ∃ u : State,
       exec (.cableTestDone p result dist) s = .next (u.portEvent p 0x0340 (some p)) ∧
       u.reg GNT_P_CABLE.RESULT (portD p) = result ∧ u.reg GNT_P_CABLE.DIST (portD p) = min dist 0xFFF ∧
       u.reg GNT_P_CABLE.BUSY (portD p) = 0 ∧ u.reg GNT_P_STATUS.STATE (portD p) = 0 ∧
       Touches [GNT_P_CABLE.RESULT.key (portD p), GNT_P_CABLE.DIST.key (portD p), GNT_P_CABLE.BUSY.key (portD p),
         GNT_P_STATUS.STATE.key (portD p)] s u))

/-- R204, R205, R206, R228, R229, R230 and R395: the link of a sensor port. Its domains come up to their floor. A link
that comes up on an unbound port, or on a bound one that was detached, starts a discovery in state DISCOVERING; one
that goes down leaves an unbound port without descriptor; a bound port is detached after 750 µs. R204 and R206: how a
discovery on an unbound port ends: with a descriptor, which the port then shows, or without one. An LLDPDU is counted
as a frame that carries no points, and ends a discovery that runs. -/
def Obligations.PortDiscovery : Prop :=
  (∀ (s : State) (p : Nat), p < 10 → s.power.on = true →
   (s.portLink p = false → (p < 8 ∨ s.rateCode p ≠ 0) → s.reg GNT_P_STATUS.STATE (portD p) ≠ 6 →
     let v := ((s.setReg GNT_P_STATUS.LINK (portD p) 1).meetFloor (4 + p)).meetFloor (14 + p)
     let w := v.portEvent p 0x0301 (some (p + 16 * v.rateCode p))
     let up := exec (.portLinkUp p (s.rateCode p)) s
     ((v.port p).bound = true → (v.port p).detached = false → up = .next { v with pending := s.pending }) ∧
     ((v.port p).bound = false → up = .next { (w.setPState p 2).startDiscovery p with pending := s.pending }) ∧
     ((v.port p).bound = true → (v.port p).detached = true →
       let x := w.setPort p { v.port p with detached := false }
       let y := if (v.port p).auto then x.setReg GNT_P_STATUS.DESC (portD p) 0xFF else x.restartStream p
       up = .next { (y.setPState p 2).startDiscovery p with pending := s.pending })) ∧
   (let u := s.startDiscovery p
    u.port p = { s.port p with discovering := true, found := 0xFF,
                               f1 := if u.regB MODE_F.MODE 4 then u.handler 1 + 1 else 0 } ∧
    (∀ q, q ≠ p → u.port q = s.port q) ∧
    u.reg GNT_P_STATUS.STATE (portD p) = s.reg GNT_P_STATUS.STATE (portD p)) ∧
   (s.portLink p = true → ¬(s.regB GNT_GPTP_CTRL.EN = true ∧ s.regB GNT_GPTP_CTRL.SRC = false ∧
       s.reg GNT_GPTP_STATUS.PORT = p) →
     ((s.port p).bound = true → exec (.portLinkDown p) s = .next (s.setReg GNT_P_STATUS.LINK (portD p) 0)) ∧
     ((s.port p).bound = false → ∃ u : State,
       exec (.portLinkDown p) s = .next (u.event 0 { code := 0x0302, detail := some p }) ∧
       u.reg GNT_P_STATUS.LINK (portD p) = 0 ∧ u.reg GNT_P_STATUS.DESC (portD p) = 0xFF ∧
       u.reg GNT_P_STATUS.STATE (portD p) = 0 ∧
       u.port p = { s.port p with discovering := false, found := 0xFF } ∧
       Touches [GNT_P_STATUS.LINK.key (portD p), GNT_P_STATUS.DESC.key (portD p), GNT_P_STATUS.STATE.key (portD p)] s
         { u with ports := s.ports })) ∧
   ((s.port p).bound = true → (s.port p).detached = false → s.portLink p = false → ∃ t, exec (.hotDetach p) s = .next t ∧
     t.reg GNT_P_STATUS.STATE (portD p) = 4 ∧ (t.port p).detached = true ∧ (t.port p).discovering = false) ∧
   (s.portLink p = true → ∃ t, exec (.lldpTransmit p) s = .next t ∧
     t = { s with out := s.out ++ if s.regB GNT_CTRL.LLDP_TX_EN then [.lldp p (s.lldpdu p)] else [] })) ∧
  (∀ (s : State) (p : Nat), p < 10 → s.power.on = true → (s.port p).bound = false →
   ((s.port p).discovering = true →
     let d := s.reg GNT_P_CTRL.DEFAULT_DESC (portD p)
     ∃ t, exec (.discoveryTimeout p) s = .next t ∧ t.reg GNT_P_STATUS.STATE (portD p) = 3 ∧
       (d < 32 → (s.desc d).valid = true → t.reg GNT_P_STATUS.DESC (portD p) = d ∧
         t.port p = { s.port p with found := d, discovering := false }) ∧
       (32 ≤ d ∨ (s.desc d).valid = false → t.reg GNT_P_STATUS.DESC (portD p) = 0xFF ∧
         t.port p = { s.port p with found := 0xFF, discovering := false }) ∧
       Tells [GNT_P_STATUS.STATE.key (portD p), GNT_P_STATUS.DESC.key (portD p)] s { t with ports := s.ports }) ∧
   (∀ b, s.portLink p = true → ∃ u : State,
     u.reg GNT_P_NONPOINT.COUNT (portD p) = min (s.reg GNT_P_NONPOINT.COUNT (portD p) + 1) (2 ^ 32 - 1) ∧
     u.reg GNT_P_LLDP_RX.COUNT (portD p) = (s.reg GNT_P_LLDP_RX.COUNT (portD p) + 1) % 2 ^ 32 ∧
     u.reg GNT_P_FRAMES_OK.COUNT (portD p) = (s.reg GNT_P_FRAMES_OK.COUNT (portD p) + 1) % 2 ^ 32 ∧
     Tells [GNT_P_NONPOINT.COUNT.key (portD p), GNT_P_LLDP_RX.COUNT.key (portD p),
       GNT_P_FRAMES_OK.COUNT.key (portD p)] s u ∧
     ((s.port p).discovering = false → exec (.lldpduReceived p b) s = .next u) ∧
     ((s.port p).discovering = true → (s.port p).f1 = 0 → (∀ d, s.matchLldp b = some d → d < 32 →
       ∃ t, exec (.lldpduReceived p b) s = .next t ∧ t.reg GNT_P_STATUS.DESC (portD p) = d ∧
         t.reg GNT_P_STATUS.STATE (portD p) = 3 ∧ (t.port p).found = d ∧ (t.port p).discovering = false))))

/-- R203: which counter an incoming frame takes on an unbound port, by its FCS, its length, its address and its kind.
R222 and R223: a pose frame is counted, and a payload of 64 bytes, version 1, valid and newer than the last is kept;
any other is dropped and counted. -/
def Obligations.UnboundFrames : Prop :=
  (∀ (s : State) (p : Nat) (f : Bytes) (fcs lane stall : Bool), p < 10 →
   s.power.on = true → s.portLink p = true → (s.port p).bound = false →
   let count (F : Fld) (t : State) : Prop := t.reg F (portD p) = min (s.reg F (portD p) + 1) (2 ^ 32 - 1)
   let mine := s.regB GNT_P_CTRL.MAC_FILTER (portD p) = false ∨ f.take 6 = portMac p ∨ f.take 6 = lldpGroup ∨
     f.take 6 = List.replicate 6 0xFF
   let k := parseFrame f
   ∃ t, exec (.frameReceived p f fcs lane stall) s = .next t ∧
     (fcs = false → count GNT_P_FCS_ERR.COUNT t ∧ Tells [GNT_P_FCS_ERR.COUNT.key (portD p)] s t) ∧
     (fcs = true → 9216 < f.length → count GNT_P_OVERSIZE.COUNT t ∧ Tells [GNT_P_OVERSIZE.COUNT.key (portD p)] s t) ∧
     (fcs = true → f.length ≤ 9216 → ¬mine → t = s) ∧
     (fcs = true → f.length ≤ 9216 → mine → k.frag = true → count GNT_P_FRAG_DROP.COUNT t ∧
       t.reg GNT_P_FRAMES_OK.COUNT (portD p) = (s.reg GNT_P_FRAMES_OK.COUNT (portD p) + 1) % 2 ^ 32 ∧
       Tells [GNT_P_FRAG_DROP.COUNT.key (portD p), GNT_P_FRAMES_OK.COUNT.key (portD p)] s t) ∧
     (fcs = true → f.length ≤ 9216 → mine → k.frag = false → k.udp = none → count GNT_P_NONPOINT.COUNT t ∧
       t.reg GNT_P_FRAMES_OK.COUNT (portD p) = (s.reg GNT_P_FRAMES_OK.COUNT (portD p) + 1) % 2 ^ 32 ∧
       Tells [GNT_P_NONPOINT.COUNT.key (portD p), GNT_P_FRAMES_OK.COUNT.key (portD p)] s t)) ∧
  (∀ (s : State) (p : Nat) (b : Bytes), p < 10 → s.power.on = true →
   s.portLink p = true → s.regB GNT_POSE_CTRL.EN = true → s.reg GNT_POSE_CTRL.PORT = p → (s.port p).bound = false →
   let good := b.length = 64 ∧ fieldLE b 0 2 = 1 ∧ bit (fieldLE b 2 2) 0 = true ∧
     ∀ x, s.poseLast = some x → x < fieldLE b 8 8
   ∃ t, exec (.poseFrameReceived p b) s = .next t ∧
     (good → t.poseLast = some (fieldLE b 8 8) ∧ t.reg GNT_POSE_WR.COUNT = (s.reg GNT_POSE_WR.COUNT + 1) % 2 ^ 64 ∧
       t.reg GNT_POSE_DROP.COUNT = s.reg GNT_POSE_DROP.COUNT) ∧
     (¬good → t.poseLast = s.poseLast ∧
       t.reg GNT_POSE_DROP.COUNT = min (s.reg GNT_POSE_DROP.COUNT + 1) (2 ^ 32 - 1) ∧
       Tells [GNT_P_NONPOINT.COUNT.key (portD p), GNT_P_FRAMES_OK.COUNT.key (portD p), GNT_POSE_DROP.COUNT.key 0] s t))

/-- R20, R211, R213 and R240: a point frame of a bound port is taken apart by the descriptor in force, record by
record, and its result is committed to Jade; a point that fits the open slice is written as a CP16 record at its
place, and every other byte outside that line is as it was. R211, R212, R214 and R22: a slice that closes leaves the
port with one slice more closed, and its fence raised to that number; a time-out closes it and opens the next, or ends
the sweep; a stalled sweep ends and is reported. -/
def Obligations.BoundFrames : Prop :=
  (∀ (s : State) (p : Nat), p < 10 →
   (∀ f lane stall, s.power.on = true → s.portLink p = true → s.regB GNT_P_CTRL.MAC_FILTER (portD p) = false →
     f.length ≤ 9216 → ∀ port body v, parseFrame f = ⟨v, false, some (port, body)⟩ → s.regB GNT_POSE_CTRL.EN = false →
     let d := s.desc (s.reg GNT_P_STATUS.DESC (portD p))
     s.reg GNT_P_STATUS.DESC (portD p) < 32 → d.dport = 0 ∨ d.dport = port → d.usable = true → d.hdrLen ≤ body.length →
     (body.length - d.hdrLen) % d.stride = 0 → s.ingests p = true → stall = false → d.rule ≠ 2 →
     ∃ r : State × FrameAcc,
       r = s.takeRecords p d v (if d.offPkt + 8 ≤ d.hdrLen then some (fieldLE body d.offPkt 8) else none) ⟨0, none, none, false⟩
         (recordsOf d body) ∧
       exec (.frameReceived p f true lane stall) s =
         .next { (r.1.stallOver p).acceptFrame p r.2 lane with pending := s.pending }) ∧
   (∀ kpps pt hit new vlan sl, (s.port p).open_ = some sl → sl.slot = true → sl.stalled = false →
     sl.points < (s.port p).slotPts → (s.port p).recentPts s.uptime < kpps → (sl.start : Int) ≤ pt.time →
     let a := s.ptsAt (s.port p) sl.seq + 16 * sl.points
     s.sound →
     let t := s.placePoint p kpps pt hit new vlan
     t.peek a 16 = cp16 pt (min 0xFFFF ((pt.time - sl.start) / 1000).toNat) (b2n hit + 2 * b2n pt.fallback) ∧
     (∀ k, k < a ∨ a + 16 ≤ k → t.byteAt k = s.byteAt k) ∧
     ∃ sl', (t.port p).open_ = some sl' ∧ sl'.points = sl.points + 1 ∧ sl'.seq = sl.seq ∧ sl'.start = sl.start ∧
       (∀ q, q ≠ p → t.port q = s.port q) ∧ t.regs = s.regs)) ∧
  (∀ (s : State) (p : Nat), p < 10 → s.power.on = true →
   (s.port p).bound = true → (s.port p).sweepOn = true → ∀ sl, (s.port p).open_ = some sl →
   let q := s.port p
   let rule := (s.desc (s.reg GNT_P_STATUS.DESC (portD p))).rule
   (∀ fl now, let t := s.closeSlice p fl now
     (t.port p).open_ = none ∧ (t.port p).closed = q.closed + 1 ∧ (t.port p).j = q.j + 1 ∧
     (t.fence q.fence).value = max (s.fence q.fence).value (q.closed + 1) ∧ ∀ r, r ≠ p → t.port r = s.port r) ∧
   (q.timed rule = true → q.ts + (q.j + 1) * q.lenNs + 1000000 ≤ s.dtimeNow →
     (q.perSweep = 0 ∨ q.j + 1 < q.perSweep → exec (.sliceCloseTimeout p) s =
       .next { (s.closeSlice p 0 false).openSlice p with pending := s.pending }) ∧
     (q.perSweep ≠ 0 → q.perSweep ≤ q.j + 1 → exec (.sliceCloseTimeout p) s =
       .next { s.endSweep p 0 true with pending := s.pending })) ∧
   (q.perSweep ≠ 0 → q.j + 1 = q.perSweep → q.ts + (q.j + 1) * q.lenNs + 4 * q.lenNs ≤ s.dtimeNow →
     exec (.sweepStalled p) s =
       .next { (s.endSweep p flTruncated true).portEvent p 0x0312 (some p) with pending := s.pending }))

/-- R218 to R220: gPTP, once the settings that were staged are in force. An offset beyond the threshold is stepped away
at once; a smaller one steers the rate, and the eighth good one in a row locks. SYNC_IN uses DTIME's distance from the
nearest second, or from the second's start where it calls for a step. A lost master holds over and moves to ALT_PORT,
where there is one. -/
def Obligations.Gptp : Prop := ∀ s : State, s.power.on = true →
  (∀ off pd gm, ∃ t, exec (.gptpSync off pd gm) s = .next t) ∧ (∃ t, exec .syncInEdge s = .next t) ∧
  (let v := s.gptpBoundary
   v.regB GNT_GPTP_CTRL.EN = true →
   (∀ off pd gm, v.regB GNT_GPTP_CTRL.SRC = false → v.portLink (v.reg GNT_GPTP_STATUS.PORT) = true → ∃ u : State,
     u.reg GNT_GPTP_PDELAY.NS = min pd 0xFFFFFFFF ∧ u.reg GNT_GPTP_GM_LO.ID = gm % 2 ^ 32 ∧
     u.reg GNT_GPTP_GM_HI.ID = gm / 2 ^ 32 % 2 ^ 32 ∧
     Touches [GNT_GPTP_PDELAY.NS.key 0, GNT_GPTP_GM_LO.ID.key 0, GNT_GPTP_GM_HI.ID.key 0] v u ∧
     exec (.gptpSync off pd gm) s = .next { u.servo off with pending := s.pending }) ∧
   (v.regB GNT_GPTP_CTRL.SRC = true → exec .syncInEdge s = .next
     { v.servo (secondError v.dtimeNow (v.reg GNT_GPTP_CTRL.STEP_THRESH_US)) with pending := s.pending })) ∧
  (∀ off : Int, 1000 * s.reg GNT_GPTP_CTRL.STEP_THRESH_US < off.natAbs → let t := s.servo off
    t.quartz = { s.quartz with stepPend := s.quartz.stepPend - off } ∧ t.gptpRun = 0 ∧
    t.reg GNT_GPTP_STEPS.COUNT = min (s.reg GNT_GPTP_STEPS.COUNT + 1) (2 ^ 32 - 1)) ∧
  (∀ off : Int, off.natAbs ≤ 1000 * s.reg GNT_GPTP_CTRL.STEP_THRESH_US → let t := s.servo off
    t.quartz = s.quartz ∧ t.gptpRun = (if off.natAbs ≤ 1000 then min 8 (s.gptpRun + 1) else 0) ∧
    t.reg QTZ_DTIME_RATE.RATE =
      unsigned 32 (clampRate (Config.servoRate off (signed 32 (s.reg QTZ_DTIME_RATE.RATE)))) ∧
    (off.natAbs ≤ 1000 → 7 ≤ s.gptpRun → t.reg GNT_GPTP_STATUS.STATE = 2)) ∧
  (∀ d th, let m := d % 10 ^ 9
    secondError d th = if m ≤ 5 * 10 ^ 8 ∨ 1000 * th < 10 ^ 9 - m then (m : Int) else (m : Int) - 10 ^ 9) ∧
  (let port := s.reg GNT_GPTP_STATUS.PORT
   let alt := s.reg GNT_GPTP_CTRL.ALT_PORT
   s.regB GNT_GPTP_CTRL.EN = true → s.regB GNT_GPTP_CTRL.SRC = false → ∃ u v : State,
     u.reg GNT_GPTP_STATUS.STATE = 3 ∧ u.gptpRun = 0 ∧
     Touches [GNT_GPTP_STATUS.STATE.key 0] s { u with gptpRun := s.gptpRun } ∧
     v = u.pfEvent 0x0321 (some port) (unsigned 64 (signed 32 (s.reg GNT_GPTP_OFFSET.NS))) ∧
     (alt = 0xF ∨ alt = port → exec .gptpAnnounceTimeout s = .next v) ∧
     (alt ≠ 0xF → alt ≠ port → exec .gptpAnnounceTimeout s = .next
       { (((v.setReg GNT_GPTP_STATUS.PORT 0 alt).meetFloor (4 + alt)).meetFloor (14 + alt)).pfEvent 0x0323 (some alt)
           (unsigned 64 (signed 32 (s.reg GNT_GPTP_OFFSET.NS))) with pending := s.pending }))

/-- R215, R224 and R226: the operators of a port. BIND_PORT binds it as its fields say, wakes its domains, and
waits until they are ON and the channels and segments are IDLE;
UNBIND gives the pipeline back; SLICE_CONSUME moves the ring's head forward only. -/
def Obligations.PortOperators : Prop := ∀ (s : State) (tag : Nat) (io : OpIo) (o : Op) (e : Sqe),
  let p := e.fld 32 1
  (Runs s tag 0x0101 o e → bit (e.fld 33 1) 0 = false → s.bindError o e = none → ∀ g, s.bindPipe e = some g →
    ∃ u : State, (u.port p).bound = true ∧ (u.port p).binder = o.inst ∧ (u.port p).pipeline = g ∧
      (u.port p).fence = e.fld 36 2 ∧ (u.port p).slots = e.fld 44 2 ∧ (u.port p).sliceUs = e.fld 38 2 ∧
      (u.port p).slotPts = e.fld 48 4 ∧ (u.port p).ringBase = e.fld 56 8 ∧ (u.port p).closed = 0 ∧
      (u.port p).sweepOn = false ∧ u.reg GNT_P_STATUS.PIPELINE (portD p) = g ∧ u.reg GNT_P_SEQ.SEQ (portD p) = 0 ∧
      u.reg GNT_P_HEAD.HEAD (portD p) = 0 ∧ (∀ q, q ≠ p → u.port q = s.port q) ∧
      Tells [GNT_P_STATUS.PIPELINE.key (portD p), GNT_P_STATUS.DESC.key (portD p), GNT_P_SEQ.SEQ.key (portD p),
        GNT_P_HEAD.HEAD.key (portD p), GNT_P_STATUS.STATE.key (portD p)] s { u with ports := s.ports } ∧
      exec (.bindPort tag io) s = .next
        (let result := g + 256 * u.reg GNT_P_STATUS.DESC (portD p)
         let v := ([4 + p, 14 + p, 24 + g].foldl (fun t n => t.wakeOn n 7)
           ((bindDomains p g).foldl State.meetFloor u)).rebalance
         let wait := v.bindWaits p g
         let w : State := if wait.isEmpty then v.finish tag OK (some result) else match v.op? tag with
           | none => v
           | some o => v.setOp tag { o with phase := .held heldDomains (result :: 0 :: wait) }
         { w with pending := s.pending })) ∧
  (Runs s tag 0x0101 o e → bit (e.fld 33 1) 0 = true → p < 10 → (s.port p).bound = true → (s.port p).binder = o.inst →
    o.inst = s.reg GNT_P_CTRL.OWNER (portD p) → e.fld 33 1 < 8 → e.rsv [(54, 2)] = true → ∃ u : State,
      (u.port p).bound = false ∧ u.reg GNT_P_STATUS.PIPELINE (portD p) = 0xF ∧
      exec (.unbind tag io) s = .next
        { u.rebalance.finish tag OK (some ((s.port p).pipeline + 256 * 0xFF)) with pending := s.pending }) ∧
  (Runs s tag 0x0102 o e → p < 10 → o.inst = s.reg GNT_P_CTRL.OWNER (portD p) →
    e.rsv [(33, 7), (48, 16)] = true → e.fld 40 8 ≤ s.reg GNT_P_SEQ.SEQ (portD p) →
    s.reg GNT_P_HEAD.HEAD (portD p) < 2 ^ 64 → ∃ t, exec (.sliceConsume tag io) s = .next t ∧
      t.reg GNT_P_HEAD.HEAD (portD p) = max (s.reg GNT_P_HEAD.HEAD (portD p)) (e.fld 40 8) ∧
      Ended t tag OK (some (max (s.reg GNT_P_HEAD.HEAD (portD p)) (e.fld 40 8) % 2 ^ 32)) none ∧
      Touches [GNT_P_HEAD.HEAD.key (portD p)] s { t with ops := s.ops })

/-- R149 to R151: an event with a DETAIL. With room in the ring it is one 32-byte entry at the ring's tail and a
message on vector 0; in a full ring it is lost and counted, and nothing is written. An event of Topaz, Opal, Amber or
Jasper wakes PCIe and Peridot first (Table 3-4). R148 and R151: messages. The coalescing time-out and an unmasked
pending vector send theirs; EVENTS_LOST is written once there is room. -/
def Obligations.EventDelivery : Prop :=
  (∀ (s : State) (n : Nat) (e : Event) (d : Nat), n < 16 → e.detail = some d →
   s.canDma n = true → s.regB INST_CTRL.EN (winD n) = true →
   let i := s.inst n
   let v := if ringWakes e.code then s.wakeRing else s
   let t := s.event n e
   (s.evtUsed n ≠ s.evtSize n → i.lostSince = 0 → (s.msixEntry n 0).masked = false →
     t.out = s.out ++ [.dma n (s.reg64 INST_EVT_BASE_LO.ADDR INST_EVT_BASE_HI.ADDR (winD n) / 4096 * 4096
       + 32 * (i.evtTail % s.evtSize n)) (leBytes 2 e.code ++ leBytes 1 n
         ++ leBytes 1 (if i.evtTail / s.evtSize n % 2 = 0 then 1 else 0) ++ leBytes 4 d ++ leBytes 8 s.dtimeNow
         ++ leBytes 8 e.arg ++ leBytes 1 e.qp ++ [0] ++ leBytes 2 e.tag ++ leBytes 4 i.evtTail) [], .msix n 0] ∧
     t.inst n = { i with evtTail := (i.evtTail + 1) % 2 ^ 32, sbDirty := true } ∧
     t = { v with out := t.out, insts := t.insts }) ∧
   (s.evtUsed n ≠ s.evtSize n → i.lostSince = 0 → (s.msixEntry n 0).masked = true →
     (t.msixEntry n 0).pending = true ∧ t.out.length = s.out.length + 1) ∧
   (s.evtUsed n = s.evtSize n →
      s.regB AMB_CTRL.SAT_EVT_EN = false ∨ s.reg INST_EVT_LOST.COUNT (winD n) + 1 < 2 ^ 32 - 1 → t.out = s.out ∧
     t.inst n = { i with lostSince := i.lostSince + 1 } ∧
     t.reg INST_EVT_LOST.COUNT (winD n) = min (s.reg INST_EVT_LOST.COUNT (winD n) + 1) (2 ^ 32 - 1) ∧
     t = { v with insts := t.insts, sats := t.sats, regs := t.regs } ∧ RegsBut [lostKey n] v t)) ∧
  (∀ s : State,
   (∀ q, q < 64 → s.qpInst q < 16 → s.running = true → (s.qp q).intrCount ≠ 0 → s.reg QP_COAL.TIME_US (qpD q) ≠ 0 →
     let n := s.qpInst q
     let v := vecOf n (s.reg QP_VEC.VEC (qpD q))
     ∃ t, exec (.interruptCoalesceTimeout q) s = .next t ∧ t.qp q = { s.qp q with intrCount := 0 } ∧
       ((s.msixEntry n v).masked = false → t = { s with out := s.out ++ [.msix n v], qps := t.qps }) ∧
       ((s.msixEntry n v).masked = true → (t.msixEntry n v).pending = true ∧ t = { s with msix := t.msix, qps := t.qps })) ∧
   (∀ n v, n < 16 → v < vectors n → s.power.on = true → s.linked n = true → ∃ t, exec (.msixUnmask n v) s = .next t ∧
     t.msixEntry n v = { s.msixEntry n v with masked := false, pending := false } ∧
     t = { s with msix := t.msix, out := s.out ++ if (s.msixEntry n v).pending then [.msix n v] else [] }) ∧
   (∀ n, n < 16 → s.canDma n = true → s.regB INST_CTRL.EN (winD n) = true → s.evtUsed n ≠ s.evtSize n →
     ((s.inst n).lostSince = 0 → exec (.eventsLost n) s = .next s) ∧
     ((s.inst n).lostSince ≠ 0 → ∃ t, exec (.eventsLost n) s = .next t ∧ (t.inst n).lostSince = 0 ∧
       (t.inst n).evtTail = ((s.inst n).evtTail + 1) % 2 ^ 32 ∧ Tells [] s t ∧ t.regs = s.regs)))

/-- R142 to R145 and R132: polls, kicks and Peridot's depths. A poll reads the doorbell block of every instance that
has an enabled queue pair; a kick by the owner reads its own and brings the link and Peridot up; another instance's
kick is dropped. An URGENT flag keeps Peridot Active. R142, R144 and R154: a doorbell block that has been read is
applied entry by entry, then entries are fetched in order; a read with an error faults the instance's queue pairs. A
later TAIL with the current EPOCH is taken, one with another EPOCH is not, and one beyond the ring is a ring fault. -/
def Obligations.Submissions : Prop :=
  (∀ s : State, s.running = true →
   (∃ t, exec .doorbellPoll s = .next t ∧ t = { s with out := s.out ++
     ((allInsts.filter s.polled).map fun n => .hostRead n (s.dbBase n) 512) }) ∧
   (s.reg QTZ_STATUS.DEPTH = 0 → (s.urgentStands = true → exec .peridotIdle s = .next s) ∧
     (s.urgentStands = false → ∃ t, exec .peridotIdle s = .next t ∧ t.reg QTZ_STATUS.DEPTH = 1 ∧
       t = { s with out := t.out, insts := t.insts, regs := t.regs, domains := t.domains } ∧
       (∀ m, m ≠ 234 → m ≠ 235 → t.dom m = s.dom m) ∧ RegsBut [QTZ_STATUS.DEPTH.key 0] s t)) ∧
   (s.reg QTZ_STATUS.DEPTH = 1 → s.reg PDT_IDLE_HOLD.MS ≠ 0xFFFF → ∃ t, exec .peridotDeep s = .next t ∧
     t.reg QTZ_STATUS.DEPTH = 2 ∧ t = { s with out := t.out, insts := t.insts, regs := t.regs } ∧
     RegsBut [QTZ_STATUS.DEPTH.key 0] s t) ∧
   (∀ n w q, n < 16 → w < 16 → q < 64 → s.linked n = true →
     (n = w → s.canDma n = true → ∃ t, exec (.instKick n w q) s = .next t ∧ t.reg QTZ_STATUS.DEPTH = 0 ∧
       t.out.getLast? = some (.hostRead n (s.dbBase n) 512) ∧
       t = { s with out := t.out, insts := t.insts, regs := t.regs, domains := t.domains,
                    pcie := { s.pcie with aspm := t.pcie.aspm } } ∧
       (s.reg QTZ_STATUS.DEPTH ≠ 0 → t.pcie.aspm = 0) ∧ (∀ m, m ∉ ringDomains → t.dom m = s.dom m) ∧
       RegsBut (QTZ_STATUS.DEPTH.key 0 :: ringDomains.map fun m => QTZ_DOM.CANCEL.key (domD m)) s t) ∧
     (n ≠ w → ∃ t, exec (.instKick n w q) s = .next t ∧ t.reg PDT_STATUS.CFG_ERR = 1 ∧
       bit (t.reg GBL_ERR_SUMMARY.CFG_ERR) 4 = true ∧
       Touches [PDT_STATUS.CFG_ERR.key 0, GBL_ERR_SUMMARY.CFG_ERR.key 0] s t))) ∧
  (∀ (s : State) (n : Nat) (data : Bytes), n < 16 →
   (s.running = true → s.linked n = true →
     exec (.doorbellReadComplete n data true) s = .next
       (let v := allQps.foldl (fun t q => t.doorbell n q data) s
        { ((v.fetchOrder.foldl State.issueFetch v).noteStall).flushSb n with pending := s.pending }) ∧
     exec (.doorbellReadComplete n data false) s = .next
       { (allQps.foldl (fun t q => if t.qpLive q && t.qpInst q == n then t.qpFault q 2 else t) s).flushSb n with
         pending := s.pending }) ∧
   (∀ q, q < 64 →
     let tail := fieldLE data (8 * q) 4
     let urgent := bit (fieldLE data (8 * q + 6) 2) 0
     (s.qpLive q = true → s.qpInst q = n → s.regB QP_STATUS.FLUSH_BUSY (qpD q) = false →
       fieldLE data (8 * q + 4) 2 = s.reg QP_STATUS.EPOCH (qpD q) → laterThan 32 tail (s.reg QP_SQ_HEAD.HEAD (qpD q)) = true →
       (wrapDist 32 tail (s.reg QP_SQ_HEAD.HEAD (qpD q)) ≤ s.sqSize q →
         (s.doorbell n q data).qp q = { s.qp q with tail := tail, urgent := urgent } ∧
         (s.doorbell n q data).reg QTZ_STATUS.DEPTH = 0) ∧
       (s.sqSize q < wrapDist 32 tail (s.reg QP_SQ_HEAD.HEAD (qpD q)) →
         (s.doorbell n q data).reg QP_STATUS.STATE (qpD q) = 3 ∧ ((s.doorbell n q data).qp q).tail = (s.qp q).tail)) ∧
     (s.qpLive q = false ∨ s.qpInst q ≠ n ∨ s.regB QP_STATUS.FLUSH_BUSY (qpD q) = true ∨
       fieldLE data (8 * q + 4) 2 ≠ s.reg QP_STATUS.EPOCH (qpD q) → s.doorbell n q data = s)))

/-- R135, R146, R155, R161 to R163 and Table 6-3: a fetched single entry takes its tag, and its checks and its wait
fence say how it begins. -/
def Obligations.EntryFetched : Prop := ∀ (s : State) (q tag : Nat) (b : Bytes), q < 64 → s.qpInst q < 16 →
  s.mayFetch q = true → s.tagFor (s.qpInst q) = true → s.tagLeft q = true → s.op? tag = none → tag < 32768 → s.backlog q ≠ 0 →
  let e := parseSqe b
  let n := s.qpInst q
  e.chain = false → ∃ (u : State) (o : Op), exec (.sqeFetched q tag [b] true) s = .next { u.flushSb n with pending := s.pending } ∧
    u.op? tag = some o ∧ o.qp = q ∧ o.inst = n ∧ o.idx = 0 ∧ o.seq = s.opSeq ∧
    u.reg QP_SQ_HEAD.HEAD (qpD q) = (s.reg QP_SQ_HEAD.HEAD (qpD q) + 1) % 2 ^ 32 ∧
    u.opSeq = s.opSeq + 1 ∧ (∀ x, x ≠ tag → u.op? x = s.op? x) ∧
    u.qp q = { s.qp q with served := s.opSeq + 1 } ∧ (∀ k, k ≠ q → u.qp k = s.qp k) ∧
    Tells [QP_SQ_HEAD.HEAD.key (qpD q), PDT_FETCH_CNT.COUNT.key 0, PDT_TAG_STALL_CNT.COUNT.key 0] s
      { u with ops := s.ops, opSeq := s.opSeq, qps := s.qps, tagStall := s.tagStall } ∧
    (∀ st, s.checkSqe n e = some st →
      o.phase = .done st none none ∧ o.members = [{ e with signalFence := noFence }]) ∧
    (s.checkSqe n e = none → o.members = [e] ∧
      let f := s.fence e.waitFence
      (e.waitFence = noFence → o.phase = .started) ∧
      (e.waitFence ≠ noFence → f.error = true → e.ignoreErr = false →
        o.phase = .done ABORT_FENCE_ERROR (some e.waitFence) none) ∧
      (e.waitFence ≠ noFence → (f.error = false ∨ e.ignoreErr = true) → e.waitValue ≤ f.value →
        o.phase = .started ∧ o.startValue = f.value) ∧
      (e.waitFence ≠ noFence → (f.error = false ∨ e.ignoreErr = true) → f.value < e.waitValue → o.phase = .waiting))

/-- R139, R141, R146, R160 and R161: an operation of one entry that has ended leaves with its 16-byte completion
entry at the ring's tail, its fence is raised to its value, and its tag is free. In a chain, the next member is
dispatched after one without error, and nothing is written. -/
def Obligations.OperationCompletes : Prop := ∀ (s : State) (tag : Nat) (o : Op) (status : Nat), s.running = true →
  s.op? tag = some o → o.qp < 64 → o.inst < 16 → s.qpInst o.qp < 16 →
  s.regB INST_STATUS.RESET_BUSY (winD o.inst) = false →
  (∀ e r d, o.members = [e] → o.idx = 0 → o.phase = .done status (some r) (some d) →
    s.canDma (s.qpInst o.qp) = true → s.reg QP_STATUS.STATE (qpD o.qp) ≠ 3 →
    ∃ t, exec (.operationComplete tag ⟨true, []⟩) s = .next t ∧ t.op? tag = none ∧
      ((s.qp o.qp).aborts = [] →
        t.reg QP_CQ_TAIL.TAIL (qpD o.qp) = (s.reg QP_CQ_TAIL.TAIL (qpD o.qp) + 1) % 2 ^ 32) ∧
      (∀ x, x ≠ tag → (t.op? x).isSome = (s.op? x).isSome) ∧
      (e.signalFence ≠ noFence → s.isSliceFence e.signalFence = false →
        t.fence e.signalFence = ⟨max (s.fence e.signalFence).value e.signalValue,
          (s.fence e.signalFence).error || decide (0x0100 ≤ status)⟩) ∧
      (e.signalFence = noFence → t.fences = s.fences) ∧
      .dma (s.qpInst o.qp) (s.reg64 QP_CQ_BASE_LO.ADDR QP_CQ_BASE_HI.ADDR (qpD o.qp) / 4096 * 4096
          + 16 * (s.reg QP_CQ_TAIL.TAIL (qpD o.qp) % s.cqSize o.qp))
        (cqeBytes e.hostTag status o.qp (s.qpInst o.qp) r d
          (if s.reg QP_CQ_TAIL.TAIL (qpD o.qp) / s.cqSize o.qp % 2 = 0 then 1 else 0)) [] ∈ t.out) ∧
  (∀ r d, 2 ≤ o.members.length → o.idx + 1 < o.members.length → o.phase = .done status r d → status < 0x0100 →
    o.cut = false → ∃ p : Op, (∃ t, exec (.operationComplete tag ⟨true, []⟩) s = .next t ∧ t.op? tag = some p ∧
      ∀ q < 64, t.reg QP_CQ_TAIL.TAIL (qpD q) = s.reg QP_CQ_TAIL.TAIL (qpD q)) ∧
      p.idx = o.idx + 1 ∧ p.worst = max o.worst status ∧ p.qp = o.qp ∧ p.inst = o.inst ∧
      p.members.length = o.members.length)

/-- R152, R154, R156, R169 and Table 6-14: queue pairs. Enabling restarts the rings; disabling waits for what is in flight; a
priority is in force when written; a flush counts the EPOCH, aborts what waits and cuts the chains that run, and a
second one meanwhile is dropped; an error on its reads faults the queue pair. -/
def Obligations.QueuePairs : Prop := ∀ (s : State) (q : Nat), q < 64 → s.running = true →
  (s.regB QP_CTRL.EN (qpD q) = false → ∃ t, exec (.qpEnable q) s = .next t ∧ t.reg QP_CTRL.EN (qpD q) = 1 ∧
    t.reg QP_STATUS.STATE (qpD q) = 1 ∧ t.reg QP_SQ_HEAD.HEAD (qpD q) = 0 ∧ t.reg QP_CQ_TAIL.TAIL (qpD q) = 0 ∧
    t.qp q = qpReset ∧ t = { s with insts := t.insts, qps := t.qps, regs := t.regs } ∧
    RegsBut [QP_CTRL.EN.key (qpD q), QP_STATUS.STATE.key (qpD q), QP_SQ_HEAD.HEAD.key (qpD q),
      QP_CQ_TAIL.TAIL.key (qpD q)] s t) ∧
  (s.regB QP_CTRL.EN (qpD q) = true → exec (.qpEnable q) s = .next s ∧ ∃ t, exec (.qpDisable q) s = .next t ∧
    t.reg QP_CTRL.EN (qpD q) = 0 ∧ t.reg QP_STATUS.STATE (qpD q) =
      (if s.reg QP_STATUS.STATE (qpD q) = 3 then 3 else if s.inflight q = 0 then 0 else 2) ∧
    Touches [QP_CTRL.EN.key (qpD q), QP_STATUS.STATE.key (qpD q)] s t) ∧
  (∀ p, p < 8 → ∃ t, exec (.qpPrioWrite q p) s = .next t ∧ t.reg QP_CTRL.PRIO (qpD q) = p ∧
    Touches [QP_CTRL.PRIO.key (qpD q)] s t) ∧
  (s.regB QP_STATUS.FLUSH_BUSY (qpD q) = true → (s.qp q).flushRead = none → ∀ fe tail es ok, ∃ u : State,
    exec (.qpFlush q fe ⟨tail, ok⟩ es) s = .next (u.flushSb (s.qpInst q)) ∧ u.reg QP_STATUS.CFG_ERR (qpD q) = 1 ∧
    bit (u.reg GBL_ERR_SUMMARY.CFG_ERR) 5 = true ∧
    Touches [QP_STATUS.CFG_ERR.key (qpD q), GBL_ERR_SUMMARY.CFG_ERR.key 0] s u) ∧
  (∀ fe tail es, s.regB QP_STATUS.FLUSH_BUSY (qpD q) = false ∨ (s.qp q).flushRead ≠ none →
    ∃ t, exec (.qpFlush q fe ⟨tail, false⟩ es) s = .next t ∧ t.reg QP_STATUS.STATE (qpD q) = 3) ∧
  (∀ tail (es : List Bytes), s.qpLive q = true → s.qpInst q < 16 → s.regB QP_STATUS.FLUSH_BUSY (qpD q) = false →
    (s.qp q).flushRead = none → laterThan 32 tail (s.reg QP_SQ_HEAD.HEAD (qpD q)) = true →
    wrapDist 32 tail (s.reg QP_SQ_HEAD.HEAD (qpD q)) = es.length → es.length ≤ s.sqSize q →
    ∃ t, exec (.qpFlush q false ⟨tail, true⟩ es) s = .next t ∧
      t.reg QP_STATUS.EPOCH (qpD q) = (s.reg QP_STATUS.EPOCH (qpD q) + 1) % 2 ^ 16 ∧
      ∀ tag o, s.op? tag = some o →
        (o.qp ≠ q → t.op? tag = some o) ∧
        (o.qp = q → o.phase = .waiting → o.idx < o.members.length → ∃ p, t.op? tag = some p ∧
          p.phase = .done ABORT_FLUSH none none ∧ p.members.length = o.members.length) ∧
        (o.qp = q → o.phase ≠ .waiting → o.members.length ≤ o.idx + 1 → t.op? tag = some o) ∧
        (o.qp = q → o.phase ≠ .waiting → o.idx + 1 < o.members.length → ∃ p, t.op? tag = some p ∧
          p.phase = o.phase ∧ p.cut = true ∧ p.members.take (o.idx + 1) = o.members.take (o.idx + 1)))

/-- R24, R136, R167 to R170, R263 and R370: a round of an arbiter. The requests that arrived are queued, and holders
that have released are gone; a resource that is held stays held; otherwise a request that no other goes before is
granted (an URGENT queue pair first, then the priority, inherited from those queued for what its owner holds, then the
longest wait), and Amber counts its wait at that priority. R174 to R177: what the walk that a long wait starts does at
its end. A circle ends its victim with ABORT_DEADLOCK, the fence and the number of members in RESULT; nothing else but
the time of the walk changes where it finds a signaller at work. The waiters are taken in the order in which their
waits began. -/
def Obligations.Arbitration : Prop :=
  (∀ (s : State) (a : Arbiter) (arrived : List ArbReq) (released : List ArbOwner)
   (gclk : Nat), s.power.on = true → a.unit.1 < a.unit.2 →
   (arrived.all fun r => r.owner.unit.1 < r.owner.unit.2) = true → s.inTick gclk = true →
   let u := s.atGclk gclk
   let c := u.arbRound a arrived released
   let v : State := { u with arbs := SMap.put u.arbs (arbKey a) c arbReset }
   (c.holders ≠ [] ∨ c.queue = [] → exec (.arbiterGrant a ⟨arrived, released, gclk⟩) s = .next v) ∧
   (c.holders = [] → c.queue ≠ [] → ∃ r ∈ c.queue, (∀ x ∈ c.queue, v.arbBefore x r = false) ∧
     ∃ t, exec (.arbiterGrant a ⟨arrived, released, gclk⟩) s = .next t ∧
       (let all := r :: v.grantedWith a c.queue r
        t.arb a = ⟨if heldArb a then all.map (·.req.owner) else [], c.queue.filter fun q => !all.contains q⟩ ∧
        ∀ q ∈ all, .granted a q.req.id ∈ t.out) ∧
       ((∀ k, a ≠ .berylLock k) →
         let p := v.arbPrio r
         t.reg AMB_WAIT_MAX.NS (4 * p) =
           max (s.reg AMB_WAIT_MAX.NS (4 * p)) (min (v.uptime - r.since) 0xFFFFFFFF) % 2 ^ AMB_WAIT_MAX.NS.w ∧
         Tells [AMB_WAIT_NS.NS.key (8 * p), AMB_WAIT_MAX.NS.key (4 * p)] v { t with arbs := v.arbs }))) ∧
  (∀ (s : State) (tag : Nat) (o : Op), s.running = true →
   s.regB OPL_CTRL.DL_EN = true → s.op? tag = some o → s.walkDue o = true → s.walkFirst o = true →
   let v := s.setOp tag { o with walkAt := s.ticks }
   (v.walk [tag] tag 64 = .nothing → exec (.deadlockWalk tag) s = .next v) ∧
   (∀ tags w p f, v.walk [tag] tag 64 = .circle tags → v.victim tags = some (w, p) → v.op? w = some p →
     p.sqe?.map (·.waitFence) = some f → f < 2 ^ 16 → tags.length < 2 ^ 8 →
     ∃ t, exec (.deadlockWalk tag) s = .next t ∧
       Ended t w ABORT_DEADLOCK (some (f + 2 ^ 16 * tags.length)) (some (if p.members.length ≤ 1 then 0 else p.idx)) ∧
       t.reg OPL_DL_CNT.COUNT = min (s.reg OPL_DL_CNT.COUNT + 1) (2 ^ 32 - 1) ∧
       (∀ x, x ≠ w → t.op? x = v.op? x) ∧ Tells [OPL_DL_CNT.COUNT.key 0] s { t with ops := s.ops }) ∧
   (v.walk [tag] tag 64 = .limit → ∃ t, exec (.deadlockWalk tag) s = .next t ∧ t.ops = v.ops ∧
     t.reg OPL_DL_LIMIT_CNT.COUNT = min (s.reg OPL_DL_LIMIT_CNT.COUNT + 1) (2 ^ 32 - 1)))

/-- R160, R162 to R164, R173 and R178: OPL_FENCE_CTRL with one action signals the selected fence, marks it, or clears
its mark; the operations that wait on it start, or end, by its new value; with two actions nothing happens but
CFG_ERR. Signals of one NCLK cycle leave the largest value and any error (R173, Table 7-4). R380, R383 to R385: NOP,
FENCE_WAIT and FENCE_SIGNAL. -/
def Obligations.FencesAndControl : Prop :=
  (∀ (s : State) (v : Nat), s.running = true →
   let f := s.reg OPL_FENCE_SEL.INDEX
   let arg := s.reg64 OPL_FENCE_ARG_LO.ARG OPL_FENCE_ARG_HI.ARG
   let old := s.fence f
   let woken (t : State) : Prop := ∀ tag o e, s.op? tag = some o → o.sqe? = some e →
     (o.phase ≠ .waiting ∨ e.waitFence ≠ f → t.op? tag = some o) ∧
     (o.phase = .waiting → e.waitFence = f → (t.fence f).error = true → e.ignoreErr = false →
       t.op? tag = some { o with phase := .done ABORT_FENCE_ERROR (some f) none }) ∧
     (o.phase = .waiting → e.waitFence = f → (t.fence f).error = false ∨ e.ignoreErr = true →
       t.op? tag = some (if e.waitValue ≤ (t.fence f).value
         then { o with phase := .started, startValue := (t.fence f).value } else o))
   (bit v 1 = true → bit v 2 = false → bit v 3 = false → f ≠ noFence → s.isSliceFence f = false →
     ∃ t, exec (.oplFenceSignal ⟨v, []⟩) s = .next t ∧ t.fence f = ⟨max old.value arg, old.error⟩ ∧ woken t ∧
       (∀ g, g ≠ f → t.fence g = s.fence g) ∧
       (old.value ≤ arg → t = { s with fences := t.fences, ops := t.ops }) ∧
       (arg < old.value → t.reg OPL_REGRESS_CNT.COUNT = min (s.reg OPL_REGRESS_CNT.COUNT + 1) (2 ^ 32 - 1) ∧
         Tells [OPL_REGRESS_CNT.COUNT.key 0] s { t with fences := s.fences, ops := s.ops })) ∧
   (bit v 1 = false → bit v 2 = true → bit v 3 = false → ∃ t, exec (.oplFenceSetErr ⟨v, []⟩) s = .next t ∧
     t.fence f = ⟨old.value, true⟩ ∧ woken t ∧ t = { s with fences := t.fences, ops := t.ops }) ∧
   (bit v 1 = false → bit v 2 = false → bit v 3 = true → ∃ t, exec (.oplFenceClearErr ⟨v, []⟩) s = .next t ∧
     t.fence f = ⟨old.value, false⟩ ∧ t = { s with fences := t.fences }) ∧
   (bit v 1 = true → bit v 2 = true ∨ bit v 3 = true → ∃ t, exec (.oplFenceSignal ⟨v, []⟩) s = .next t ∧
     t.reg OPL_STATUS.CFG_ERR = 1 ∧ bit (t.reg GBL_ERR_SUMMARY.CFG_ERR) 6 = true ∧
     Touches [OPL_STATUS.CFG_ERR.key 0, GBL_ERR_SUMMARY.CFG_ERR.key 0] s t) ∧
   (∀ ups g, let t := s.sameCycle ups
     (t.fence g).error = ((s.fence g).error || ups.any fun u => u.1 == g && u.2.2) ∧
     (t.fence g).value = (ups.filter (·.1 == g)).foldl (fun m u => max m u.2.1) (s.fence g).value)) ∧
  (∀ (s : State) (tag : Nat) (io : OpIo) (o : Op) (e : Sqe),
   (Runs s tag 0x0001 o e → e.rsv [(32, 32)] = true → ∃ t, exec (.nop tag io) s = .next t ∧
     Ended t tag OK (some 0) (some 0) ∧ t = { s with ops := t.ops }) ∧
   (Runs s tag 0x0003 o e → e.rsv [(32, 32)] = true → ∃ t, exec (.fenceWait tag io) s = .next t ∧
     Ended t tag OK (some (o.startValue % 2 ^ 32)) none ∧ t = { s with ops := t.ops }) ∧
   (Runs s tag 0x0002 o e → e.fld 32 1 = 0 → e.rsv [(33, 31)] = true → e.signalFence = noFence →
     ∃ t, exec (.fenceSignal tag io) s = .next t ∧ Ended t tag OK none none ∧ t = { s with ops := t.ops }) ∧
   (Runs s tag 0x0002 o e → e.fld 32 1 < 3 → e.rsv [(33, 31)] = true → e.signalFence ≠ noFence →
     s.isSliceFence e.signalFence = false → let old := s.fence e.signalFence
     ∃ t, exec (.fenceSignal tag io) s = .next t ∧
       t.fence e.signalFence = ⟨max old.value e.signalValue, (old.error && e.fld 32 1 != 1) || e.fld 32 1 == 2⟩ ∧
       Ended t tag OK (some (max old.value e.signalValue % 2 ^ 32)) none ∧
       (∀ g, g ≠ e.signalFence → t.fence g = s.fence g) ∧
       Tells [OPL_REGRESS_CNT.COUNT.key 0] s { t with fences := s.fences, ops := s.ops }))

/-- R179 to R183: SET_MODE stages a mode and its handler, and they are in force at once where no item of the function
is open; values that wait come into force when the last item has closed. A SET_MODE of F0 waits for every bound port.
R185 to R189: an operation's handoff. A reply that answers it and is good lets the operator go on with it; a rejection
ends the operation with ERR_MODE; its time-out lets the operator go on as in hardware mode, and is counted. A reply
that answers nothing is late. -/
def Obligations.HostAssistance : Prop :=
  (∀ s : State,
   (∀ tag io o e, Runs s tag 0x0011 o e → o.inst = 0 → let n := e.fld 32 1
     n ≤ 12 → e.fld 33 1 ≤ 1 → e.fld 34 1 < 16 → e.rsv [(35, 29)] = true →
     e.fld 33 1 = 0 ∨ s.regB HO_CTRL.EN (winD (e.fld 34 1)) = true →
     (s.itemOpen n = false → n ≠ 0 ∨ (s.ports.any fun p => p.2.bound) = false → ∃ t, exec (.setMode tag io) s = .next t ∧
       t.reg MODE_F.MODE (4 * n) = e.fld 33 1 ∧ t.reg MODE_F.HANDLER (4 * n) = e.fld 34 1 ∧
       Ended t tag OK (some (e.fld 33 1 + 16 * e.fld 34 1)) none ∧
       t = { s with staged := t.staged, regs := t.regs, ops := t.ops } ∧
       RegsBut [ MODE_F.MODE.key (4 * n), MODE_F.HANDLER.key (4 * n)] s t) ∧
     (s.itemOpen n = true ∨ n = 0 ∧ (s.ports.any fun p => p.2.bound) = true → ∃ t, exec (.setMode tag io) s = .next t ∧
       t.op? tag = some { o with phase := .held heldMode (n :: s.modePorts n) } ∧ t.regRead MODE_F.MODE (4 * n) = e.fld 33 1 ∧
       t.regRead MODE_F.HANDLER (4 * n) = e.fld 34 1 ∧ t = { s with staged := t.staged, ops := t.ops })) ∧
   (∀ n m h, n < 13 → s.running = true → s.itemOpen n = false → n ≠ 0 ∨ (s.ports.any fun p => p.2.bound) = false →
     SMap.get? s.staged (MODE_F.MODE.key (4 * n)) = some m → SMap.get? s.staged (MODE_F.HANDLER.key (4 * n)) = some h →
     m < 2 → h < 16 → ∃ t, exec (.modeStagedApply n) s = .next t ∧ t.reg MODE_F.MODE (4 * n) = m ∧
       t.reg MODE_F.HANDLER (4 * n) = h ∧ t.modeStaged n = false ∧
       (∀ tag o, s.op? tag = some o → o.phase = .held heldMode [n] → Ended t tag OK (some (m + 16 * h)) none) ∧
       t = { s with staged := t.staged, regs := t.regs, ops := t.ops } ∧
       RegsBut [ MODE_F.MODE.key (4 * n), MODE_F.HANDLER.key (4 * n)] s t)) ∧
  (∀ (s : State) (n id : Nat) (entry data : Bytes), n < 16 →
   let found := s.handoffs.find? fun h => h.inst == n && h.id == id
   (fieldLE entry 0 4 = id → s.canDma n = true → s.regB HO_CTRL.EN (winD n) = true →
     s.reg HO_RPL_TAIL.TAIL (winD n) ≠ s.reg HO_RPL_HEAD.HEAD (winD n) → ∀ ok,
     ∃ t, exec (.handoffReply n entry data ok) s = .next t ∧
       (found = none → t.handoffs = s.handoffs ∧
         t.reg HO_RPL_HEAD.HEAD (winD n) = (s.reg HO_RPL_HEAD.HEAD (winD n) + 1) % 2 ^ 32 ∧
         t.reg HO_LATE_CNT.COUNT (winD n) = min (s.reg HO_LATE_CNT.COUNT (winD n) + 1) (2 ^ 32 - 1)) ∧
       (∀ h tag o, found = some h → h.tag = some tag → s.op? tag = some o → h.func < 13 → fieldLE entry 4 1 ≠ 0 ∨
           ok = true ∧ fieldLE entry 8 8 % 64 = 0 ∧ (fieldLE entry 8 8 = 0 → data = []) ∧
             data.length = fieldLE entry 16 4 →
         t.handoffs = s.handoffs.filter (· != h) ∧
         t.reg HO_RPL_HEAD.HEAD (winD n) = (s.reg HO_RPL_HEAD.HEAD (winD n) + 1) % 2 ^ 32 ∧
         (fieldLE entry 4 1 = 0 →
           t.op? tag = some { o with phase := .started, reply := some (some (entry ++ leBytes 1 n, data)) }) ∧
         (fieldLE entry 4 1 = 2 → Ended t tag ERR_MODE none none) ∧
         (fieldLE entry 4 1 = 1 → t.op? tag = some { o with phase := .started, reply := some none }))) ∧
   (∀ h tag o, found = some h → h.tag = some tag → s.op? tag = some o → s.running = true → h.func < 13 →
     ∃ t, exec (.handoffTimeout n id) s = .next t ∧ t.handoffs = s.handoffs.filter (· != h) ∧
       t.op? tag = some { o with phase := .started, reply := some none } ∧
       t.reg MODE_TMO_CNT.COUNT (4 * h.func) = min (s.reg MODE_TMO_CNT.COUNT (4 * h.func) + 1) (2 ^ 32 - 1) ∧
       t.mem = s.mem ∧ t.fences = s.fences) ∧
   (s.running = true → s.regB HO_CTRL.EN (winD n) = true → ∃ u : State, u.reg HO_CTRL.EN (winD n) = 0 ∧
     Touches [HO_CTRL.EN.key (winD n)] s u ∧
     exec (.handoffDisable n none) s = .next { (u.hoPending n).foldl State.expire u with pending := s.pending } ∧
     ∀ w, w = 1 ∨ w = 2 → exec (.handoffDisable n (some w)) s = .next
       { ((u.hoPending n).foldl State.expire u).event n { code := 0x0A21, detail := some w } with pending := s.pending }))

/-- R192 to R196: Jasper's channels. The first write of a bound master claims an idle channel; GO sends the message
and counts it; the receiver's read of D15 takes it; a claimant's RELEASE ends its claim, the other end's does nothing. A
write by a master that is not bound, or to a channel that is full or claimed by the other end, is dropped, counted, and
reported. -/
def Obligations.JasperChannels : Prop := ∀ (s : State) (m c : Nat), isMaster m = true → c < 32 → s.jspReach c m = true →
  let d := chanD c
  let dropped (t : State) : Prop := t.reg JSP_STATUS.CFG_ERR d = 1 ∧
    t.reg JSP_DROP_CNT.COUNT d = min (s.reg JSP_DROP_CNT.COUNT d + 1) (2 ^ 32 - 1) ∧
    Tells [JSP_STATUS.CFG_ERR.key d, GBL_ERR_SUMMARY.CFG_ERR.key 0, JSP_DROP_CNT.COUNT.key d] s t
  let free := s.chanBound c m = true ∧ s.regB JSP_CTRL.FULL d = false ∧
    (s.regB JSP_CTRL.CLAIMED d = false ∨ s.reg JSP_CTRL.SRC d = m)
  (∀ w v, w < 16 → ∃ t, exec (.jspDataWrite m c w v) s = .next t ∧ (¬free → dropped t) ∧
    (free → t.reg JSP_D.DATA (d + 4 * w) = v % 2 ^ 32 ∧ t.regB JSP_CTRL.CLAIMED d = true ∧ t.reg JSP_CTRL.SRC d = m ∧
      Touches [JSP_D.DATA.key (d + 4 * w), JSP_CTRL.CLAIMED.key d, JSP_CTRL.SRC.key d] s t)) ∧
  (¬free → ∃ t, exec (.jspGo m c) s = .next t ∧ dropped t) ∧
  (free → ∃ u : State, u.reg JSP_CTRL.FULL d = 1 ∧ u.reg JSP_CTRL.CLAIMED d = 0 ∧ u.reg JSP_CTRL.SRC d = m ∧
    u.reg JSP_CTRL.ABORTED d = 0 ∧
    Tells [JSP_CTRL.FULL.key d, JSP_CTRL.CLAIMED.key d, JSP_CTRL.SRC.key d, JSP_CTRL.ABORTED.key d,
      JSP_MSG_CNT.COUNT.key d] s u ∧
    exec (.jspGo m c) s = .next { u.jspNotify c (s.otherEnd c m) 0x0A10 with pending := s.pending } ∧
    (s.otherEnd c m < 16 →
      exec (.jspGo m c) s = .next (u.event (s.otherEnd c m) { code := 0x0A10, detail := some c }))) ∧
  (s.boundTo c m = false → ∃ t, exec (.jspRelease m c) s = .next t ∧ dropped t) ∧
  (s.boundTo c m = true → s.regB JSP_CTRL.CLAIMED d = true → s.reg JSP_CTRL.SRC d = m → ∃ t, exec (.jspRelease m c) s = .next t ∧
    t.reg JSP_CTRL.CLAIMED d = 0 ∧ Touches [JSP_CTRL.CLAIMED.key d] s t) ∧
  (s.boundTo c m = true → s.regB JSP_CTRL.CLAIMED d = false ∨ s.reg JSP_CTRL.SRC d ≠ m →
    exec (.jspRelease m c) s = .next s) ∧
  (s.regB JSP_CTRL.FULL d = true → s.boundTo c m = true → m ≠ s.reg JSP_CTRL.SRC d → ∃ u : State,
    u.reg JSP_CTRL.FULL d = 0 ∧ Touches [JSP_CTRL.FULL.key d] s u ∧
    (s.reg JSP_CTRL.SRC d < 16 → exec (.jspD15Read m c) s =
      .next (u.event (s.reg JSP_CTRL.SRC d) { code := 0x0A11, detail := some c })) ∧
    (16 ≤ s.reg JSP_CTRL.SRC d → exec (.jspD15Read m c) s = .next u))

/-- R232 to R235: MOTION_COMP on a closed slice in hardware mode of F0, and POSE_WAIT_TIMEOUT, after which the
operator no longer waits. The pose is searched among the ring's entries, newest first, by TIME: between two entries it
is interpolated where their gap allows it, after the newest it waits or is extrapolated within its limits, and else it
is stale. With a pose every point is transformed and stored at DST; a stale pose stores nothing and completes with
OK_WITH_DROPS; a wait holds the operation. R236 to R238: VOXELISE. Every point goes to the voxel of its coordinates
over the edge, or is dropped; the voxels stand in the order of their first points, one for each key, and count every
point that was not dropped; each is inserted into the table, and one record each is stored where the records are kept.
-/
def Obligations.MotionAndVoxels : Prop :=
  (∀ s : State, s.sound →
   (∀ (l : PoseLimits) (t : Nat) (es : List Bytes),
     es = s.poseEntries.map (fun k => s.peek (s.localAddr (s.poseOff k)) 64) →
     (es = [] → ((mx s).poseAt l t).1 = if l.wait then .wait else .stale) ∧
     (es ≠ [] → (∀ b ∈ es, t < poseTime b) → ((mx s).poseAt l t).1 = .stale) ∧
     (∀ a older, es = a :: older → poseTime a ≤ t → ((mx s).poseAt l t).1 =
       if l.wait then .wait
       else if t - poseTime a ≤ 1000000 * l.extrapMs ∧ l.noExtrap = false then .pose (extrapolate a t) true
       else .stale) ∧
     (∀ newer b a older, es = newer ++ b :: a :: older → (∀ x ∈ newer, t < poseTime x) → t < poseTime b →
       poseTime a ≤ t → ((mx s).poseAt l t).1 =
         if poseTime b - poseTime a ≤ 1000000 * l.gapMs then .pose (interpolate a b t) false else .stale)) ∧
   (∀ tag io o e param hdr x d,
     s.running = true → s.op? tag = some o → o.sqe? = some e → o.stopped = false → e.opcode = 0x0103 → s.ovrRefused o e = false →
     s.memWaits = false →
     io.upsets = [] → s.motionIssuer o e = true → s.motionErr e = none → let q := s.port (e.fld 32 1)
     param = s.peek (s.localAddr (e.fld 56 8)) 128 → s.paramErr param = none → q.bound = true →
     bit (e.fld 33 1) 1 = false ∨ q.perSweep ≠ 0 → hdr = s.peek (s.hdrAt q (e.fld 40 8)) 64 →
     hdrIs hdr (e.fld 40 8) = true → bit (hdrFlags hdr) 4 = false ∨ bit (hdrFlags hdr) 3 = true →
     o.reply = some none ∨ (o.reply = none ∧ (s.sliceMode e).1 = false) →
     let l (waits : Bool) : PoseLimits :=
       ⟨waits && fieldLE param 60 4 != 0, fieldLE param 64 1, fieldLE param 65 1, bit (e.fld 33 1) 2⟩
     let pad := if bit (hdrFlags hdr) 4 then 16 else 0
     let dst := s.localAddr (fieldLE param 48 8)
     let n := min (fieldLE hdr 24 4) q.slotPts
     let k := min n (fieldLE param 56 4)
     let outcome (t : State) (waits : Bool) : Prop :=
       (((mx s).hwXform q e (l waits) param hdr).1 = .xform x d → Operated [] s t tag
         (if bit (hdrFlags hdr) 3 then OK_TRUNCATED else if k < n then OK_WITH_DROPS else OK) (some k)
         (some (d + (if k < n then 8 else 0) + pad))
         [(dst, (List.range k).flatMap fun i => x.point (s.peek (s.ptsAt q (e.fld 40 8) + 16 * i) 16))]) ∧
       (((mx s).hwXform q e (l waits) param hdr).1 = .stale d →
         Operated [] s t tag OK_WITH_DROPS (some 0) (some (4 + d + pad)) []) ∧
       (((mx s).hwXform q e (l waits) param hdr).1 = .lost → Operated [] s t tag OK_WITH_DROPS (some 0) (some 1) []) ∧
       (((mx s).hwXform q e (l waits) param hdr).1 = .wait →
         t.op? tag = some { o with phase := .held heldPose [], since := s.ticks } ∧ t = { s with ops := t.ops })
     (o.phase = .started → ∃ t, exec (.motionComp tag io) s = .next t ∧ outcome t true) ∧
     (o.phase = .held heldPose [] → ∃ t, exec (.poseWaitTimeout tag io) s = .next t ∧ outcome t false))) ∧
  ((∀ rule edge pts, ((voxels rule edge pts).1.map (·.key)).Nodup ∧
     ((voxels rule edge pts).1.map (·.count)).sum = (pts.filter fun p => (voxelOf edge p).isSome).length ∧
     ((voxels rule edge pts).2 = true ↔ ∃ p ∈ pts, voxelOf edge p = none) ∧
     (∀ w ∈ (voxels rule edge pts).1, rule = 0 → ∃ newer p older, pts = newer ++ p :: older ∧ w.kept = p ∧
       (∃ v, voxelOf edge p = some v ∧ w.key = mkKey v.1 v.2.1 v.2.2) ∧
       ∀ x ∈ newer, ∀ v, voxelOf edge x = some v → mkKey v.1 v.2.1 v.2.2 ≠ w.key)) ∧
   (∀ (s : State) tag io o e src, Runs s tag 0x0104 o e → s.sound → io.upsets = [] → s.voxeliseErr e = none →
     s.brlReady (e.fld 32 1) false = true → s.brlZeroing [e.fld 32 1] = false → s.inHw o e 2 →
     src = sourceList (s.peek (s.localAddr (e.fld 48 8)) (16 * e.fld 40 4)) (e.fld 40 4) → s.sourcesOk src = true →
     let tb := e.fld 32 1
     let v := voxels (e.fld 33 1) (e.fld 36 4) (src.flatMap fun x => (List.range x.2).map fun i =>
       s.peek (s.localAddr x.1 + 16 * i) 16)
     let ins := eachKey (fun m k => m.insert tb k) (mx (s.setReg BRL_T_EDGE_UM.EDGE (brlD tb) (e.fld 36 4))) (keyGroups (v.1.map (·.key)))
     let keep := bit (e.fld 34 1) 0
     let full := ins.1.any (· == noRow)
     let detail := b2n v.2 + (if v.1.length > e.fld 44 4 then 2 else 0) + if full then 4 else 0
     ∃ t, exec (.voxelise tag io) s = .next t ∧
       Ended t tag (if detail = 0 then OK else OK_WITH_DROPS) (some v.1.length) (some detail) ∧
       t.reg BRL_T_EDGE_UM.EDGE (brlD tb) = e.fld 36 4 % 2 ^ BRL_T_EDGE_UM.EDGE.w ∧
       (∀ a, t.byteAt a = ins.2.2.s.stored
         (if keep then [(s.localAddr (e.fld 56 8), (v.1.take (e.fld 44 4)).flatMap (·.record (e.fld 33 1)))] else []) a) ∧
       (∀ x, x ≠ tag → t.op? x = s.op? x) ∧
       Tells [BRL_T_EDGE_UM.EDGE.key (brlD tb), BRL_T_COUNT.COUNT.key (brlD tb), BRL_T_DROPS.COUNT.key (brlD tb),
         BRL_T_CTRL.FULL.key (brlD tb), BRL_INSERTS.COUNT.key 0] s
         { t with mem := s.mem, ops := s.ops, wbQueue := s.wbQueue }))

/-- R258, R259, R262, R282 and R283: a hash table's slots. A search looks at the slots of up to PROBE_MAX buckets from the home
bucket on, and stops at the first that holds the key or is empty (another epoch); an insertion gives the key found its row, or
writes the empty slot with row COUNT and the epoch, or drops the key where there is no slot or the table is seven eighths full.
CLEAR opens a new epoch; a write of EN, also where it is set, starts the zeroing of a table whose range fits, and is dropped for another; the end of
zeroing makes the range zero and lets the operations that wait go on. -/
def Obligations.HashTables : Prop := ∀ (s : State) (t : Nat), t < 32 →
  (s.sound → ∀ key, let n := 2 ^ (s.brlLog t - 2)
    let r := ((mx s).search t key (homeBucket (s.brlLog t) key) (s.brlProbe t)).1
    let slots := (List.range (s.brlProbe t)).flatMap fun j => (List.range 4).map fun i =>
      s.brlAt t + 64 * ((homeBucket (s.brlLog t) key + j) % n) + 16 * i
    let free (a : Nat) : Bool := fieldLE (s.peek a 16) 12 2 != s.brlEpoch t
    let at_ := slots.find? fun a => free a || fieldLE (s.peek a 16) 0 8 == key
    let x := (mx s).insert t key
    (r = match at_ with
      | none => .nothing
      | some a => if free a then .empty a else .row (fieldLE (s.peek a 16) 8 4)) ∧
    (∀ row, r = .row row → x = (row, mx s)) ∧
    (∀ a, r = .empty a → s.brlCount t < 7 * 2 ^ s.brlLog t / 8 → x.1 = s.brlCount t ∧ x.2.bad = false ∧
      x.2.s.brlCount t = (s.brlCount t + 1) % 2 ^ BRL_T_COUNT.COUNT.w ∧
      (∀ k, x.2.s.byteAt k =
        s.stored [(a, leBytes 8 key ++ leBytes 4 (s.brlCount t) ++ leBytes 2 (s.brlEpoch t) ++ leBytes 2 0)] k) ∧
      Tells [BRL_T_COUNT.COUNT.key (brlD t), BRL_INSERTS.COUNT.key 0] s { x.2.s with mem := s.mem, wbQueue := s.wbQueue }) ∧
    ((r = .nothing ∨ (∃ a, r = .empty a) ∧ 7 * 2 ^ s.brlLog t / 8 ≤ s.brlCount t) → x.1 = noRow ∧ x.2.bad = false ∧
      x.2.s.reg BRL_T_CTRL.FULL (brlD t) = 1 ∧
      Tells [BRL_T_DROPS.COUNT.key (brlD t), BRL_T_CTRL.FULL.key (brlD t)] s x.2.s)) ∧
  (let u := s.brlClear t
   u.brlEpoch t = (if s.brlEpoch t < 0xFFFF then s.brlEpoch t + 1 else 1) ∧ u.brlCount t = 0 ∧
     u.reg BRL_T_CTRL.FULL (brlD t) = 0 ∧ u.reg BRL_T_CTRL.LOST (brlD t) = 0 ∧
     (s.brlEpoch t < 0xFFFF → s.regB BRL_T_CTRL.LOST (brlD t) = false → u.mem = s.mem) ∧
     (0xFFFF ≤ s.brlEpoch t ∨ s.regB BRL_T_CTRL.LOST (brlD t) = true → ∀ a, u.byteAt a =
       if s.brlAt t ≤ a ∧ a < s.brlAt t + 16 * 2 ^ s.brlLog t then 0 else s.byteAt a)) ∧
  (s.running = true →
    (s.brlFits t = true → ∃ v, exec (.brlTableEnable t) s = .next v ∧
      v.reg BRL_T_CTRL.EN (brlD t) = 1 ∧ v.brlEpoch t = 1 ∧ v.brlCount t = 0 ∧ v.reg BRL_T_CTRL.ZEROING (brlD t) = 1 ∧
      v.reg BRL_T_CTRL.FULL (brlD t) = 0 ∧ v.reg BRL_T_CTRL.LOST (brlD t) = 0 ∧
      Touches [BRL_T_CTRL.EN.key (brlD t), BRL_T_CTRL.EPOCH.key (brlD t), BRL_T_COUNT.COUNT.key (brlD t),
        BRL_T_CTRL.FULL.key (brlD t), BRL_T_CTRL.LOST.key (brlD t), BRL_T_CTRL.ZEROING.key (brlD t)] s v) ∧
    (s.brlFits t = false → ∃ v, exec (.brlTableEnable t) s = .next v ∧
      v.reg BRL_STATUS.CFG_ERR = 1 ∧ bit (v.reg GBL_ERR_SUMMARY.CFG_ERR) 12 = true ∧
      Touches [BRL_STATUS.CFG_ERR.key 0, GBL_ERR_SUMMARY.CFG_ERR.key 0] s v)) ∧
  (s.power.on = true → s.regB BRL_T_CTRL.ZEROING (brlD t) = true → s.sound →
    ∃ v, exec (.tableZeroingComplete t) s = .next v ∧ v.reg BRL_T_CTRL.ZEROING (brlD t) = 0 ∧
      (∀ a, v.byteAt a = if s.brlAt t ≤ a ∧ a < s.brlAt t + 16 * 2 ^ s.brlLog t then 0 else s.byteAt a) ∧
      (∀ tag o ts, s.op? tag = some o → o.phase = .held heldZeroing ts →
        v.op? tag = some (if v.brlZeroing ts then o else { o with phase := .started })) ∧
      v = { s with mem := v.mem, regs := v.regs, ops := v.ops } ∧ RegsBut [BRL_T_CTRL.ZEROING.key (brlD t)] s v)

/-- R259, R261, R265 to R267: the hash operators in hardware mode, on a table that answers. A query gives each valid
key the row that the table holds for it and counts those found; HASH_BUILD and DOWNSAMPLE insert keys one after
another, DOWNSAMPLE those of the source table in row order with their coordinates shifted, and give the rows and the
table's count; NEIGHBOUR_RADIUS gives each key the rows of its neighbours, nearest first. R268 to R270: RULEBOOK in
hardware mode of F4. Its pairs are, for each output row in order and each offset in order, the input row found at the
output voxel's place in the input table; the layout is stored where it fits, and else only a header for no tiles, with
ERR_POOL_EXHAUSTED and the bytes it needs. -/
def Obligations.HashOperations : Prop :=
  (∀ (s : State) (tag : Nat) (io : OpIo) (o : Op) (e : Sqe), s.sound → io.upsets = [] →
   let tb := e.fld 32 1
   let n := e.fld 36 4
   let lookup (t key : Nat) : Nat := ((mx s).query t key).1
   let own := keysOf (s.peek (s.lin (e.fld 40 8)) (8 * n)) n
   let kept := [BRL_T_COUNT.COUNT, BRL_T_DROPS.COUNT, BRL_T_CTRL.FULL, BRL_T_CTRL.EPOCH, BRL_T_CTRL.LOST, BRL_T_EDGE_UM.EDGE]
   let built (t : State) (tb : Nat) (keys : List Nat) (ins : List Nat × Nat × Mx) : Prop :=
     let d := (if keys.any (fun k => !keyValid k) then 1 else 0)
       + if (ins.1.zip keys).any fun x => x.1 == noRow && keyValid x.2 then 4 else 0
     Ended t tag (if d = 0 then OK else OK_WITH_DROPS) (some (ins.2.2.s.brlCount tb)) (some d) ∧
     (∀ a, t.byteAt a = ins.2.2.s.stored (if e.fld 48 8 = 0 then [] else [(s.lin (e.fld 48 8), words32 ins.1)]) a) ∧
     (∀ x, x ≠ tag → t.op? x = s.op? x) ∧
     Tells (BRL_INSERTS.COUNT.key 0 :: kept.map fun F => F.key (brlD tb)) s
       { t with mem := s.mem, ops := s.ops, wbQueue := s.wbQueue }
   (Runs s tag 0x0202 o e → tb < 32 → e.fld 48 8 ≠ 0 → e.rsv [(33, 3), (56, 8)] = true →
     s.here [(e.fld 40 8, 8 * n), (e.fld 48 8, 4 * n)] → s.brlReady tb false = true → s.brlZeroing [tb] = false →
     let rows := own.map fun k => if keyValid k then lookup tb k else noRow
     let d := if own.any (fun k => !keyValid k) then 1 else 0
     ∃ t, exec (.hashQuery tag io) s = .next t ∧
       Operated [BRL_LOOKUPS.COUNT.key 0] s t tag (if d = 0 then OK else OK_WITH_DROPS)
         (some (rows.filter (· != noRow)).length) (some d) [(s.lin (e.fld 48 8), words32 rows)]) ∧
   (Runs s tag 0x0201 o e → tb < 32 → e.fld 33 1 < 2 → e.rsv [(34, 2), (56, 8)] = true →
     s.here ((e.fld 40 8, 8 * n) :: optRange (e.fld 48 8) (4 * n)) → s.brlReady tb (bit (e.fld 33 1) 0) = true →
     s.brlZeroing [tb] = false → s.inHw o e 3 →
     let u := if bit (e.fld 33 1) 0 then s.brlClear tb else s
     let keys := keysOf (u.peek (s.lin (e.fld 40 8)) (8 * n)) n
     ∃ t, exec (.hashBuild tag io) s = .next t ∧ built t tb keys (eachKey (fun m k => m.insert tb k) (mx u) (keyGroups keys))) ∧
   (Runs s tag 0x0205 o e → tb < 32 → e.fld 33 1 < 32 → 1 ≤ e.fld 34 1 → e.fld 34 1 ≤ 4 → e.fld 35 1 < 2 →
     e.rsv [(36, 12), (56, 8)] = true → s.here (optRange (e.fld 48 8) (4 * s.brlCount tb)) → s.brlReady tb false = true →
     s.brlReady (e.fld 33 1) false = true → s.brlZeroing [tb, e.fld 33 1] = false → s.inHw o e 2 →
     let dst := e.fld 33 1
     let c := if bit (e.fld 35 1) 0 then s.brlClear dst else s
     let u := c.setReg BRL_T_EDGE_UM.EDGE (brlD dst) (c.reg BRL_T_EDGE_UM.EDGE (brlD tb) * 2 ^ e.fld 34 1)
     let keys := ((mx u).rows tb).1.map fun k =>
       mkKey (keyI k / 2 ^ e.fld 34 1) (keyJ k / 2 ^ e.fld 34 1) (keyK k / 2 ^ e.fld 34 1)
     let ins := eachKey (fun m k => m.insert dst k) (mx u) (keyGroups keys)
     modulesAt (optRange (e.fld 48 8) (4 * keys.length)) = modulesAt (optRange (e.fld 48 8) (4 * s.brlCount tb)) →
     ∃ t, exec (.downsample tag io) s = .next t ∧ built t dst keys ins) ∧
   (Runs s tag 0x0204 o e → tb < 32 → let mn := e.fld 33 1
     1 ≤ mn → mn ≤ 64 → 1 ≤ e.fld 34 1 → e.fld 34 1 ≤ 8 → e.rsv [(35, 1), (56, 8)] = true →
     s.here [(e.fld 40 8, 8 * n), (e.fld 48 8, 4 * mn * n)] → s.brlReady tb false = true → s.brlZeroing [tb] = false →
     let near (k : Nat) : List Nat := ((ballOffsets (e.fld 34 1)).map fun x =>
       match keyAt (keyI k + x.1) (keyJ k + x.2.1) (keyK k + x.2.2) with
       | some y => lookup tb y
       | none => noRow).filter (· != noRow)
     let row (k : Nat) : List Nat := if keyValid k then (near k).take mn else []
     let d := (if own.any (fun k => !keyValid k) then 1 else 0)
       + if own.any fun k => keyValid k && (near k).length > mn then 2 else 0
     ∃ t, exec (.neighbourRadius tag io) s = .next t ∧
       Operated [BRL_LOOKUPS.COUNT.key 0] s t tag (if d = 0 then OK else OK_WITH_DROPS)
         (some (own.map fun k => (row k).length).sum) (some d)
         [(s.lin (e.fld 48 8), words32 (own.flatMap fun k => row k ++ List.replicate (mn - (row k).length) noRow))])) ∧
  (∀ (s : State) (tag : Nat) (io : OpIo) (o : Op) (e : Sqe), s.sound → io.upsets = [] →
   let tin := e.fld 32 1
   let tout := e.fld 33 1
   let edge := e.fld 34 1
   let stride := e.fld 35 1
   Runs s tag 0x0203 o e → tin < 32 → tout < 32 → edge ∈ [1, 3, 5] → stride ∈ [1, 2] → e.fld 36 1 < 2 → 1 ≤ e.fld 38 2 →
   e.fld 38 2 ≤ 4096 → e.fld 40 8 % 64 = 0 → e.rsv [(37, 1), (52, 12)] = true → s.here [(e.fld 40 8, e.fld 48 4)] →
   s.brlReady tin false = true → s.brlReady tout false = true → s.brlZeroing [tin, tout] = false → s.inHw o e 4 →
   let keys := ((mx s).rows tout).1
   let offs := cubeOffsets ((edge - 1) / 2)
   let pairs := (List.range keys.length).flatMap fun i => (List.range offs.length).filterMap fun j =>
     let k := keys.getD i 0
     let x := offs.getD j (0, 0, 0)
     match keyAt (stride * keyI k + x.1) (stride * keyJ k + x.2.1) (stride * keyK k + x.2.2) with
     | none => none
     | some y => let row := ((mx s).query tin y).1
       if row = noRow then none else some (⟨row, i, j⟩ : RPair)
   let r : RbShape := ⟨s.brlCount tout, s.brlCount tin, edge, stride, bit (e.fld 36 1) 0, e.fld 38 2, pairs.length⟩
   ∃ t, exec (.rulebook tag io) s = .next t ∧
     (r.size ≤ e.fld 48 4 → Operated [BRL_LOOKUPS.COUNT.key 0] s t tag OK (some pairs.length) (some 0)
       [(s.lin (e.fld 40 8), r.header r.nOut ++ r.body pairs)]) ∧
     (e.fld 48 4 < r.size → Operated [BRL_LOOKUPS.COUNT.key 0] s t tag ERR_POOL_EXHAUSTED (some r.size) none
       [(s.lin (e.fld 40 8), (r.header 0).take (e.fld 48 4))]))

/-- R274, R275, R277 and R389 to R391: a facet operator in hardware mode of F5 and F6 that passes its checks starts by
putting its tiles on the work list, the tile number major and the block minor, static tiles dealt by their numbers over the
facets that take tiles;
the operation is held until they have run, and memory is as it was. One that has no tile ends at once. -/
def Obligations.FacetOperators : Prop := ∀ (s : State) (tag : Nat) (io : OpIo) (o : Op) (e : Sqe), s.sound →
  io.upsets = [] → o.reply = none → o.prog = [] → (5 ∈ functionsOf e → s.inHw o e 5) → s.inHw o e 6 →
  let p := s.peek (s.lin (e.fld 48 8)) 128
  s.rangesErr [(e.fld 48 8, 128)] = none → blockOk e p = true →
  let starts (c : Instr) (groups : List Nat) (n blks : Nat) : Prop :=
    let l := tileList (List.range n) blks
    let static := if e.opcode = 0x0301 ∧ bit (e.fld 32 1) 1 = true then some s.takers else none
    (l ≠ [] → ∃ u : State, exec c s = .next { u.feed with pending := s.pending } ∧
      u.workList = s.workList ++ ((List.range l.length).zip l).map (fun x => tileAt tag x.1 blks x.2 static) ∧
      (∃ q, u.op? tag = some q ∧ q.phase = .held heldTiles [] ∧ q.members = o.members) ∧
      (∀ x, x ≠ tag → u.op? x = s.op? x) ∧
      u.run tag = ⟨p, groups, min 100 (u.reg FCT_CTRL.DENSE_PCT), none, l.length, 0, 0, false, none, false⟩ ∧
      (∀ x, x ≠ tag → SMap.get? u.runs x = SMap.get? s.runs x) ∧
      u = { s.applyStaged FCT_CTRL.DENSE_PCT with workList := u.workList, runs := u.runs, ops := u.ops }) ∧
    (l = [] → (∀ x ∈ s.rlzRows, x.1 / 2 ^ 48 ≠ tag) → ∃ t, exec c s = .next t ∧ Ended t tag OK (some 0) (some 0) ∧ ∀ a, t.byteAt a = s.byteAt a)
  (Runs s tag 0x0301 o e → facetFields e (e.fld 33 1 == 0) true true true = true → s.spconvErr e p = none →
    starts (.spconv tag io) [] (s.rbOf e).count (blocks p)) ∧
  (Runs s tag 0x0302 o e → facetFields e (e.fld 33 1 == 0) false true false = true → s.gemmErr p = none →
    starts (.gemm tag io) [] (ceilDiv (pIn p).rows 64) (blocks p)) ∧
  (Runs s tag 0x0303 o e → facetFields e (e.fld 33 1 < 16 || e.fld 33 1 == 0xFF) true true false = true →
    s.groupedErr e p = none → (∀ m ∈ s.farModules e, m = s.self) → (∀ x, s.tileIsLocal e (s.groupList e p) x = true) →
    starts (.groupedGemm tag io) (s.groupList e p) (groupTiles (groupsOf (s.groupList e p))).length (blocks p)) ∧
  (Runs s tag 0x0304 o e → facetFields e (e.fld 33 1 ≤ 5) false false false = true → s.elementErr e p = none →
    starts (.elementwise tag io) [] (ceilDiv (pIn p).rows 64) 1) ∧
  (Runs s tag 0x0305 o e → facetFields e (e.fld 33 1 ≤ 1) false false false = true → s.normErr p = none →
    starts (.norm tag io) [] (ceilDiv (pIn p).rows 64) 1) ∧
  (Runs s tag 0x0306 o e → facetFields e (e.fld 33 1 ≤ 1) true false false = true → s.poolErr e p = none →
    starts (.poolVoxel tag io) [] (s.rbOf e).count 1) ∧
  (Runs s tag 0x0307 o e → facetFields e (1 ≤ e.fld 33 1 && e.fld 33 1 ≤ 16) true false false = true →
    s.attnErr e p = none → starts (.windowAttn tag io) [] (pNwin p) (e.fld 33 1)) ∧
  (Runs s tag 0x0308 o e → facetFields e (e.fld 33 1 == 0) false false false = true → s.softmaxErr p = none →
    starts (.softmax tag io) [] (ceilDiv (pIn p).rows 64) 1)

/-- R275, R279, R285 to R287: TILE_COMPLETE. A powered facet that is not held finishes its tile: the rows that the tile gives are
stored at their places in a dense output, those beyond it are not; the run counts the tile; the last tile ends the operation, with the
tiles run in RESULT and the dense ones in DETAIL. -/
def Obligations.TileComplete : Prop := ∀ (s : State) (f : Nat) (io : OpIo) (t : Tile) (e : Sqe), f < 64 →
  s.running = true → s.memWaits = false → s.facetUp f = true → s.facetFailed f = false → f ∉ s.topaz.held → io.upsets = [] →
  (s.facet f).cur = some t → s.tileOp t = some e → (∀ m ∈ s.farModules e, m = s.self) →
  let run := s.run t.tag
  let x := (mx (s.feedFacet f)).tile f run e t
  let out := pOut run.param
  let at_ (row : Nat) : Nat := s.lin out.base + row * out.stride + x.c0 * out.es
  x.m.s.sound → x.m.bad = false → x.badW = false → run.badWeight = none → out.rlz = false →
  (∀ r ∈ x.rows, ∀ v ∈ r.2, v ≠ none) →
  ∃ v, exec (.tileComplete f io) s = .next v ∧
    (∀ a, v.byteAt a = x.m.s.stored ((x.rows.filter (·.1 < out.rows)).map fun r =>
      (at_ r.1, (r.2.map fun v => v.getD 0).flatMap (leBytes out.es))) a) ∧
    (∀ c, x.cycles = some c → v.reg FCT_F.TILE_CYCLES (4 * f) = c % 2 ^ 16) ∧
    (run.ran + 1 ≠ run.total → v.run t.tag = { run.after t x with poison := run.poison } ∧ v.op? t.tag = s.op? t.tag) ∧
    (run.ran + 1 = run.total → Ended v t.tag
      (max (if run.poison then ERR_POISON else OK) (if run.rlzErr || x.rlz then OK_WITH_DROPS else OK)) (some run.total)
      (some (flags (min (run.after t x).dense 0xFFFF) (if run.rlzErr || x.rlz then 0x8000 else 0))) ∧ SMap.get? v.runs t.tag = none) ∧
    (∀ y, y ≠ t.tag → v.op? y = s.op? y)

/-- R276, R389 and R390: what a vector tile computes from dense tensors in sound memory: each row of the tile, element
by element in FP32, with the activation and the output's rounding; nothing else changes. R272, R273, R276 and R280:
numbers and encodings of the facets. An INT8 sum is exact while every partial sum fits 32 bits, and has no stated
value otherwise; a row encoded in runs decodes to itself, whatever follows it. -/
def Obligations.VectorsAndFormats : Prop :=
  (∀ (s : State) (p : Bytes) (idx : Nat), s.sound → (pIn p).rlz = false →
   (pIn2 p).rlz = false → (pIn2 p).rows = (pIn p).rows → (pIn2 p).ch = (pIn p).ch →
   let row (t : Tensor) (r : Nat) : List Nat :=
     (elemsOf (s.peek (s.lin t.base + r * t.stride) (t.ch * t.es)) t.es t.ch).map (elemF32 t.ty)
   let rows := (List.range (min 64 ((pIn p).rows - 64 * idx))).map (64 * idx + ·)
   let gives (x : TileRes) (f : Nat → List Nat) : Prop := x.m = mx s ∧ x.c0 = 0 ∧ x.dense = none ∧ x.badW = false ∧
     x.rlz = false ∧ x.rows = rows.map fun r => (r, (f r).map fun v => some (elemOf (pOut p).ty (relu32 (pRelu p) v)))
   let sc := (List.range (pIn p).ch).map fun i =>
     let b := s.peek (s.lin (pScale p)) (8 * (pIn p).ch)
     (f32At b (8 * i), f32At b (8 * i + 4))
   let scaled (y : List Nat) : List Nat := List.zipWith (fun v g => f32.add (f32.mul v g.1) g.2) y sc
   gives ((mx s).elementTile p 0 idx) (fun r => List.zipWith f32.add (row (pIn p) r) (row (pIn2 p) r)) ∧
   gives ((mx s).elementTile p 1 idx) (fun r => List.zipWith f32.sub (row (pIn p) r) (row (pIn2 p) r)) ∧
   gives ((mx s).elementTile p 2 idx) (fun r => List.zipWith f32.mul (row (pIn p) r) (row (pIn2 p) r)) ∧
   gives ((mx s).elementTile p 3 idx) (fun r => List.zipWith f32.larger (row (pIn p) r) (row (pIn2 p) r)) ∧
   gives ((mx s).elementTile p 4 idx) (fun r => row (pIn p) r) ∧
   (pScale p ≠ 0 → gives ((mx s).elementTile p 5 idx) (fun r => scaled (row (pIn p) r))) ∧
   (∀ sub, gives ((mx s).normTile p sub idx) (fun r =>
     let y := normRow (sub == 1) (pEps p) (row (pIn p) r)
     if pScale p = 0 then y else scaled y)) ∧
   gives ((mx s).softmaxTile p idx) (fun r => softmax (row (pIn p) r))) ∧
  ((∀ l : List Int, (∀ k, k ≤ l.length → -(2 ^ 31) ≤ (l.take k).sum ∧ (l.take k).sum < 2 ^ 31) → accInt l = some l.sum) ∧
   (∀ (l : List Int) (k : Nat), k ≤ l.length → (l.take k).sum < -(2 ^ 31) ∨ 2 ^ 31 ≤ (l.take k).sum → accInt l = none) ∧
   (∀ es ∈ [1, 2, 4], ∀ (xs : List Nat) (pad : Bytes) (k : Nat), (∀ x ∈ xs, x < 256 ^ es) → xs.length < k →
     rlzDecode es xs.length k (rlzEncode es (xs.length + 1) xs ++ pad) [] = some xs))

/-- R292, R295 to R298 and R306: TABLE_LOOKUP and PREFETCH of a table on this module. A row is read by its directory entry, and is
dropped where the index is out of range or the entry is UNREADABLE; the output rows are the rows read, or the pools of the bags; drops and
uses are counted; a prefetch buffer that matches stands for the table. PREFETCH stores the rows, the drop bitmap and the header. -/
def Obligations.TableLookups : Prop := ∀ (s : State) (tag : Nat) (io : OpIo) (o : Op) (e : Sqe), s.sound → io.upsets = [] →
  let t := e.fld 32 1
  let v := s.bindVer t (e.fld 35 1)
  let n := e.fld 36 4
  let dim := s.tDim t
  let words (a k : Nat) : List Nat := (List.range k).map fun i => fieldLE (s.peek (s.lin a) (4 * k)) (4 * i) 4
  let rowOf (i : Nat) : Option (List Nat) := if s.tRows t ≤ i then none else ((mx s).readRow t v s.self i).1.map (·.2)
  let bits_ (idx : List Nat) (rows : List (Option (List Nat))) : Nat :=
    (if idx.any fun i => s.tRows t ≤ i then 1 else 0)
      + if (idx.zip rows).any fun x => x.1 < s.tRows t && x.2.isNone then 2 else 0
  let valid (idx : List Nat) (rows : List (Option (List Nat))) : Nat :=
    ((idx.zip rows).filter fun x => x.1 < s.tRows t && x.2.isSome).length
  let counts := [SPN_LOOKUPS.COUNT.key 0, SPN_ROWS_READ.COUNT.key 0, SPN_MOD_LOAD.COUNT.key 0, SPN_MOD_LOAD.COUNT.key 4,
    SPN_MOD_LOAD.COUNT.key 8, SPN_MOD_LOAD.COUNT.key 12, SPN_PF_STALE.COUNT.key 0, TD_INVALID_DROP.COUNT.key (tdD t),
    TD_POISON_DROP.COUNT.key (tdD t)]
  s.tableHere o e t (some (e.fld 35 1)) →
  (Runs s tag 0x0401 o e → lookupOk e = true → let p := s.peek (s.lin (e.fld 48 8)) 64
    s.rangesErr [(e.fld 48 8, 64)] = none → allZero (byteSlice p 40 24) = true →
    s.rangesErr (s.lookupRanges e p) = none →
    let pool := e.fld 33 1
    let es := if bit (e.fld 34 1) 0 then 2 else 4
    let idx := words (fieldLE p 0 8) n
    let offs := if pool = 0 then [] else words (fieldLE p 8 8) (e.fld 40 4 + 1)
    let usePf := bit (e.fld 34 1) 1
    let buf := s.lin (fieldLE p 32 8)
    let hit := usePf && s.pfMatches (s.peek buf 64) t v n
    let rows := if hit then ((mx s).pfRows buf dim n).1.map fun r => r.map fun x => x.take (s.tDl t) else idx.map rowOf
    let w := if fieldLE p 16 8 = 0 then none else some (words (fieldLE p 16 8) n)
    let out := outRows pool (s.tDl t) w offs rows
    let row (j : Nat) : Nat := s.lin (fieldLE p 24 8) + j * roundUp (es * dim) 16
    pool = 0 ∨ offsOk offs n = true → (∀ r ∈ out, r.length = dim) →
    ∃ u, exec (.tableLookup tag io) s = .next u ∧
      Ended u tag (if bits_ idx rows = 0 then OK else OK_WITH_DROPS) (some (valid idx rows))
        (some (bits_ idx rows + if usePf && !hit then 4 else 0)) ∧
      (∀ j r, out[j]? = some r → u.peek (row j) (es * dim) = r.flatMap (outElem (es == 2))) ∧
      (∀ a, (∀ j, j < out.length → ¬(row j ≤ a ∧ a < row j + es * dim)) →
        ¬(s.popAt t v s.self ≤ a ∧ a < s.popAt t v s.self + 2 * s.tRows t) →
        (s.tPlace t = 2 → ∀ i, i < s.tRows t →
          ¬(s.loadAt t v 0 + 4 * (i / s.shardRows t) ≤ a ∧ a < s.loadAt t v 0 + 4 * (i / s.shardRows t) + 4)) →
        u.byteAt a = s.byteAt a) ∧
      (v ≠ s.activeVer t → ∀ a, (∀ j, j < out.length → ¬(row j ≤ a ∧ a < row j + es * dim)) → u.byteAt a = s.byteAt a) ∧
      (∀ x, x ≠ tag → u.op? x = s.op? x) ∧
      Tells (TD_CTRL.POP_SAT.key (tdD t) :: counts) s { u with mem := s.mem, ops := s.ops, wbQueue := s.wbQueue }) ∧
  (Runs s tag 0x0406 o e → e.rsv [(33, 2), (40, 8)] = true → n ≤ 2 ^ 24 →
    s.rangesErr [(e.fld 48 8, 4 * n), (e.fld 56 8, 64 + 4 * dim * n + 64 * ceilDiv n 512)] = none →
    let idx := words (e.fld 48 8) n
    let rows := idx.map rowOf
    let buf := s.lin (e.fld 56 8)
    let drops := rows.map fun r => r.isNone
    ∃ u, exec (.prefetch tag io) s = .next u ∧ Operated counts s u tag
      (if bits_ idx rows = 0 then OK else OK_WITH_DROPS) (some (valid idx rows)) (some (bits_ idx rows))
      (((List.range n).map fun i => (buf + 64 + i * (4 * dim),
          ((rows.getD i none).getD (List.replicate (s.tDl t) 0)).flatMap (leBytes 4)))
        ++ [(buf + 64 + 4 * dim * n, dropBitmap drops), (buf, s.pfHeader t v n (drops.filter id).length)]))

/-- R288, R289, R299 to R304, R310: enabling a table and changing its rows. A descriptor that is sound comes into force, another is
dropped. STAGE adds contributions, in fixed point, to the open step of their version, or marks its overflow; COMMIT applies the
optimiser to each staged row and leaves memory as it was; its further commands take the commit record, write the new records in
groups of 1,024 rows, close the step and count; ASSIGN writes records and ends their UNREADABLE mark. That each command of the
operation carries out one part is the model's (log entry 146). -/
def Obligations.TableUpdates : Prop := ∀ s : State, s.sound →
  let moved (t v row cls : Nat) (rec_ : Bytes) : List (Nat × Bytes) := match s.migSlot t v row with
    | some (k, sl) => [(s.poolAt t v k cls + sl * s.recSize t cls, rec_)]
    | none => []
  (s.running = true → let t := s.reg SPN_TD_SEL.TABLE
    s.regB TD_CTRL.EN (tdD t) = false →
    (s.tableSound t = true → s.tMods t = [s.self] → ∃ u, exec .tableEnable s = .next u ∧
      u.reg TD_CTRL.EN (tdD t) = 1 ∧ u = { s with lostSlots := u.lostSlots, regs := u.regs } ∧
      RegsBut [TD_CTRL.EN.key (tdD t)] s u) ∧
    (s.tableSound t = false → ∃ u, exec .tableEnable s = .next u ∧ u.reg SPN_STATUS.CFG_ERR = 1 ∧
      Touches [SPN_STATUS.CFG_ERR.key 0, GBL_ERR_SUMMARY.CFG_ERR.key 0] s u)) ∧
  (∀ t v dm col row lr eps grads,
    let r := (mx s).readRow t v dm row
    let x := (mx s).newSlice t v dm col row lr eps grads none
    (r.1 = none → x.1 = none) ∧
    (∀ g vals, r.1 = some (g, vals) →
      x = (some (s.optimise t lr eps g vals ((grads.drop col).take (s.tDl t))), r.2))) ∧
  (∀ t v dm row g vals, let en := s.rawEntry t v dm row
    let rec_ := s.encodeRec t (eClass en) g vals
    let x := s.putNew t v dm row (some (g, vals))
    (eBad en = true ∨ s.tCap t (eClass en) ≤ eSlot en → x = s) ∧
    (eBad en = false → eSlot en < s.tCap t (eClass en) → ∀ a, x.byteAt a = s.stored ((s.recAt t v dm en, rec_) ::
      (if eHot en then [(s.hotAt t dm (eHotSlot en), rec_)] else []) ++ moved t v row (eClass en) rec_) a)) ∧
  (∀ t v dm col row vals, let en := s.rawEntry t v dm row
    eSlot en < s.tCap t (eClass en) →
    let en' := mkEntry (eClass en) false (eHot en) (eMig en) (eHome en) (eSlot en) (eHotSlot en)
    let g := if eBad en || !s.tHasG t then 0 else leNat (s.peek (s.recAt t v dm en) 4)
    let rec_ := s.encodeRec t (eClass en) g ((vals.drop col).take (s.tDl t))
    let x := (mx s).assignSlice t v dm col row vals
    x.bad = false ∧
      (∀ a, x.s.byteAt a = s.stored ([(s.recAt t v dm en', rec_)]
        ++ (if eHot en then [(s.hotAt t dm (eHotSlot en'), rec_)] else []) ++ moved t v row (eClass en) rec_
        ++ [(s.entryAt t v dm row, leBytes 8 en')]) a) ∧
      Touches [TD_UNREADABLE.ROWS.key (tdD t)] s { x.s with mem := s.mem, wbQueue := s.wbQueue } ∧
      x.s.reg TD_UNREADABLE.ROWS (tdD t) =
        if eBad en then (s.reg TD_UNREADABLE.ROWS (tdD t) - 1) % 2 ^ 32 else s.reg TD_UNREADABLE.ROWS (tdD t)) ∧
  (∀ (tag : Nat) (io : OpIo) (o : Op) (e : Sqe), io.upsets = [] → Runs s tag 0x0402 o e → s.updateErr e = none →
    let t := e.fld 32 1
    let d := tdD t
    let v := s.bindVer t (e.fld 35 1)
    let p := s.peek (s.lin (e.fld 48 8)) 64
    s.tableHere o e t (some (e.fld 35 1)) → allZero (byteSlice p 32 8) = true → allZero (byteSlice p 52 12) = true →
    (e.fld 33 1 = 0 → s.rangesErr (s.stageRanges e p) = none → s.stepFits e = true → bit (e.fld 34 1) 1 = false →
      let n := e.fld 40 4
      let idx := (List.range n).map fun i => fieldLE (s.peek (s.lin (fieldLE p 0 8)) (4 * n)) (4 * i) 4
      let w := if fieldLE p 16 8 = 0 then none
        else some ((List.range n).map fun i => fieldLE (s.peek (s.lin (fieldLE p 16 8)) (4 * n)) (4 * i) 4)
      let data := ((mx s).dataRows (fieldLE p 24 8) n (s.tDim t) (bit (e.fld 34 1) 0)).1
      let ok (i : Nat) : Bool := idx.getD i 0 < s.tRows t && !eBad (s.rawEntry t v s.self (idx.getD i 0))
      let cs := ((List.range n).filter ok).map fun i => (idx.getD i 0,
        (contribution ((data.getD i []).take (s.tDl t)) (w.map (at32 · i)) none).map fixed40)
      let st := s.stepOf t v
      let rows := addContributions st.rows (cs.map fun c => (c.1, c.2.map (·.1)))
      let insts := if o.inst ∈ st.insts then st.insts else st.insts ++ [o.inst]
      let clamped := cs.any fun c => c.2.any (·.2)
      let bits_ := (if idx.any fun i => s.tRows t ≤ i then 1 else 0)
        + if (List.range n).any fun i => idx.getD i 0 < s.tRows t && !ok i then 2 else 0
      ∃ u, exec (.tableUpdateStage tag io) s = .next u ∧ u.reg TD_CTRL.STEP_OPEN d = 1 ∧ u.reg TD_STEP.STEP d = e.fld 36 4 ∧
        (∀ a, u.byteAt a = s.byteAt a) ∧
        (s.regB TD_CONTRIB.OVERFLOW d = false → s.reg TD_CONTRIB.COUNT d + cs.length ≤ 2 ^ 23 →
          s.stageFits t v rows = true → SMap.get? u.steps t = some { st with insts := insts, rows := rows } ∧
          u.reg TD_STAGED.ROWS d = rows.length % 2 ^ 32 ∧ u.reg TD_CONTRIB.COUNT d = s.reg TD_CONTRIB.COUNT d + cs.length ∧
          Ended u tag (if bits_ = 0 then OK else OK_WITH_DROPS) none (some (bits_ + if clamped then 4 else 0))) ∧
        (s.regB TD_CONTRIB.OVERFLOW d = true ∨ 2 ^ 23 < s.reg TD_CONTRIB.COUNT d + cs.length ∨
            s.stageFits t v rows = false → u.reg TD_CONTRIB.OVERFLOW d = 1 ∧
          SMap.get? u.steps t = some { st with insts := insts } ∧ Ended u tag ERR_POOL_EXHAUSTED none none) ∧
        (∀ x, x ≠ t → SMap.get? u.steps x = SMap.get? s.steps x)) ∧
    (e.fld 33 1 = 1 → s.hasOptim t = true → s.commitFits o e = true → s.regB TD_CONTRIB.OVERFLOW d = false →
      o.reply = none → o.prog = [] → s.inHw o e 8 → ∃ u st, exec (.tableUpdateCommit tag io) s = .next u ∧
        SMap.get? s.steps t = some st ∧ SMap.get? u.steps t = some
          { st with news := ((mx s).newRows t (f32At p 40) (f32At p 44) (f32At p 48) st none).1, stage := 2, count := 0,
                    skipped := false } ∧
        u.reg TD_CTRL.BUSY d = 1 ∧ (∃ q, u.op? tag = some q ∧ q.phase = .started ∧ q.prog = [2]) ∧
        ∀ a, u.byteAt a = s.byteAt a) ∧
    (e.fld 33 1 = 2 → s.rangesErr [(fieldLE p 0 8, 4 * e.fld 40 4), (fieldLE p 24 8, e.fld 40 4 * roundUp (4 * s.tDim t) 16)] = none →
      let bad := ((List.range (e.fld 40 4)).filter fun i =>
        s.tRows t ≤ fieldLE (s.peek (s.lin (fieldLE p 0 8)) (4 * e.fld 40 4)) (4 * i) 4).length
      ∃ u, exec (.tableUpdateAssign tag io) s = .next u ∧
        Ended u tag (if bad = 0 then OK else OK_WITH_DROPS) none (some (if bad = 0 then 0 else 1)) ∧
        (bad ≠ 0 → u.reg TD_INVALID_DROP.COUNT d = min (s.reg TD_INVALID_DROP.COUNT d + bad) (2 ^ 32 - 1)) ∧
        (∀ x, x ≠ tag → u.op? x = s.op? x))) ∧
  (∀ (tag : Nat) (io : OpIo) (o : Op) (e : Sqe) (st : TableStep), io.upsets = [] → Runs s tag 0x0402 o e → o.prog ≠ [] →
    e.fld 33 1 = 1 → s.memWaits = false → let t := e.fld 32 1
    let d := tdD t
    s.tMods t = [s.self] → SMap.get? s.steps t = some st → ∃ u, exec (.tableUpdateCommit tag io) s = .next u ∧
      (st.stage ≠ 3 → SMap.get? u.steps t = some { st with stage := 3 } ∧ u.reg TD_CTRL.BUSY d = 1 ∧
        u = { s with steps := u.steps, regs := u.regs } ∧ RegsBut [TD_CTRL.BUSY.key d] s u) ∧
      (st.stage = 3 → let g := st.news.take 1024
        let k := st.count + (g.filter fun x => x.2.any (·.isSome)).length
        let skipped := st.skipped || g.any fun x => x.2.any (·.isNone)
        u.mem = (g.foldl (fun w x => w.putStaged t st x) s).mem ∧
        (1024 < st.news.length → u.op? tag = some o ∧
          SMap.get? u.steps t = some { st with news := st.news.drop 1024, count := k, skipped := skipped }) ∧
        (st.news.length ≤ 1024 → SMap.get? u.steps t = none ∧ u.reg TD_CTRL.STEP_OPEN d = 0 ∧
          u.reg TD_CTRL.BUSY d = b2n (s.switching t || s.migrating t) ∧
          u.reg TD_COMMIT_GEN.GEN d = (s.reg TD_COMMIT_GEN.GEN d + 1) % 2 ^ 32 ∧
          Ended u tag (if skipped then OK_WITH_DROPS else OK) (some k) (some (if skipped then 2 else 0)))))

/-- R291, R297, R305, R307, R308 and R388: which version is in force and where rows lie. TABLE_SWITCH puts the version in
force, at once or with its readers still to end; HOTSET_LOAD fills the hot set; ROW_RECLASS moves rows to the class that their use asks
for; TABLE_MIGRATE copies every row of a shard to slots of DEST, or none, then takes its commit record, then rewrites the entries.
That each command of the operation carries out one part is the model's (log entry 146). -/
def Obligations.TablePlacement : Prop := ∀ (s : State) (tag : Nat) (io : OpIo) (o : Op) (e : Sqe), s.sound →
  io.upsets = [] → let t := e.fld 32 1
  let d := tdD t
  let v := s.activeVer t
  (Runs s tag 0x0403 o e → s.tableHere o e t none → e.rsv [(34, 30)] = true → let new := e.fld 33 1
    new ∈ s.tVersions t → s.regB TD_CTRL.STEP_OPEN d = false → s.regB TD_CTRL.BUSY d = false →
    (v = new → ∃ u, exec (.tableSwitch tag io) s = .next u ∧ Ended u tag OK none none ∧ u = { s with ops := u.ops }) ∧
    (v ≠ new → ∃ u, exec (.tableSwitch tag io) s = .next u ∧ u.reg TD_CTRL.ACTIVE_VER d = new ∧
      (s.readersOf t v = true → u.reg TD_CTRL.BUSY d = 1 ∧ (∃ p, u.op? tag = some p ∧ p.phase = .held heldReaders [t, v]) ∧
        u = { s with regs := u.regs, ops := u.ops } ∧ RegsBut [TD_CTRL.ACTIVE_VER.key d, TD_CTRL.BUSY.key d] s u) ∧
      (s.readersOf t v = false → u.reg TD_CTRL.BUSY d = b2n (s.committing t || s.switching t || s.migrating t) ∧
        Ended u tag OK (some v) none ∧
        (∀ a, ¬within a (s.dirAt t v s.self) (8 * s.tRows t) → u.byteAt a = s.byteAt a) ∧
        (∀ r, r < s.tRows t → eHot (u.rawEntry t v s.self r) = false) ∧
        u = { s with mem := u.mem, regs := u.regs, ops := u.ops } ∧
        RegsBut [TD_CTRL.ACTIVE_VER.key d, TD_CTRL.BUSY.key d] s u))) ∧
  (Runs s tag 0x0405 o e → s.tableHere o e t none → e.fld 33 1 < 2 → e.fld 36 4 ≤ 2 ^ 24 →
    e.rsv [(34, 2), (40, 8), (56, 8)] = true → s.rangesErr [(e.fld 48 8, 4 * e.fld 36 4)] = none →
    s.regB TD_CTRL.HOTSET_EN d = true → let n := e.fld 36 4
    let c := if bit (e.fld 33 1) 0 then s.emptyHotAll t v else s
    let r := (mx c).heatRows t v ((List.range n).map fun i => fieldLE (s.peek (s.lin (e.fld 48 8)) (4 * n)) (4 * i) 4)
    ∃ u, exec (.hotsetLoad tag io) s = .next u ∧ Ended u tag OK (some (r.2.s.hotRows t v s.self)) (some r.1) ∧
      u.mem = r.2.s.mem ∧ (∀ x, x ≠ tag → u.op? x = s.op? x) ∧ u.regs = s.regs) ∧
  (Runs s tag 0x0407 o e → s.tableHere o e t none → e.fld 33 1 < 8 → e.rsv [(34, 2), (45, 19)] = true →
    s.inHw o e 9 → let r := (mx s).reclassRows t v ((List.range (s.tRows t)).map fun row =>
      (row, classFor (s.popOf t v row) (e.fld 36 2) (e.fld 38 2) (e.fld 40 2)))
    ∃ u, exec (.rowReclass tag io) s = .next u ∧ Ended u tag OK (some r.1) (some (if r.2.1 then 1 else 0)) ∧
      ∀ x, x ≠ tag → u.op? x = s.op? x) ∧
  (∀ cls row, cls < 4 → s.tMods t = [s.self] → (s.tPlace t = 2 → s.self = 0) → let en := s.rawEntry t v s.self row
    let home := s.homeOf t s.self en
    let x := (mx s).reclassRow t v row cls
    (eBad en = true ∨ eClass en = cls → x = (false, false, mx s)) ∧
    (eBad en = false → eClass en ≠ cls → s.freeSlots t v s.self home cls = [] → x.1 = false ∧ x.2.1 = true ∧
      Tells [SPN_RECLASS_FULL.COUNT.key 0] s x.2.2.s)) ∧
  (Runs s tag 0x0404 o e → o.prog = [] → s.tableIssuer o e = true → s.regB TD_CTRL.EN d = true →
    (∀ m ∈ s.tMods t, s.activeModule m = true) → e.fld 33 1 < 4 → e.rsv [(34, 2), (40, 24)] = true →
    s.tPlace t = 2 → s.migrating t = false → s.switching t = false → let dest := e.fld 33 1
    let sh := e.fld 36 4
    sh < s.shards t → dest ∈ s.tMods t → s.shardHome t v sh ≠ dest →
    let rows := s.shardRowList t sh
    let move := rows.filter fun r => eHome (s.rawEntry t v 0 r) != dest &&
      eSlot (s.rawEntry t v 0 r) < s.tCap t (eClass (s.rawEntry t v 0 r))
    let u := s.takeProposal t sh
    let w := rows.foldl (fun w r => w.markMig t v r true)
      (u.setMig t ⟨v, s.shardHome t v sh, dest, sh, [], move.length, false, false⟩)
    Touches [TD_PROPOSE_MOD.VALID.key d] s u ∧
    (s.reg TD_PROPOSE.SHARD d = sh → u.regB TD_PROPOSE_MOD.VALID d = false) ∧
    (s.destFits t v dest move = false → exec (.tableMigrate tag io) s = .next
      { (u.finishVia tag ERR_POOL_EXHAUSTED none none (s.tMods t)).spreadFrom s t with pending := s.pending }) ∧
    (s.destFits t v dest move = true → exec (.tableMigrate tag io) s = .next
      { (((move.foldl (fun w r => w.copyRow t v dest r) w).settleBusy t).setProg tag [1]).spreadFrom s t
        with pending := s.pending })) ∧
  (∀ g, Runs s tag 0x0404 o e → o.prog ≠ [] → s.memWaits = false → SMap.get? s.migs t = some g →
    exec (.tableMigrate tag io) s = .next
      { (if g.recorded = false then (s.sendRecord t [g.src] (migrateRec g)).setMig t { g with recorded := true }
         else if g.slots.length ≤ 1024 then (s.migrateForward t g).finishVia tag OK (some g.total) none (s.tMods t)
         else s.migrateGroup t g).spreadFrom s t with pending := s.pending }) ∧
  (∀ dest row g, let en := s.rawEntry t v 0 row
    let n := s.recSize t (eClass en)
    SMap.get? s.migs t = some g → s.freeSlots t v 0 dest (eClass en) ≠ [] →
    ∃ slot ∈ s.freeSlots t v 0 dest (eClass en), let at_ := s.poolAt t v dest (eClass en) + slot * n
      SMap.get? (s.copyRow t v dest row).migs t = some { g with slots := SMap.ins g.slots row slot } ∧
      (s.recAt t v 0 en + n ≤ at_ ∨ at_ + n ≤ s.recAt t v 0 en →
        ∀ a, (s.copyRow t v dest row).byteAt a = s.stored [(at_, s.peek (s.recAt t v 0 en) n)] a)) ∧
  (∀ g row slot, let en := s.rawEntry t g.ver 0 row
    eSlot en < s.tCap t (eClass en) → ∀ a, (s.rehome t g (row, slot)).byteAt a = s.stored [(s.entryAt t g.ver 0 row,
      leBytes 8 (mkEntry (eClass en) (eBad en) (eHot en) false g.dest slot (eHotSlot en)))] a)

/-- R313, R314, R316, R317, R323 and R327: the queues of the experts. A push appends its item behind those that wait,
in a segment with room or a free one, and is refused where the queue is full or no segment is left; a pop gives the
oldest item and it leaves, or says that the queue is empty or its epoch has changed; a flush empties the queue and
opens an epoch; no other queue changes. A push refused leaves its item open, and no item comes or goes. A layer whose
descriptor is sound is enabled, another is not. R318 to R326: the routing operators, on a layer whose modules are this
one. ROUTE picks for each token its K slots, all different experts or none, and stores them; SCATTER accepts up to the
capacity of each expert and pushes the items expert by expert, those of a queue flushed meanwhile to the discard sink;
where a module's free segments do not suffice it ends before anything is pushed; COMBINE empties the queues one by one
unless it keeps them, or aborts where a queue's epoch has changed, and sums each token's slots, weighted; EXPERT_STATS
stores the counters and clears them if asked. That each command of a SCATTER or COMBINE carries out one expert's part
is the model's (log entry 146). -/
def Obligations.Experts : Prop :=
  (∀ s : State, s.running = true →
   (∀ m q, m < 4 → q < 2048 → s.activeModule m = true →
     let h := s.hq m q
     let only (t : State) : Prop := (∀ m' q', q' < 2048 → m' ≠ m ∨ q' ≠ q → t.hq m' q' = s.hq m' q') ∧
       Tells [] s { t with hqs := s.hqs, armed := s.armed, mem := s.mem, wbQueue := s.wbQueue }
     (h.changed = true → ∃ t, exec (.hqPop m q) s = .next t ∧ t.hq m q = { h with changed := false } ∧
       t.out = s.out ++ [.hqSignal m q .epochChanged] ∧ only t ∧ t.mem = s.mem) ∧
     (h.changed = false → s.hqItems m q = [] →
       exec (.hqPop m q) s = .next { s with out := s.out ++ [.hqSignal m q .empty] }) ∧
     (∀ x rest, h.changed = false → s.hqItems m q = x :: rest → ∃ t, exec (.hqPop m q) s = .next t ∧
       .hqItem m q (s.peek x.1 x.2) ∈ t.out ∧ t.hqItems m q = rest ∧ only t ∧ t.mem = s.mem) ∧
     (∀ item, s.hqItemOk m q item = true → s.sound → h.head ≤ (h.segs.map (·.2.length)).sum →
       let room := (∃ seg, h.segs.getLast? = some seg ∧ segRoom seg item.length = true) ∨ s.freeSegs m ≠ []
       (h.depth < s.hqCap m q → room → ∃ t a, exec (.hqPush m q item false) s = .next t ∧
         t.hqItems m q = s.hqItems m q ++ [(a, item.length)] ∧ t.peek a item.length = item ∧ only t ∧
         (h.depth = 0 → .hqSignal m q .notEmpty ∈ t.out) ∧ (h.depth + 1 = s.hqCap m q → .hqSignal m q .full ∈ t.out)) ∧
       (¬room → ∃ t, exec (.hqPush m q item false) s = .next t ∧ t.hq m q = { h with open_ := some item } ∧
         t.out = s.out ++ [.hqSignal m q .refused] ∧ only t ∧ t.mem = s.mem) ∧
       (s.hqCap m q ≤ h.depth → room → ∃ t a, exec (.hqPush m q item false) s = .next t ∧
         (t.hq m q).open_ = some item ∧ t.hqItems m q = s.hqItems m q ∧ t.peek a item.length = item ∧
         .hqSignal m q .refused ∈ t.out ∧ only t))) ∧
   (let m := s.reg AGT_HQ_SEL.MODULE
    let q := s.reg AGT_HQ_SEL.HQ
    (512 ≤ q → ∃ t, exec .hqFlush s = .next t ∧ t.hq m q = ⟨[], 0, ((s.hq m q).epoch + 1) % 2 ^ 16, true, none⟩ ∧
      ((s.hq m q).open_ ≠ none → t.reg AGT_HQ_DISCARD.COUNT (selD m) =
        min (s.reg AGT_HQ_DISCARD.COUNT (selD m) + 1) (2 ^ 32 - 1)) ∧
      Tells [AGT_HQ_DISCARD.COUNT.key (selD m)] s { t with hqs := s.hqs, armed := s.armed }) ∧
    (q < 512 → ∃ t, exec .hqFlush s = .next t ∧ t.reg AGT_STATUS.CFG_ERR = 1 ∧
      Touches [AGT_STATUS.CFG_ERR.key 0, GBL_ERR_SUMMARY.CFG_ERR.key 0] s t)) ∧
   (let l := s.reg AGT_LAYER_SEL.LAYER
    s.lyEn l = false →
    (s.layerSound l = true → ∃ t, exec .layerEnable s = .next t ∧ t.lyEn l = true ∧
      Touches [LY_CTRL.EN.key (lyD l)] s t) ∧
    (s.layerSound l = false → ∃ t, exec .layerEnable s = .next t ∧ t.reg AGT_STATUS.CFG_ERR = 1 ∧
      Touches [AGT_STATUS.CFG_ERR.key 0, GBL_ERR_SUMMARY.CFG_ERR.key 0] s t))) ∧
  ((∀ (k : Nat) (all norm : Bool) (x bias : List Nat), bias = [] ∨ bias.length = x.length → x.length < 0xFFFF →
     let r := routeToken k all norm x bias
     r.length = k ∧ (∀ y ∈ r, y.1 < x.length ∨ y = (0xFFFF, 0)) ∧ ((r.map (·.1)).filter (· != 0xFFFF)).Nodup) ∧
   ∀ (s : State) (tag : Nat) (io : OpIo) (o : Op) (e : Sqe), s.sound → io.upsets = [] →
   let l := e.fld 32 1
   let n := s.lyExperts l
   let k := e.fld 33 1
   let t := e.fld 36 4
   let stepKeys := LY_STEP.STEP.key (lyD l) :: (List.range n).flatMap fun x => [AGT_EXP_ROUTED.COUNT.key (expD l x),
     AGT_EXP_ACCEPTED.COUNT.key (expD l x), AGT_EXP_DROPPED.COUNT.key (expD l x), AGT_EXP_TOTAL.ACCEPTED.key (expD l x)]
   s.layerIssuer o e = true → s.layerReady l = true →
   (Runs s tag 0x0501 o e → s.routeErr e = none → s.inHw o e 7 →
     (∀ m ∈ modulesAt [(e.fld 40 8, 1), (e.fld 48 8, 1)], m = s.self) →
     let st := s.scoreStride e
     let b := s.peek (s.lin (e.fld 40 8)) (st * t)
     let ba := s.reg64 LY_BIAS_LO.ADDR LY_BIAS_HI.ADDR (lyD l)
     let bias := if ba = 0 then [] else (List.range n).map fun i => fieldLE (s.peek (s.lin ba) (4 * n)) (4 * i) 4
     let score (x i : Nat) : Nat :=
       if bit (e.fld 34 1) 2 then bf16.conv f32 (fieldLE b (st * x + 2 * i) 2) else f32At b (st * x + 4 * i)
     let routes := (List.range t).flatMap fun x =>
       routeToken k (bit (e.fld 34 1) 0) (bit (e.fld 34 1) 1) ((List.range n).map (score x)) bias
     ∃ u, exec (.route tag io) s = .next u ∧ u.reg LY_STEP.STEP (lyD l) = e.fld 56 4 ∧
       Operated stepKeys s u tag OK (some t) (some (if routes.any fun r => r.1 == 0xFFFF then 1 else 0))
         [(s.lin (e.fld 48 8), routes.flatMap fun r => leBytes 2 r.1 ++ leBytes 2 0 ++ leBytes 4 r.2)]) ∧
   (let p := s.peek (s.lin (e.fld 56 8)) 64
    (∀ m ∈ s.lyMods l, m = s.self) → o.prog = [] →
    let hqOf (u : State) (x : Nat) : Hq := u.hq (s.expMod l x) (s.expHq l x)
    (Runs s tag 0x0502 o e → s.scatterFields e (e.fld 34 1 < 2 && e.rsv [(35, 1)]) = none →
     allZero (byteSlice p 20 44) = true → s.lyPerm l = true ∨ fieldLE p 8 8 = 0 →
     s.rangesErr ([(e.fld 40 8, t * s.lyItem l), (e.fld 48 8, 8 * t * k), (fieldLE p 0 8, 4 * (n + 1))]
       ++ if s.lyPerm l then [(fieldLE p 8 8, 4 * t * k)] else []) = none →
     bit (e.fld 34 1) 0 = true ∨ s.layerBusy l = false →
     let w := if bit (e.fld 34 1) 0 then (s.flushLayer l).seenLayer l else s
     let slots := slotsOf (s.peek (s.lin (e.fld 48 8)) (8 * t * k)) t k
     let taken (x : Nat) : Nat := min (slots.filter (·.e == x)).length (s.lyCap l)
     let drop := (List.range n).any fun x => s.lyCap l < (slots.filter (·.e == x)).length
     let dests := (List.range n).filter fun x => 0 < taken x
     ((∀ m ∈ s.lyMods l, w.segsNeeded l m slots ≤ w.poolFree m) → ∃ u, exec (.scatter tag io) s = .next u ∧
       (dests.length < 2 → Ended u tag (if drop then OK_WITH_DROPS else OK) (some ((List.range n).map taken).sum)
         (some (if drop then 1 else 0))) ∧
       (1 < dests.length → (∃ q, u.op? tag = some q ∧ q.phase = .started ∧ q.prog ≠ []) ∧
         ∀ x ∈ dests.tail, (hqOf u x).segs = (hqOf w x).segs) ∧
       (∀ x, dests.head? = some x → (hqOf w x).segs = [] → (hqOf w x).head = 0 → (hqOf u x).depth = taken x) ∧
       u.reg LY_STEP.STEP (lyD l) = fieldLE p 16 4 ∧ ∀ x, x ≠ tag → u.op? x = s.op? x) ∧
     (s.poolFree s.self < s.segsNeeded l s.self slots → bit (e.fld 34 1) 0 = false → s.lyMods l = [s.self] →
       ∃ u, exec (.scatter tag io) s = .next u ∧
       Ended u tag ERR_POOL_EXHAUSTED (some (s.segsNeeded l s.self slots - s.poolFree s.self)) (some s.self) ∧
       Tells [AGT_POOL_EMPTY_CNT.COUNT.key 0] s { u with ops := s.ops })) ∧
    (Runs s tag 0x0503 o e → s.scatterFields e (e.fld 34 1 < 4 && (e.fld 35 1 == 1 || e.fld 35 1 == 4)) = none →
     allZero (byteSlice p 26 38) = true → 16 ≤ fieldLE p 24 2 → fieldLE p 24 2 ≤ 2048 →
     s.lyPerm l = true ∨ fieldLE p 8 8 = 0 →
     s.rangesErr ([(fieldLE p 0 8, 4 * (n + 1)), (e.fld 40 8, leNat (s.peek (s.lin (fieldLE p 0 8) + 4 * n) 4)
         * roundUp ((if e.fld 35 1 = 1 then 2 else 4) * fieldLE p 24 2) 16),
       (e.fld 48 8, t * roundUp ((if bit (e.fld 34 1) 0 then 2 else 4) * fieldLE p 24 2) 16)]
       ++ if s.lyPerm l then [(fieldLE p 8 8, 4 * t * k), (fieldLE p 16 8, 8 * t * k)] else []) = none →
     (bit (e.fld 34 1) 1 = true ∨ s.nextExpert l 0 = none → ∃ u, exec (.combine tag io) s = .next u ∧
       Ended u tag OK (some t) (some 0) ∧ u.hqs = s.hqs ∧ ∀ x, x ≠ tag → u.op? x = s.op? x) ∧
     (∀ x, bit (e.fld 34 1) 1 = false → s.nextExpert l 0 = some x → ∃ u, exec (.combine tag io) s = .next u ∧
       ((hqOf s x).changed = true → Ended u tag ABORT_FLUSH none (some 0x8000) ∧ (hqOf u x).changed = false ∧ u.mem = s.mem) ∧
       ((hqOf s x).changed = false → (hqOf u x).depth = 0 ∧ (∀ y, y < n → y ≠ x → hqOf u y = hqOf s y) ∧
         (s.nextExpert l (x + 1) = none → Ended u tag OK (some t) (some 0)) ∧
         (s.nextExpert l (x + 1) ≠ none → (∃ q, u.op? tag = some q ∧ q.phase = .started ∧ q.prog ≠ []) ∧ u.mem = s.mem)) ∧
       ∀ y, y ≠ tag → u.op? y = s.op? y))) ∧
   (o.prog ≠ [] → s.memWaits = false → (∀ m ∈ s.lyMods l, m = s.self ∧ s.activeModule m = true) →
    let hqOf (u : State) (x : Nat) : Hq := u.hq (s.expMod l x) (s.expHq l x)
    (∀ x more, Runs s tag 0x0502 o e → s.rangesErr [(e.fld 40 8, t * s.lyItem l)] = none →
     let r := decodeScatter o.prog
     r.slots = x :: more →
     let items := r.slots.takeWhile (·.e == x.e)
     let rest := r.slots.dropWhile (·.e == x.e)
     let flushed := (hqOf s x.e).epoch != r.epochs.getD x.e 0
     ∃ u, exec (.scatter tag io) s = .next u ∧ (∀ y, y ≠ tag → u.op? y = s.op? y) ∧
       (flushed = true → u.hqs = s.hqs ∧ u.mem = s.mem) ∧
       (flushed = false → (hqOf s x.e).segs = [] → (hqOf s x.e).head = 0 →
         ceilDiv items.length (s.itemsPerSeg l) ≤ (s.freeSegs (s.expMod l x.e)).length → (hqOf u x.e).depth = items.length) ∧
       (rest ≠ [] → u.op? tag = some { o with prog := encodeScatter { r with
         res := r.res.modify (s.expMod l x.e) (· - ceilDiv items.length (s.itemsPerSeg l)), cut := r.cut || flushed, slots := rest } }) ∧
       (rest = [] → (r.cut = true ∨ flushed = true → Ended u tag (if r.bad then ERR_POISON else ABORT_FLUSH) none (some 0x8000)) ∧
         (r.cut = false → flushed = false → Ended u tag
           (if r.bad then ERR_POISON else if r.dropped then OK_WITH_DROPS else OK) (some r.total) (some (if r.dropped then 1 else 0))))) ∧
    (Runs s tag 0x0503 o e → let r := decodeCombine o.prog
     ∀ x, s.nextExpert l r.next = some x → ∃ u, exec (.combine tag io) s = .next u ∧
       ((hqOf s x).changed = true → Ended u tag ABORT_FLUSH none (some 0x8000) ∧ (hqOf u x).changed = false ∧ u.mem = s.mem) ∧
       ((hqOf s x).changed = false → (hqOf u x).depth = 0 ∧ (∀ y, y < n → y ≠ x → hqOf u y = hqOf s y) ∧
         (s.nextExpert l (x + 1) = none → Ended u tag (if r.bad then ERR_POISON else OK) (some t) (some 0)) ∧
         (s.nextExpert l (x + 1) ≠ none → u.op? tag = some { o with prog := encodeCombine (s.combineQueue l x false r).1 } ∧
           u.mem = s.mem)) ∧
       ∀ y, y ≠ tag → u.op? y = s.op? y)) ∧
   (∀ (base stride ch : Nat) (b16 : Bool) (slots : List CSlot),
     let at_ (x : CSlot) (j : Nat) : Nat := if b16 then bf16.conv f32 (fieldLE (s.peek (base + x.row * stride) (2 * ch)) (2 * j) 2)
       else f32At (s.peek (base + x.row * stride) (4 * ch)) (4 * j)
     (mx s).combineToken base stride ch b16 slots =
       ((List.range ch).map fun j => sum32 (slots.map fun x => f32.mul x.w (at_ x j)), mx s)) ∧
   (Runs s tag 0x0504 o e → l < 16 → k < 2 → e.rsv [(34, 14), (56, 8)] = true → s.here [(e.fld 48 8, 64 + 32 * n)] →
     ∃ u, exec (.expertStats tag io) s = .next u ∧
       Operated stepKeys s u tag OK none none [(s.lin (e.fld 48 8), s.expertStats l)] ∧
       (k = 0 → u.regs = s.regs) ∧
       (k = 1 → ∀ x, x < n → u.reg AGT_EXP_ROUTED.COUNT (expD l x) = 0 ∧ u.reg AGT_EXP_ACCEPTED.COUNT (expD l x) = 0 ∧
         u.reg AGT_EXP_DROPPED.COUNT (expD l x) = 0)))

/-- R45, R331, R333 and R334: the links between modules. A cable seen or gone, training, retraining and their time limits; a
frame with a wrong CRC is counted and asks for the frame expected, once; frames are taken in the order of SEQ: one after a gap is
discarded with a NAK, one already received is discarded. What a link sends stays in its replay buffer of 128 frames until it is
acknowledged, and takes a credit. A self-test of its lanes waits for the end of the training. -/
def Obligations.SpanLinks : Prop := ∀ (s : State) (p : Nat), p < 4 →
  let d := spD p
  let l := s.link p
  (∀ high, ∃ n : Nat, (bit n p = !high) ∧ (∀ q, q ≠ p → bit n q = bit s.node.spres q) ∧
    let t : State := { s with node := { s.node with spres := n } }
    exec (.spresNChange p high) s = .next { (if s.ready then t.settlePorts else t) with pending := s.pending } ∧
    (high = true → s.regB SPAN_CTRL.EN = true → t.mayTrain p = false)) ∧
  (s.ready = true →
    (s.reg SPAN_P_STATUS.STATE d = 1 → ∃ u : State, u.reg SPAN_P_STATUS.STATE d = 0 ∧
      Touches [SPAN_P_STATUS.STATE.key d] s u ∧ exec (.spanTrainingTimeout p) s =
        .next { (u.pfEvent 0x0611 (some p)).endLaneTests p false with pending := s.pending }) ∧
    (∀ n, n ∈ [1, 2, 4] → s.mayTrain p = true → (s.dom (220 + 2 * p)).up = true → (s.dom (221 + 2 * p)).up = true →
      s.lanesFit p n = true → s.reg SPAN_P_STATUS.STATE d = 1 → ∃ w : State,
        w.reg SPAN_P_STATUS.STATE d = 2 ∧ w.reg SPAN_P_STATUS.LANES d = n ∧ w.link p = { linkReset with queue := l.queue } ∧
        Tells [SPAN_P_STATUS.STATE.key d, SPAN_P_STATUS.LANES.key d] s { w with links := s.links } ∧
        (∀ q, q ≠ p → w.link q = s.link q) ∧
        exec (.spanLinkTrained p n) s = .next { (w.pump p l.queue.length).endLaneTests p true with pending := s.pending }) ∧
    (∀ n, n ∈ [1, 2, 4] → s.mayTrain p = true → (s.dom (220 + 2 * p)).up = true → (s.dom (221 + 2 * p)).up = true →
      s.lanesFit p n = true → s.reg SPAN_P_STATUS.STATE d = 3 → l.queue = [] →
      (∀ x ∈ l.replay, x.2.hdr.seq < 4096) → s.anyHeld heldCal [1, p] = false →
      ∃ t, exec (.spanLinkTrained p n) s = .next t ∧ t.reg SPAN_P_STATUS.STATE d = 2 ∧
        (t.link p).replay = l.replay.map fun x => (x.1 + 1, x.2)) ∧
    (s.portUp p = true → l.replay ≠ [] → ∃ t, exec (.spanRetrain p) s = .next t ∧ t.reg SPAN_P_STATUS.STATE d = 3 ∧
      t.reg SPAN_P_RETRAIN.COUNT d = min (s.reg SPAN_P_RETRAIN.COUNT d + 1) (2 ^ 32 - 1) ∧
      Tells [SPAN_P_STATUS.STATE.key d, SPAN_P_RETRAIN.COUNT.key d] s t) ∧
    (s.reg SPAN_P_STATUS.STATE d = 3 → ∃ t, exec (.spanRetrainTimeout p) s = .next t ∧
      (s.isHead = false → t.reg SPAN_P_STATUS.STATE d = 0 ∧ t.reg SPAN_P_STATUS.LANES d = 0 ∧ t.mem = s.mem)) ∧
    (s.portUp p = true →
      (∃ t, exec (.spanFrameError p) s = .next t ∧
        t.reg SPAN_P_CRC_ERR.COUNT d = min (s.reg SPAN_P_CRC_ERR.COUNT d + 1) (2 ^ 32 - 1) ∧ (t.link p).nakked = true ∧
        (l.nakked = true → t.links = s.links)) ∧
      (∀ h, exec (.spanIdleFrame p h) s = .next { s.takeAck p h with pending := s.pending }) ∧
      (∀ (h : FrameHdr) (seq : Nat), h.seq % 4096 = l.rxSeq →
        let t := (s.setLink p { l with rxSeq := (l.rxSeq + 1) % 4096, nakked := false, owed := l.owed }).takeAck p h
        exec (.nak p h seq) s =
          .next { (if t.epochOk h then t.resend p seq else t).payBack p with pending := s.pending }) ∧
      (∀ (h : FrameHdr) (a b epoch : Nat) (hl : Hello) (x : Exchange) (ok : Bool) (r : List Nat) (w : RemoteWork)
          (io : OpIo) (bs : Bytes) (cw : CtrlWork) (c : Instr), h.seq % 4096 ≠ l.rxSeq →
        c ∈ [Instr.nak p h a, .hello p h hl, .helloRsp p h x, .join p h hl, .joinAck p h b epoch ok r, .leave p h,
          .req p h w ok io, .rsp p h bs ok, .ctrl p h cw] →
        (laterThan 12 h.seq l.rxSeq = false ∨ l.nakked = true → exec c s = .next s) ∧
        (laterThan 12 h.seq l.rxSeq = true → l.nakked = false → ∃ t, exec c s = .next t ∧ (t.link p).nakked = true ∧
          (t.link p).rxSeq = l.rxSeq ∧ t.mem = s.mem ∧ t.ops = s.ops)))) ∧
  (∀ n, let t := s.pump p n
    (t.link p).queue.length + (t.link p).replay.length = l.queue.length + l.replay.length ∧
    (l.replay.length ≤ 128 → (t.link p).replay.length ≤ 128) ∧
    (∀ q, q ≠ p → t.link q = s.link q) ∧ (∀ x ∈ l.replay, x ∈ (t.link p).replay)) ∧
  (∀ tag o bad r x up, s.op? tag = some o → o.phase = .held heldLanes [p, bad, r, x] →
    if up = true ∨ bad = 1 then Ended (s.endLaneTests p up) tag OK (some r) (some x)
    else Ended (s.endLaneTests p up) tag ERR_SPAN_LOST none none)

/-- R73, R335 to R343: HELLO, which wakes its port's domains, its answers, remote parts and control frames at a link that is up and in order. A REQ is carried out by the
module it names while that is ACTIVE; the last answer ends its operation with the outcome kept for it; READY makes a
member ACTIVE; the head's routes end a member's catch-up; a member's time is judged by its offset. -/
def Obligations.SpanTraffic : Prop := ∀ (s : State),
  (s.ready = true → s.regB SPAN_CTRL.EN = true → ∃ t, exec .helloTransmit s = .next t ∧ t.mem = s.mem ∧ t.ops = s.ops ∧
    ((∀ p, p < 4 → s.portUp p = false) → s.numbered = false → t = s)) ∧
  (∀ (p : Nat) (h : FrameHdr), p < 4 → s.ready = true → s.portUp p = true → h.seq % 4096 = (s.link p).rxSeq →
    let l := s.link p
    let got (v : Nat) : State := (s.setLink p { l with rxSeq := (l.rxSeq + 1) % 4096, nakked := false,
                                                       owed := l.owed.modify v (· + 1) }).takeAck p h
    let takes (c : Instr) (u : State) : Prop := exec c s = .next { u.payBack p with pending := s.pending }
    let woken := ((got 0).wakeOn (220 + 2 * p) 7).wakeOn (221 + 2 * p) 7
    (∀ hl : Hello, hl.corr = 0 → let t := woken.notePeer p hl
      t.numbered = true → h.dst ≠ t.self → h.dst = 0 → t.isHead = false → takes (.hello p h hl) (t.passHello h hl)) ∧
    (∀ hl : Hello, hl.corr = 0 → let t := woken.notePeer p hl
      t.numbered = false ∨ h.dst = t.self ∨ h.dst ≠ 0 ∨ t.isHead = true →
        takes (.hello p h hl) ((t.helloFromHead hl).answerHello h hl)) ∧
    (∀ hl : Hello, hl.corr ≠ 0 → h.dst ≠ woken.self → takes (.hello p h hl) (woken.passHello h hl)) ∧
    (∀ hl : Hello, hl.corr ≠ 0 → h.dst = woken.self →
      takes (.hello p h hl) ((woken.helloFromHead hl).answerHello h hl)) ∧
    (∀ x, h.dst = (got 0).self → takes (.helloRsp p h x) ((got 0).exchange x)) ∧
    (∀ w io, (got 1).epochOk h = true → h.dst = (got 1).self → (got 1).partHere w = true →
      takes (.req p h w false io) (((got 1).plant io.upsets).doPart h w)) ∧
    (∀ w b io, (got 1).epochOk h = true → h.dst = (got 1).self → b = true ∨ (got 1).partHere w = false →
      takes (.req p h w b io) (got 1)) ∧
    (∀ bs b, (got 2).epochOk h = true → h.dst = (got 2).self → h.tag ≠ 0 →
      takes (.rsp p h bs b) ((got 2).partDone (h.tag - 1) h.src)) ∧
    (∀ cw, (got 0).epochOk h = true → h.dst = (got 0).self → takes (.ctrl p h cw) ((got 0).doCtrl h.src cw)) ∧
    (∀ cw, (got 0).epochOk h = false → takes (.ctrl p h cw) (got 0))) ∧
  (∀ (h : FrameHdr) a n, s.sound → s.doPart h (.read a n) = s.answerPart h (bit a 8) (s.peek (s.lin a) n) false) ∧
  (∀ (h : FrameHdr) a bs, s.sound → ∃ u : State, (∀ k, u.byteAt k = s.stored [(s.lin a, bs)] k) ∧
    u = { s with mem := u.mem, wbQueue := u.wbQueue } ∧ s.doPart h (.write a bs []) = u.answerPart h (bit a 8) [] false) ∧
  (∀ tag m o st r d ms, (s.ops.map (·.1)).Pairwise (· < ·) → s.op? tag = some o → o.phase = .held heldRemote (st :: r :: d :: ms) →
    (ms.filter (· != m) = [] → Ended (s.partDone tag m) tag st (decOpt r) (decOpt d)) ∧
    (ms.filter (· != m) ≠ [] → ∃ q, (s.partDone tag m).op? tag = some q ∧
      q.phase = .held heldRemote (st :: r :: d :: ms.filter (· != m)))) ∧
  (∀ m, m < 4 → s.isHead = true → s.memState m = memJoining → (s.memberReady m).memState m = memActive) ∧
  (∀ t r, s.isMember = true ∨ s.node.acked = true →
    s.doCtrl 0 (.commitRecord t r) = { s with records := s.records ++ [(s.self, t, r)] }) ∧
  (∀ e r, e < 2 ^ 32 → s.isMember = true ∨ s.node.acked = true → let t := s.takeRoutes e r
    t.reg SPAN_EPOCH.EPOCH = e ∧ t.reg SPAN_ROUTE.ROUTE = routeWord r ∧ t.node.acked = false ∧
    (s.node.acked = true → t.spanState = stActive) ∧ (s.node.acked = false → t.spanState = s.spanState)) ∧
  (∀ off : Int, let t := s.judgeOffset off
    ((s.timeTol : Int) < off.natAbs → t.node.goodRun = 0 ∧ t.node.badRun = min 3 (s.node.badRun + 1) ∧
      (2 ≤ s.node.badRun → t.regB SPAN_STATUS.TIME_SUSPECT = true)) ∧
    ((off.natAbs : Int) ≤ s.timeTol → t.node.badRun = 0 ∧ t.node.goodRun = min 8 (s.node.goodRun + 1) ∧
      (7 ≤ s.node.goodRun → t.regB SPAN_STATUS.TIME_SUSPECT = false)))

/-- R116, R337 to R340, R344, R347, R349 and Table 14-6: who belongs to a span. -/
def Obligations.SpanMembership : Prop := ∀ s : State, s.ready = true → s.running = true → (s.ops.map (·.1)).Pairwise (· < ·) →
  let epoch := s.reg SPAN_EPOCH.EPOCH
  (s.reg SPAN_CTRL.ROLE = roleHead → ∃ t, exec .spanForm s = .next t ∧ t.spanState = stHead ∧
    t.reg SPAN_EPOCH.EPOCH = (epoch + 1) % 2 ^ 32 ∧ (∀ m, m ∈ [1, 2, 3] → t.memState m = memAbsent) ∧
    SMap.get? t.staged (SPAN_DIGEST_LO.DIGEST.key 0) = none) ∧
  (s.reg SPAN_CTRL.ROLE ≠ roleHead → ∃ t, exec .spanForm s = .next t ∧ t.reg SPAN_STATUS.CFG_ERR = 1 ∧
    Touches [SPAN_STATUS.CFG_ERR.key 0, GBL_ERR_SUMMARY.CFG_ERR.key 0] s t) ∧
  (∀ m, m ∈ [1, 2, 3] → s.memIn m = true →
    let lost (t : State) (reason : Nat) : Prop := t.memState m = memLost ∧
      t.reg SPAN_MEMBER_STATUS.REASON (4 * m) = reason ∧ t.isHead = true ∧ t.reg SPAN_EPOCH.EPOCH ≠ epoch ∧
      ∀ tag o args, s.op? tag = some o → o.phase = .held heldRemote args → m ∈ args.drop 3 →
        Ended t tag ERR_SPAN_LOST none none
    epoch < 2 ^ 32 →
    (∃ t, exec (.memberLost m) s = .next t ∧ lost t 1) ∧
    (s.reg SPAN_CTRL.ROLE = roleHead → ∃ t, exec (.spanRemove m) s = .next t ∧ lost t 5) ∧
    (∀ tag o args, s.op? tag = some o → o.phase = .held heldRemote args → m ∈ args.drop 3 →
      ∃ t, exec (.remoteTimeout tag m) s = .next t ∧ lost t 3) ∧
    (∀ (p : Nat) (h : FrameHdr), p < 4 → s.portUp p = true → h.seq % 4096 = (s.link p).rxSeq → h.src = m →
      let l := s.link p
      let u := (s.setLink p { l with rxSeq := (l.rxSeq + 1) % 4096, nakked := false,
                                     owed := l.owed.modify 0 (· + 1) }).takeAck p h
      u.epochOk h = true → h.dst = u.self → u.memIn m = true →
      exec (.leave p h) s = .next { (u.loseMember m 4).payBack p with pending := s.pending })) ∧
  (s.inSpan = true → ∃ t, exec .spanLeaveReset s = .next t ∧ t.spanState = stAlone ∧ t.self = 0 ∧
    t.reg SPAN_ROUTE.ROUTE = 0 ∧ t.node.acked = false) ∧
  (s.inSpan = true → s.reg SPAN_CTRL.ROLE = roleMember → ∃ t, exec .spanCtrlLeave s = .next t ∧ t.spanState = stAlone ∧
    t.self = 0) ∧
  (s.spanState = stActive → ∃ t, exec .headLost s = .next t ∧ t.spanState = stHold ∧ t.self = s.self ∧
    t.node.expired = false ∧ t.mem = s.mem ∧ t.ops = s.ops) ∧
  (s.spanState = stHold → s.node.expired = false → ∃ t, exec .holdExpired s = .next t ∧ t.spanState = stHold ∧
    t.self = s.self ∧ t.node.expired = true) ∧
  (s.spanState = stJoining → s.node.acked = false → s.regB SPAN_CTRL.EN = true → s.reg SPAN_CTRL.ROLE = roleMember →
    let u := (s.applyStaged SPAN_DIGEST_LO.DIGEST).applyStaged SPAN_DIGEST_HI.DIGEST
    exec .joinTransmit s = .next { u.sendTo 0 0 0 (.join u.helloNow) with pending := s.pending }) ∧
  (∀ val, val < 2 ^ 64 → ∃ u : State, u.regRead SPAN_DIGEST_LO.DIGEST = val % 2 ^ 32 ∧
    u.regRead SPAN_DIGEST_HI.DIGEST = val / 2 ^ 32 ∧ u = { s with staged := u.staged } ∧
    (s.spanState ≠ stQuarantine → exec (.spanDigestWrite val) s = .next u) ∧
    (s.spanState = stQuarantine → exec (.spanDigestWrite val) s = .next { u.sendJoin with pending := s.pending })) ∧
  (∀ (p : Nat) (h : FrameHdr) (j : Hello), p < 4 → s.portUp p = true → h.seq % 4096 = (s.link p).rxSeq →
    let l := s.link p
    let u := (s.setLink p { l with rxSeq := (l.rxSeq + 1) % 4096, nakked := false,
                                   owed := l.owed.modify 0 (· + 1) }).takeAck p h
    (u.isHead = true → exec (.join p h j) s = .next { (u.judgeJoin j).payBack p with pending := s.pending }) ∧
    ∀ m e ok r, m < 4 → u.numbered = false ∨ u.self = m → exec (.joinAck p h m e ok r) s =
      .next { (u.takeAckOfJoin m e ok r).payBack p with pending := s.pending }) ∧
  (∀ j : Hello, s.isHead = true → let t := s.judgeJoin j
    (j.spanId ≠ s.reg SPAN_ID.ID ∨ s.listed j.serial = none →
      t = s.pfEvent 0x0613 (some 1) j.serial) ∧
    (∀ m, j.spanId = s.reg SPAN_ID.ID → s.listed j.serial = some m →
      (s.memState m = memActive ∨ s.memState m = memJoining → t = s.pfEvent 0x0613 (some 2) j.serial) ∧
      (s.memState m ≠ memActive → s.memState m ≠ memJoining → s.modeStaged 12 = false → s.anyHeld heldMode [12] = false →
        s.regB MODE_F.MODE 48 = false → (s.handoffs.any fun x => x.func == 12 && x.args.headD 4 == m) = false →
        (j.digest = s.digest → j.version = s.fwVersion → t.memState m = memJoining ∧
          t.reg SPAN_EPOCH.EPOCH = (epoch + 1) % 2 ^ 32) ∧
        (j.digest ≠ s.digest ∨ j.version ≠ s.fwVersion → t.memState m = memQuarantine ∧
          t.reg SPAN_EPOCH.EPOCH = epoch)))) ∧
  (∀ m e ok r, m < 4 → e < 2 ^ 32 → s.spanState = stJoining → let t := s.takeAckOfJoin m e ok r
    t.self = m ∧ t.reg SPAN_EPOCH.EPOCH = e ∧ t.reg SPAN_ROUTE.ROUTE = routeWord r ∧ t.node.acked = ok ∧
    t.spanState = if ok then stJoining else stQuarantine)

/-- R343 to R346: operators over the span. SPAN_SYNC waits until each module it names has confirmed the epoch; SPAN_ALLREDUCE stores
the elements reduced in ascending module number on every module; an operation with parts on other modules is held until they have
answered, and ends with ERR_SPAN_LOST where one of them has left. -/
def Obligations.SpanOperators : Prop := ∀ (s : State) (tag : Nat) (io : OpIo) (o : Op) (e : Sqe),
  (s.ops.map (·.1)).Pairwise (· < ·) →
  (Runs s tag 0x0701 o e → e.fld 32 1 < 16 → e.fld 33 1 < 2 → e.rsv [(34, 30)] = true →
    let mods := e.fld 32 1
    let far := (List.range 4).filter fun m => bit mods m && m != s.self
    let own := if bit mods s.self then 2 ^ s.self else 0
    ((∃ m ∈ far, s.activeModule m = false) → ∃ t, exec (.spanSync tag io) s = .next t ∧
      Ended t tag ERR_SPAN_LOST (some own) none ∧ t = { s with ops := t.ops }) ∧
    (far = [] → ∃ t, exec (.spanSync tag io) s = .next t ∧
      Ended t tag OK (some mods) (if e.fld 33 1 = 1 then some (s.worstOffset mods) else none)) ∧
    (far ≠ [] → (∀ m ∈ far, s.activeModule m = true) → ∃ t, exec (.spanSync tag io) s = .next t ∧
      (∃ p, t.op? tag = some p ∧ p.phase = .held heldSync [mods, own, e.fld 33 1]) ∧ t.mem = s.mem)) ∧
  (Runs s tag 0x0702 o e → s.sound → io.upsets = [] → s.reduceErr e = none →
    let ms := maskMods (e.fld 34 1)
    let len := reduceSize (e.fld 33 1) * e.fld 36 4
    let out := reduceAll (e.fld 32 1) (e.fld 33 1) (e.fld 36 4) (ms.map fun m => s.peek (m * moduleSpan + e.fld 40 8) len)
    ∃ u : State, exec (.spanAllreduce tag io) s =
        .next { u.finishVia tag OK (some (e.fld 36 4)) none ms with pending := s.pending } ∧
      (∀ a, u.byteAt a = s.stored (ms.map fun m => (m * moduleSpan + e.fld 48 8, out)) a) ∧
      u = { s with mem := u.mem, wbQueue := u.wbQueue }) ∧
  (∀ st r d ms, s.op? tag = some o → let far := ms.filter (· != s.self)
    let t := s.finishVia tag st r d ms
    (far = [] → Ended t tag st r d ∧ t = { s with ops := t.ops }) ∧
    ((∃ m ∈ far, s.activeModule m = false) → Ended t tag ERR_SPAN_LOST none none ∧ t = { s with ops := t.ops }) ∧
    (far ≠ [] → (∀ m ∈ far, s.activeModule m = true) →
      t.op? tag = some { o with phase := .held heldRemote ([st, encOpt r, encOpt d] ++ far), since := s.ticks } ∧
      (∀ x, x ≠ tag → t.op? x = s.op? x) ∧ t.mem = s.mem))

/-- R353, R354, R355 and R362: a read reaches a line. A poisoned line, and a line without error, are read as they are. A
correctable error is counted, and written back where that is asked for; an uncorrectable one, or any read on a FAILED
channel, poisons the line, is logged and counted. No byte changes. What a read finds in a line of another module's package memory is
neither counted nor logged here (DEDUCED, log entry 148). -/
def Obligations.LineReads : Prop := ∀ (s : State) (k : ReadKind) (line : Nat),
  let c := channelOf line
  let ue := s.lineFailed line || SMap.get s.ueLines line false
  let t := s.touch k line
  t.mem = s.mem ∧ (∀ l, l ≠ line → t.isPoison l = s.isPoison l) ∧
  (s.isPoison line = true → t = s) ∧
  (s.isPoison line = false → ue = false → SMap.get s.ceLines line false = false → t = s) ∧
  (s.isPoison line = false → ue = false → SMap.get s.ceLines line false = true → t.isPoison line = false ∧
    (isShelf line = true → t.reg ZRC_SRAM_CE_CNT.COUNT = min (s.reg ZRC_SRAM_CE_CNT.COUNT + 1) (2 ^ 32 - 1) ∧
      SMap.get t.ceLines line false = false ∧ Tells [ZRC_SRAM_CE_CNT.COUNT.key 0] s { t with ceLines := s.ceLines }) ∧
    (s.lineAway line = true → SMap.get t.ceLines line false = false ∧ t = { s with ceLines := t.ceLines }) ∧
    (isShelf line = false → s.lineAway line = false →
      t.reg ZRC_C_CE_CNT.COUNT (0x20 * c) = min (s.reg ZRC_C_CE_CNT.COUNT (0x20 * c) + 1) (2 ^ 32 - 1) ∧
      Tells [ZRC_C_CE_CNT.COUNT.key (0x20 * c)] s
        { t with ceLines := s.ceLines, wbQueue := s.wbQueue, armed := s.armed } ∧
      (k = .region true → SMap.get t.ceLines line false = false ∧ t.wbQueue = s.wbQueue) ∧
      (k = .region false → t.ceLines = s.ceLines ∧ t.wbQueue = s.wbQueue) ∧
      (k = .demand ∨ k = .scrub → t.ceLines = s.ceLines ∧
        (s.regB ZRC_CTRL.CE_WRITEBACK = true → (SMap.get s.wbQueue c []).length < 16 →
          line ∈ SMap.get t.wbQueue c []) ∧
        (s.regB ZRC_CTRL.CE_WRITEBACK = false → t.wbQueue = s.wbQueue)))) ∧
  (s.isPoison line = false → ue = true → t.isPoison line = true ∧
    (s.lineAway line = true → t.plog = s.plog ∧ t.reg ZRC_PLOG_WR.COUNT = s.reg ZRC_PLOG_WR.COUNT ∧
      t.reg ZRC_C_UE_CNT.COUNT (0x20 * c) = s.reg ZRC_C_UE_CNT.COUNT (0x20 * c)) ∧
    (s.lineAway line = false → t.reg ZRC_PLOG_WR.COUNT = (s.reg ZRC_PLOG_WR.COUNT + 1) % 2 ^ 32 ∧
      SMap.get? t.plog (s.reg ZRC_PLOG_WR.COUNT % 64) = some (if isShelf line then ⟨plogAddr line, 5, 0, 0⟩
        else ⟨plogAddr line, k.source, (s.ownerOf line).1, (s.ownerOf line).2.1⟩)) ∧
    (isShelf line = true → t.reg ZRC_SRAM_UE_CNT.COUNT = min (s.reg ZRC_SRAM_UE_CNT.COUNT + 1) (2 ^ 32 - 1)) ∧
    (isShelf line = false →
      (s.lineAway line = false →
        t.reg ZRC_C_UE_CNT.COUNT (0x20 * c) = min (s.reg ZRC_C_UE_CNT.COUNT (0x20 * c) + 1) (2 ^ 32 - 1)) ∧
      (k ≠ .demand → (s.ownerOf line).1 = 1 → t.searches = s.searches ++ [line])))

/-- R14, R72, R353, R358, R359, R361, R364 and R365: Zircon's own work. A write-back makes the oldest corrected line fresh; a scrub
burst reads the next 64 lines of a channel and moves SCRUB_POS on, or ends the pass; a retraining in time leaves a channel
good, one that fails twice leaves it degraded, and the third such in a row FAILED, and one that falls due in self-refresh is kept
for the exit; a search marks every row whose record
has bytes in the poisoned line. CE_THRESH written arms its events anew. -/
def Obligations.ZirconWorks : Prop := ∀ (s : State) (c : Nat), c < 8 → s.power.on = true →
  let d := 0x20 * c
  let up := (s.dom (188 + c)).up
  (∀ l ls, SMap.get s.wbQueue c [] = l :: ls → up = true → s.channelFailed c = false → channelOf l = c →
    ∃ t, exec (.ceWriteback c) s = .next t ∧ SMap.get t.wbQueue c [] = (l :: ls).filter (· ≠ l) ∧
      SMap.get t.ceLines l false = false ∧ SMap.get t.ueLines l false = false ∧ t.isPoison l = false ∧
      (∀ x, x ≠ l → SMap.get t.ceLines x false = SMap.get s.ceLines x false ∧
        SMap.get t.ueLines x false = SMap.get s.ueLines x false ∧ t.isPoison x = s.isPoison x) ∧
      t = { s with ceLines := t.ceLines, ueLines := t.ueLines, poison := t.poison, wbQueue := t.wbQueue }) ∧
  (s.ready = true → s.regB ZRC_CTRL.SCRUB_EN = true →
    let p := s.reg ZRC_C_SCRUB_POS.LINES d
    let quiet : Prop := ∀ l ∈ s.searches, ∀ v dm, let tb := (s.ownerOf l).2.1
      s.segmentOf tb l = some (v, dm) → s.inDir tb v dm l = false
    (∀ us, up = true → ∃ t, exec (.scrubBurst c us) s = .next t ∧
      (quiet → (∀ i, i < min 64 (channelLines - p) → (s.ownerOf (s.channelLine c (p + i))).1 ≠ 1) →
        t.mem = (s.plant us).mem ∧ t.searches = s.searches ∧
        ∀ i, i < min 64 (channelLines - p) → SMap.get (s.plant us).ueLines (s.channelLine c (p + i)) false = true →
          t.isPoison (s.channelLine c (p + i)) = true) ∧
      (p + 64 < channelLines → t.reg ZRC_C_SCRUB_POS.LINES d = p + 64 ∧
        t.reg ZRC_C_PASSES.COUNT d = s.reg ZRC_C_PASSES.COUNT d) ∧
      (channelLines ≤ p + 64 → t.reg ZRC_C_SCRUB_POS.LINES d = 0 ∧ SMap.get t.scrubTold c false = false ∧
        t.reg ZRC_C_PASSES.COUNT d = (s.reg ZRC_C_PASSES.COUNT d + 1) % 2 ^ 32) ∧
      (s.sound → us = [] → ∀ l, t.isPoison l = false)) ∧
    (SMap.get s.scrubTold c false = false → ∃ u : State,
      exec (.scrubBehind c) s = .next (u.pfEvent 0x0508 (some c) (channelLines - p)) ∧
      SMap.get u.scrubTold c false = true ∧ u = { s with scrubTold := u.scrubTold }) ∧
    (SMap.get s.scrubTold c false = true → exec (.scrubBehind c) s = .next s)) ∧
  (∀ ns ok retryOk, up = false → s.channelFailed c = false → exec (.dramRetraining c ns ok retryOk) s =
    .next { s with retrainDue := SMap.ins s.retrainDue c (ns, ok, retryOk) }) ∧
  (∀ n ns ok retryOk, n = 188 + c → SMap.get? s.retrainDue c = some (ns, ok, retryOk) → s.selfRefreshExit n =
    ({ s with retrainDue := SMap.del s.retrainDue c } : State).retrained c ns ok retryOk) ∧
  (∀ ns ok retryOk, up = true → s.channelFailed c = false → ∃ t, exec (.dramRetraining c ns ok retryOk) s = .next t ∧
    t.reg ZRC_C_STATE.RETRAIN_NS d = min ns 0xFFF ∧
    t.reg ZRC_C_RETRAIN_FAIL.COUNT d = (if ok then s.reg ZRC_C_RETRAIN_FAIL.COUNT d
      else min (s.reg ZRC_C_RETRAIN_FAIL.COUNT d + if retryOk then 1 else 2) (2 ^ 32 - 1)) ∧
    (let n := SMap.get s.retrainRun c 0 + 1
     if ok || retryOk then t.reg ZRC_C_STATE.STATE d = 0 ∧ SMap.get t.retrainRun c 0 = 0
     else t.reg ZRC_C_STATE.STATE d = (if n ≥ 3 then 2 else 1) ∧ SMap.get t.retrainRun c 0 = n) ∧
    (∀ x, x ≠ c → SMap.get t.retrainRun x 0 = SMap.get s.retrainRun x 0) ∧
    (∀ tag o, s.op? tag = some o →
      t.op? tag = some (if o.phase = .held heldCal [0, c] then { o with phase := .done OK (some (min ns 0xFFF)) none }
        else o)) ∧
    Tells [ZRC_C_STATE.RETRAIN_NS.key d, ZRC_C_STATE.STATE.key d, ZRC_C_RETRAIN_FAIL.COUNT.key d] s
      { t with retrainRun := s.retrainRun, ops := s.ops }) ∧
  (∀ v, s.running = true → ∃ t, exec (.thresholdWrite v) s = .next t ∧ t.reg ZRC_CE_THRESH.COUNT = v % 2 ^ 32 ∧
    SMap.get t.armed (satWord ZRC_C_CE_CNT.COUNT d) false = decide (v % 2 ^ 32 ≤ s.reg ZRC_C_CE_CNT.COUNT d) ∧
    Tells [ZRC_CE_THRESH.COUNT.key 0] s { t with armed := s.armed }) ∧
  (∀ line, s.running = true → line ∈ s.searches → s.coresFailed = false →
    let u : State := { s with searches := s.searches.filter (· ≠ line) }
    let o := s.ownerOf line
    (s.isPoison line = false ∨ s.segmentOf o.2.1 line = none → exec (.directorySearch line) s = .next u) ∧
    (∀ v dm, s.isPoison line = true → s.segmentOf o.2.1 line = some (v, dm) → s.inDir o.2.1 v dm line = false →
      let dir (a : Nat) : Prop := s.dirAt o.2.1 v dm ≤ a ∧ a < s.dirAt o.2.1 v dm + 8 * s.tRows o.2.1
      (∀ a, dir a → s.isPoison (a / 64) = false ∧ SMap.get s.ueLines (a / 64) false = false ∧
        s.lineFailed (a / 64) = false) →
      ∃ t, exec (.directorySearch line) s = .next t ∧ t.searches = u.searches ∧ (∀ a, ¬dir a → t.byteAt a = s.byteAt a) ∧
        ∀ r, r < s.tRows o.2.1 → let en := s.rawEntry o.2.1 v dm r
          eBad (t.rawEntry o.2.1 v dm r) = (eBad en || s.recTouches o.2.1 v dm line en)))

/-- R29, R352, R392 and R393: COPY and FILL. In sound memory the destination holds the bytes of the source, or the pattern repeated,
and RESULT is 0. A copy from poisoned lines poisons the destination lines that would take their bytes, counts them in RESULT and ends
with ERR_POISON; a fill of whole lines clears their poison. A host range is reached by DMA, with a PCIe error as ERR_ACCESS. -/
def Obligations.Movers : Prop := ∀ (s : State) (tag : Nat) (io : OpIo) (o : Op) (e : Sqe), io.upsets = [] →
  let n := e.fld 56 8
  let src := s.lin (e.fld 40 8)
  let dst := s.lin (e.fld 48 8)
  (Runs s tag 0x0601 o e → e.rsv [(33, 7)] = true → e.fld 40 8 % 16 = 0 → e.fld 48 8 % 16 = 0 → moveLenOk n = true →
    (e.fld 32 1 = 0 → (dst + n ≤ src ∨ src + n ≤ dst) → s.here [(e.fld 40 8, n), (e.fld 48 8, n)] →
      (s.sound → ∃ t, exec (.copy tag io) s = .next t ∧
        Operated [] s t tag OK (some 0) none [(dst, s.peek src n)]) ∧
      (s.ceLines = [] → s.ueLines = [] → (∀ c < 8, s.channelFailed c = false) → (∀ l ∈ linesOf dst n, s.isPoison l = false) →
        let bad := (linesOf dst n).filter fun l => (List.range n).any fun i =>
          (dst + i) / 64 == l && s.isPoison ((src + i) / 64)
        ∃ t, exec (.copy tag io) s = .next t ∧
          Ended t tag (if bad = [] then OK else ERR_POISON) (some bad.length) none ∧
          (∀ l, t.isPoison l = (s.isPoison l || bad.contains l)) ∧
          (∀ a, a / 64 ∉ bad → t.byteAt a = s.stored [(dst, s.peek src n)] a) ∧
          (bad ≠ [] → t.reg ZRC_PLOG_WR.COUNT = (s.reg ZRC_PLOG_WR.COUNT + bad.length) % 2 ^ 32) ∧
          t.out = s.out ∧ ∀ x, x ≠ tag → t.op? x = s.op? x)) ∧
    (e.fld 32 1 = 2 → s.here [(e.fld 40 8, n)] → s.sound → ∃ t, exec (.copy tag io) s = .next t ∧
      Ended t tag (if io.hostOk then OK else ERR_ACCESS) (if io.hostOk then some 0 else none) none ∧
      t = { s with ops := t.ops, out := s.out ++ [.dma o.inst (e.fld 48 8) (s.peek src n) []] } ∧
      ∀ x, x ≠ tag → t.op? x = s.op? x) ∧
    (e.fld 32 1 = 1 → s.here [(e.fld 48 8, n)] → s.sound → io.hostOk = true → io.hostPoison = [] → ∃ t,
      exec (.copy tag io) s = .next t ∧ Ended t tag OK (some 0) none ∧
      (∀ a, t.byteAt a = s.stored [(dst, byteSlice io.host 0 n)] a) ∧
      t.out = s.out ++ [.hostRead o.inst (e.fld 40 8) n] ∧ (∀ x, x ≠ tag → t.op? x = s.op? x) ∧
      Touches [] s { t with mem := s.mem, ops := s.ops, wbQueue := s.wbQueue, out := s.out })) ∧
  (Runs s tag 0x0602 o e → e.fld 32 1 < 2 → e.rsv [(33, 3), (40, 8)] = true → e.fld 48 8 % 16 = 0 → moveLenOk n = true →
    (e.fld 32 1 = 1 → ∃ t, exec (.fill tag io) s = .next t ∧
      Ended t tag (if io.hostOk then OK else ERR_ACCESS) (if io.hostOk then some 0 else none) none ∧
      t = { s with ops := t.ops, out := s.out ++ [.dma o.inst (e.fld 48 8) (patternBytes (e.fld 36 4) n) []] } ∧
      ∀ x, x ≠ tag → t.op? x = s.op? x) ∧
    (e.fld 32 1 = 0 → s.here [(e.fld 48 8, n)] →
      (s.sound → ∃ t, exec (.fill tag io) s = .next t ∧
        Operated [] s t tag OK (some 0) none [(dst, patternBytes (e.fld 36 4) n)]) ∧
      ((∀ c < 8, s.channelFailed c = false) → dst % 64 = 0 → n % 64 = 0 → ∃ t, exec (.fill tag io) s = .next t ∧
        Ended t tag OK (some 0) none ∧ (∀ a, t.byteAt a = s.stored [(dst, patternBytes (e.fld 36 4) n)] a) ∧
        ∀ l, t.isPoison l = if dst / 64 ≤ l ∧ l < (dst + n) / 64 then false else s.isPoison l)))

/-- R360 and R387: SCRUB_REGION and DOMAIN_HINT. A scrub of lines that show no new error counts the poisoned lines of its
range in RESULT and lists the first OUT_CAP of them; no other byte changes. A hint that finds every named domain up only
raises its hold; one that does not wait completes at once with the count of domains it wakes. -/
def Obligations.RegionScrubsAndHints : Prop := ∀ (s : State) (tag : Nat) (io : OpIo) (o : Op) (e : Sqe), io.upsets = [] →
  (Runs s tag 0x0603 o e → e.fld 32 1 < 2 → e.rsv [(33, 3)] = true → e.fld 40 8 % 64 = 0 → e.fld 48 8 % 64 = 0 →
    e.fld 40 8 / moduleSpan = s.self → e.fld 40 8 % moduleSpan + e.fld 48 8 ≤ localEnd → s.self < 4 →
    s.here (optRange (e.fld 56 8) (8 * e.fld 36 4)) →
    s.ceLines = [] → s.ueLines = [] → (∀ c < 8, s.channelFailed c = false) →
    (∀ l ∈ s.searches, ∀ v dm, let tb := (s.ownerOf l).2.1
      s.segmentOf tb l = some (v, dm) → s.inDir tb v dm l = false) →
    let bad := (linesOf (e.fld 40 8) (e.fld 48 8)).filter s.isPoison
    let list := (bad.take (e.fld 36 4)).flatMap fun l => leBytes 8 (64 * l)
    let dst := s.lin (e.fld 56 8)
    (e.fld 56 8 ≠ 0 → ∀ l ∈ linesOf dst list.length, s.isPoison l = false) →
    ∃ t, exec (.scrubRegion tag io) s = .next t ∧ Ended t tag OK (some bad.length) (some 0) ∧
      (∀ a, t.byteAt a = s.stored (if e.fld 56 8 = 0 then [] else [(dst, list)]) a) ∧ (∀ l, t.isPoison l = s.isPoison l) ∧
      (∀ x, x ≠ tag → t.op? x = s.op? x) ∧
      t = { s with mem := t.mem, ops := t.ops, wbQueue := t.wbQueue, poison := t.poison }) ∧
  (Runs s tag 0x0030 o e → hintOk e = true →
    let target := DState.ofCode (e.fld 32 1)
    let named := hintDomains e
    let use := named.filter fun n => !s.hintSkips n
    let low := use.filter (s.belowTarget target)
    (low = [] → ∃ t, exec (.domainHint tag io) s = .next t ∧
      Ended t tag OK (some 0) (some (named.length - use.length)) ∧
      (∀ n, t.dom n = if n ∈ use then { s.dom n with holds := (s.dom n).holds ++ [target] } else s.dom n) ∧
      (∀ x, x ≠ tag → t.op? x = s.op? x) ∧ t = { s with domains := t.domains, ops := t.ops }) ∧
    ((∀ n ∈ low, s.upAtOnce n = true ∧ (s.dom n).phase = .none ∧ (n < 40 ∨ 103 < n)) → ∃ t,
      exec (.domainHint tag io) s = .next t ∧ Ended t tag OK (some low.length) (some (named.length - use.length)) ∧
      (∀ n ∈ low, t.dom n = { s.dom n with st := .on, holds := (s.dom n).holds ++ [target] }) ∧
      (∀ n, n ∉ use → t.dom n = s.dom n) ∧ (∀ x, x ≠ tag → t.op? x = s.op? x) ∧
      t = { s with domains := t.domains, ops := t.ops }))

/-- R370 to R374: snapshots, telemetry and the wait maxima. A record holds its sequence number, its entries, the losses
before it, DTIME and the flag of a snapshot, and then the value of each list entry; its values go out before its header.
A sample that finds the ring full is dropped, with one event for a run of losses. -/
def Obligations.Samples : Prop := ∀ s : State, s.running = true →
  (∀ seq lost snap, let h := s.recordHead seq lost snap
    h.length = 64 ∧ fieldLE h 0 4 = seq % 2 ^ 32 ∧ fieldLE h 4 2 = s.listLen ∧ fieldLE h 6 2 = min lost 0xFFFF ∧
    fieldLE h 8 8 = s.dtimeNow % 2 ^ 64 ∧ fieldLE h 16 1 = b2n snap ∧
    s.recordVals.length + 64 = recordSize s.listLen ∧
    (∀ i, i < s.listLen → fieldLE s.recordVals (8 * i) 8 = s.listValue i % 2 ^ 64)) ∧
  (let seq := (s.reg AMB_SNAP_SEQ.SEQ + 1) % 2 ^ 32
   let base := s.reg64 AMB_SNAP_BASE_LO.ADDR AMB_SNAP_BASE_HI.ADDR / 64 * 64
   ∃ t, exec .snapshot s = .next t ∧ t.reg AMB_SNAP_SEQ.SEQ = seq ∧
    t.out = (s.out ++ if s.canDma 0 then
      [.dma 0 (base + 64) s.recordVals [], .dma 0 base (s.recordHead seq 0 true) []] else []) ∧
    t = { s with out := t.out, regs := t.regs } ∧ RegsBut [AMB_SNAP_SEQ.SEQ.key 0] s t) ∧
  (s.regB AMB_TEL_CTRL.EN = true →
    let p := s.applyStaged AMB_TEL_PERIOD.P10US
    let k := s.reg AMB_TEL_TAIL.TAIL
    let base := s.reg64 AMB_TEL_BASE_LO.ADDR AMB_TEL_BASE_HI.ADDR / 4096 * 4096 + recordSize p.listLen * (k % s.telSize)
    ∃ t, exec .telemetrySample s = .next t ∧ SMap.get? t.staged (AMB_TEL_PERIOD.P10US.key 0) = none ∧
      (s.telFull = false → t.reg AMB_TEL_TAIL.TAIL = (k + 1) % 2 ^ 32 ∧
        t.amber = { s.amber with lost := 0, told := false } ∧
        t.out = (s.out ++ if s.canDma s.telInst then
          [.dma s.telInst (base + 64) p.recordVals [], .dma s.telInst base (p.recordHead k s.amber.lost false) []]
          else []) ∧
        t = { s with amber := t.amber, out := t.out, staged := t.staged, regs := t.regs } ∧
        RegsBut [AMB_TEL_PERIOD.P10US.key 0, AMB_TEL_TAIL.TAIL.key 0] s t) ∧
      (s.telFull = true → ∃ u : State, t = (if s.amber.told then u else u.event s.telInst { code := 0x0802 }) ∧
        u.reg AMB_TEL_LOST.COUNT = min (s.reg AMB_TEL_LOST.COUNT + 1) (2 ^ 32 - 1) ∧
        u.amber = { s.amber with lost := s.amber.lost + 1, told := true } ∧
        Tells [AMB_TEL_PERIOD.P10US.key 0, AMB_TEL_LOST.COUNT.key 0] s
          { u with amber := s.amber, staged := s.staged })) ∧
  (∃ t, exec .waitMaxClr s = .next t ∧ (∀ i, i < 8 → t.reg AMB_WAIT_MAX.NS (4 * i) = 0) ∧
    Touches ((List.range 8).map fun i => AMB_WAIT_MAX.NS.key (4 * i)) s t)

/-- R375 to R379: self-tests and calibration of this module's units. A memory test leaves its range zero and clean, and
reports the lines that failed; a facet that is free is tested, and is FAILED when it fails, one that computes is withdrawn
first; a bank's failing lines are poisoned; a sensor port has a cable test; the lanes of a Span port that fail stay out at the training
that the test waits for. A calibration of a channel waits for its retraining, one of a Span link that is up retrains it. The automatic
run tests one facet and one bank and moves on; a facet that had to be withdrawn is tested at a step of its own. -/
def Obligations.SelfTests : Prop := ∀ s : State,
  (∀ (tag : Nat) (io : OpIo) (res : TestRes) (o : Op) (e : Sqe), io.upsets = [] → o.inst = 0 →
    let k := e.index
    let out := e.fld 56 8
    e.modl = s.self →
    (Runs s tag 0x0020 o e → s.selftestErr tag e = none → ∃ t, exec (.selftest tag io res) s = .next t ∧
      (∀ x, x ≠ tag → t.op? x = s.op? x) ∧
      (e.scope = 0 → s.facetFree k = true → Ended t tag OK (some (testResult res.failed 0))
          (some (testDetail res.failed res)) ∧
        (res.failed = true → (t.dom (40 + k)).failed = true) ∧
        (res.failed = false → s.workList = [] → (s.facet k).next = none → t.facet k = { s.facet k with pin := none } ∧
          t = { s with ops := t.ops, amber := t.amber, facets := t.facets })) ∧
      (e.scope = 0 → s.facetFree k = false → s.underTest k = false → t.amber.tests = s.amber.tests ++ [(e.unit, tag)] ∧
        (t.op? tag = some o) ∧ (t.facet k).next = none ∧ (t.facet k).cur = (s.facet k).cur) ∧
      (e.scope = 1 → let ls := s.bankLines res k
        Ended t tag OK (some (testResult (!ls.isEmpty) ls.length)) (some (testDetail (!ls.isEmpty) res)) ∧
          (∀ l, t.isPoison l = (s.isPoison l || ls.contains l)) ∧ t.mem = s.mem) ∧
      (e.scope = 2 → out = 0 → let base := s.self * moduleSpan + e.fld 40 8
        let ls := testLinesIn res base (e.fld 48 8)
        Ended t tag OK (some (testResult (!ls.isEmpty) (min ls.length 0xFFFF))) (some (testDetail (!ls.isEmpty) res)) ∧
          (∀ a, t.byteAt a = if base ≤ a ∧ a < base + e.fld 48 8 then 0 else s.byteAt a) ∧
          (∀ l, base ≤ 64 * l → 64 * l < base + e.fld 48 8 → t.isPoison l = false) ∧
          Tells [] s { t with mem := s.mem, poison := s.poison, ceLines := s.ceLines, ueLines := s.ueLines, ops := s.ops,
                              amber := s.amber }) ∧
      (e.scope = 3 → s.regB GNT_P_CABLE.BUSY (portD k) = false → (∃ q, t.op? tag = some q ∧ q.phase = .held heldCable [k]) ∧
        t.reg GNT_P_CABLE.BUSY (portD k) = 1) ∧
      (e.scope = 3 → s.regB GNT_P_CABLE.BUSY (portD k) = true → t.op? tag = some { o with phase := .held heldCable [k] } ∧
        t = { s with ops := t.ops, amber := { s.amber with tests := s.amber.tests ++ [(e.unit, tag)] } })) ∧
    (Runs s tag 0x0020 o e → s.selftestErr tag e = none → e.scope = 4 →
      s.reg SPAN_P_STATUS.STATE (spD k) < 2 ∨ s.isHead = false →
      let n := res.lanes % 16
      let up := (s.testLanes k n).reg SPAN_P_STATUS.STATE (spD k)
      ∃ t, exec (.selftest tag io res) s = .next t ∧ SMap.get t.amber.lanesOut k 0 = n ∧
        (up ≠ 1 → Ended t tag OK (some (testResult (n != 0) n)) (some (testDetail (n != 0) res))) ∧
        (up = 1 → (e.unit, tag) ∈ t.amber.tests ∧ ∃ q, t.op? tag = some q ∧
          q.phase = .held heldLanes [k, b2n (n == 15), testResult (n != 0) n, testDetail (n != 0) res])) ∧
    (∀ st, Runs s tag 0x0020 o e → s.selftestErr tag e = some st → ∃ t, exec (.selftest tag io res) s = .next t ∧
      Ended t tag st none none ∧ t = { s with ops := t.ops }) ∧
    (∀ st, Runs s tag 0x0021 o e → s.calibrateErr e = some st → ∃ t, exec (.calibrate tag io res) s = .next t ∧
      Ended t tag st none none ∧ t = { s with ops := t.ops }) ∧
    (Runs s tag 0x0021 o e → s.calibrateErr e = none → ∃ t, exec (.calibrate tag io res) s = .next t ∧
      (∀ x, x ≠ tag → t.op? x = s.op? x) ∧
      (e.scope = 0 → t.op? tag = some { o with phase := .held heldCal [0, k] } ∧ t = { s with ops := t.ops }) ∧
      (e.scope = 1 → s.portUp k = true → t.op? tag = some { o with phase := .held heldCal [1, k] } ∧
        t.reg SPAN_P_STATUS.STATE (spD k) = 3 ∧ Tells [SPAN_P_STATUS.STATE.key (spD k), SPAN_P_RETRAIN.COUNT.key (spD k)] s
          { t with ops := s.ops }) ∧
      (e.scope = 1 ∧ s.portUp k = false ∨ e.scope = 2 → Ended t tag OK none none ∧ Tells [] s { t with ops := s.ops }))) ∧
  (∀ facet bank f, s.running = true → s.regB AMB_ST_CTRL.AUTO_EN = true → s.autoFacet = some f → s.facetFree f = true →
    s.hotOut f = false → s.facetFailed f = false → let late := s.amber.tests.any fun x => x.2 == autoTag
    ∃ t, exec (.autoSelftest facet bank) s = .next t ∧ t.amber.nextFacet = (f + 1) % 64 ∧
      t.amber.nextBank = (if late then s.amber.nextBank else (s.amber.nextBank + 1) % 16) ∧
      t.reg AMB_ST_RUNS.COUNT = min (s.reg AMB_ST_RUNS.COUNT + if late then 1 else 2) (2 ^ 32 - 1) ∧
      (∀ x ∈ t.amber.tests, x.2 ≠ autoTag) ∧ t.ops = s.ops ∧ t.mem = s.mem ∧
      (facet.failed = true → (t.dom (40 + f)).failed = true) ∧
      (∀ l, t.isPoison l = (s.isPoison l || !late && (s.bankLines bank s.amber.nextBank).contains l)))

/-- R5 to R8 (Table 0-3): what a write does to one field, by its access code. RW, W1C and W1S take effect at once, RWS
is staged and read back, RWD keeps a differing value out while its block is enabled, RWL while it is locked; the other
codes take no value. No other field changes. R6, R10, R11 and R148: REGISTER_WRITE. A request of four bytes writes the
fields of its register and then acts; one that covers a register in part is dropped and reported; reserved offsets
take nothing; a management core reaches Jasper's registers alone; a 16-byte write of an MSI-X entry sets it. -/
def Obligations.RegisterFields : Prop :=
  (∀ (s : State) (F : Fld) (d v : Nat) (on locked : Bool),
   let old := s.reg F d
   let r := s.putField F d v on locked
   let new (x : Nat) : Prop := r.1.reg F d = x % 2 ^ F.w ∧ r.2 = false ∧ Touches [F.key d] s r.1
   (F.acc = .rw → actedFields.contains F = false → new v) ∧
   (F.acc = .rws → r.2 = false ∧ r.1.regRead F d = v % 2 ^ F.w ∧
     r.1 = { s with staged := r.1.staged } ∧ ∀ k, k ≠ F.key d → SMap.get? r.1.staged k = SMap.get? s.staged k) ∧
   (F.acc = .rwd → (v = old → r = (s, false)) ∧ (v ≠ old → on = true → r = (s, true)) ∧
     (v ≠ old → on = false → (s.badValue F d v = true → r = (s, true)) ∧
       (s.badValue F d v = false ∨ F ≠ PDT_INST1.TAG_RESERVE ∧ F ≠ QP_CTRL.INSTANCE → new v))) ∧
   (F.acc = .rwl → (locked = true → r = (s, false)) ∧ (locked = false → new v)) ∧
   (F.acc = .w1c → new (old - Nat.land old v) ∧ ∀ i, i < F.w → old < 2 ^ F.w →
     bit (r.1.reg F d) i = (bit old i && !bit v i)) ∧
   (F.acc = .w1s → new (Nat.lor old v) ∧ ∀ i, i < F.w → bit (r.1.reg F d) i = (bit old i || bit v i)) ∧
   (F.acc ∈ [.ro, .wo, .calc, .sat, .wrap, .mono, .thresh] → r = (s, false))) ∧
  (∀ (s : State) (off v : Nat), s.power.on = true → s.linked 0 = true →
   off % 4 = 0 → v < 2 ^ 32 →
   (off < 0x10000 → s.answers off = .yes → s.foreignHead off = false →
     (s.word? off = none → exec (.registerWrite 0 0 off (leBytes 4 v)) s = .next s) ∧
     (∀ w, s.word? off = some w → w.blk ≠ .jsp →
       (w.high = true → exec (.registerWrite 0 0 off (leBytes 4 v)) s = .next s) ∧
       (w.high = false → ∃ (u : State) (drop : Bool), exec (.registerWrite 0 0 off (leBytes 4 v)) s =
           .next { (let a := if drop then u.dropWord w else u
                    let q := w.d / 64
                    let b := (if w.has QP_CTRL.INSTANCE && s.qpInst q != a.qpInst q
                      then a.sbChanged [s.qpInst q, a.qpInst q] else a).act 0 w v
                    if w.blk == .spn then b.spreadFrom s (w.d / 0x100000) else b) with pending := s.pending } ∧
         (drop = true ↔ ∃ F ∈ w.reg.flds, ¬(inSlot off = true ∧ F = QP_CTRL.INSTANCE) ∧
           (s.putField F w.d (bits v F.lo F.w) (s.blockOn w) (s.lockOn w)).2 = true) ∧
         (∀ F ∈ w.reg.flds, ¬(inSlot off = true ∧ F = QP_CTRL.INSTANCE) → let r :=
             (s.putField F w.d (bits v F.lo F.w) (s.blockOn w) (s.lockOn w)).1
           u.reg F w.d = r.reg F w.d ∧ u.regRead F w.d = r.regRead F w.d) ∧
         u = { s with regs := u.regs, staged := u.staged } ∧ RegsBut (w.reg.flds.map fun F => F.key w.d) s u) ∧
       (∀ F b, w.high = false → w.blk.cfgErr = some F → w.blk ∉ [.qp, .gnt] → ∃ t,
         exec (.registerWrite 0 0 off [b]) s = .next t ∧ t.reg F = 1 ∧
         bit (t.reg GBL_ERR_SUMMARY.CFG_ERR) w.blk.bitNo = true ∧ Touches [F.key 0, GBL_ERR_SUMMARY.CFG_ERR.key 0] s t))) ∧
   (∀ n o data, 16 ≤ n → n < 20 → (∀ k ∈ touchedWords o data.length, inJasper k = false) →
     exec (.registerWrite n 0 o data) s = .next s) ∧
   (∀ k addr data, k < 128 → addr < 2 ^ 64 → data < 2 ^ 32 → ∃ t,
     exec (.registerWrite 0 2 (16 * k) (leBytes 8 addr ++ leBytes 4 data ++ leBytes 4 1)) s = .next t ∧
     t.msixEntry 0 k = { s.msixEntry 0 k with addr := addr, data := data, masked := true } ∧ t = { s with msix := t.msix } ∧
     ∀ n j, 128 * n + j ≠ k → t.msixEntry n j = s.msixEntry n j))

/-- R10, R11, R15, R65 and R118: LOW_WORD_READ. The low word of a 64-bit register gives its low half and latches the high
half for its requester alone, with the same latch when fewer of its bytes are read; a high word is read from the latch; one
64-bit read gives both halves of one sample and leaves the latch; a reserved word reads zero, and every word but GBL's reads
ones while the module is not ready. DTIME counts the GCLK cycles since the last QCLK tick. -/
def Obligations.LowWordReads : Prop := ∀ (s : State) (req off gclk : Nat), req < 20 → s.power.on = true →
  (req < 16 → s.linked req = true) → s.quartz.sub ≤ gclk → gclk < 250 → off % 4 = 0 →
  off + 4 ≤ (if req = 0 ∨ 16 ≤ req then 0x10000 else 0x800) →
  let o := reqOff req off
  let r := s.atGclk gclk
  let read (len : Nat) (t : State) (v : Nat) : Prop :=
    exec (.lowWordRead req ⟨0, off, len, gclk⟩) s = .next t ∧ t.out = s.out ++ [.readData req off v]
  (r.read64 QTZ_DTIME_LO.DTIME.off = (s.quartz.dtime + gclk) % 2 ^ 64) ∧
  (s.answers o = .ones → ∃ t, read 4 t 0xFFFFFFFF ∧ t = { r with out := t.out }) ∧
  (s.answers o = .no ∨ s.answers o = .yes ∧ s.word? o = none → ∃ t, read 4 t 0 ∧ t = { r with out := t.out }) ∧
  (∀ w, s.answers o = .yes → s.word? o = some w → ¬(w.blk = .jsp ∧ w.reg.off = 0x3000) →
    (w.held = true → ∃ t, read 4 t (SMap.get s.hiHold req 0) ∧ t = { r with out := t.out }) ∧
    (w.held = false → w.latches = false → ∃ t, read 4 t (r.wordVal w) ∧ t = { r with out := t.out }) ∧
    (w.held = false → w.latches = true → ∀ len, 1 ≤ len → len ≤ 4 → ∃ t, read len t (r.wordVal w % 2 ^ (8 * len)) ∧
      SMap.get t.hiHold req 0 = r.readOff (o + 4) ∧ (∀ x, x ≠ req → SMap.get t.hiHold x 0 = SMap.get s.hiHold x 0) ∧
      t = { r with out := t.out, hiHold := t.hiHold }) ∧
    (∀ w', w.held = false → w.latches = true → off + 8 ≤ (if req = 0 ∨ 16 ≤ req then 0x10000 else 0x800) →
      s.answers (o + 4) = .yes → s.word? (o + 4) = some w' → w'.held = true → w'.blk ≠ .jsp →
      ∃ t, read 8 t (r.wordVal w + 2 ^ 32 * r.wordVal w') ∧ t = { r with out := t.out }))

/-- A step takes the command at the front of the queue and runs it on the state with the queue's rest; on an empty queue the
block idles (the model's choice, log entry 1). -/
def Obligations.StepTakesFront : Prop := ∀ s : State,
  (∀ c rest, s.pending = c :: rest → step s = exec c { s with pending := rest }) ∧ (s.pending = [] → step s = .next s)

/-- What reset leaves: the module stands at the instant S of its start-up (R106), at stage 1, powered and with both outputs
off; nothing waits, no operation is in flight, every register field reads its reset value, and memory reads zero. That
PERST_N is low, that memory reads zero, and the values of fields that Tables 5-7 and 3-9 give as fused or by the image
are the model's choices (log entries 12 and 27 to 31). -/
def Obligations.ResetState : Prop :=
  State.reset.pending = [] ∧ State.reset.out = [.uartStage 1] ∧ State.reset.power.on = true ∧
  State.reset.reg GBL_BOOT_STATUS.STAGE = 1 ∧ State.reset.reg JDE_STATUS.OUT_A = 0 ∧
  State.reset.reg JDE_STATUS.OUT_B = 0 ∧ State.reset.ops = [] ∧ State.reset.pcie.perst = false ∧
  Memory.wf State.reset.mem = true ∧ State.reset.sound ∧ (∀ F d, State.reset.reg F d = F.rst d) ∧
  (∀ F d, State.reset.regRead F d = F.rst d) ∧ (∀ a, State.reset.byteAt a = 0)

/-- Every command is answered. One that names units of the part gives a next state, whatever the state, and leaves the
queue as it is; any other faults, as no such unit exists (the model's choice, log entry 2). -/
def Obligations.EveryCommandAnswers : Prop := ∀ (c : Instr) (s : State),
  (c.wf = true → ∃ t, exec c s = .next t ∧ t.pending = s.pending) ∧
  (c.wf = false → exec c s = .fault .noSuchUnit)

/-- The invariant of the queue: every command that waits is well-formed. Each step keeps it. -/
def Obligations.QueueInvariant : Prop := ∀ s : State, s.queueWf = true →
  ∃ t, step s = .next t ∧ t.queueWf = true ∧ t.pending = s.pending.tail

/-- A queue of well-formed commands drains, first in, first out, from any state: as many steps as commands wait end in a
state where none waits, and no step faults or is refused. -/
def Obligations.QueueDrains : Prop := ∀ s : State, s.queueWf = true →
  ∃ t, Host.Core.run Sys2Proof.core s.pending.length s = .next t ∧ t.pending = [] ∧
    ∀ k, k ≤ s.pending.length → ∃ u, Host.Core.run Sys2Proof.core k s = .next u ∧ u.pending = s.pending.drop k

/-- R184 and R382: an operator command acts only on an operation that has been dispatched with its opcode and has not
stopped; without one it changes nothing (the model's choice, log entry 3). An entry whose MODE_OVR R184 refuses ends with an error
status when its operation begins, and nothing else happens. -/
def Obligations.OperatorChecks : Prop := ∀ (s : State) (tag : Nat) (io : OpIo) (res : TestRes),
  ∀ c ∈ [(Instr.nop tag io, 0x0001), (.fenceSignal tag io, 0x0002), (.fenceWait tag io, 0x0003), (.setBudget tag io, 0x0010),
    (.setMode tag io, 0x0011), (.selftest tag io res, 0x0020), (.calibrate tag io res, 0x0021), (.domainHint tag io, 0x0030),
    (.sliceConsume tag io, 0x0102), (.motionComp tag io, 0x0103), (.voxelise tag io, 0x0104), (.guardFieldLoad tag io, 0x0110),
    (.hashBuild tag io, 0x0201), (.hashQuery tag io, 0x0202), (.rulebook tag io, 0x0203), (.neighbourRadius tag io, 0x0204),
    (.downsample tag io, 0x0205), (.spconv tag io, 0x0301), (.gemm tag io, 0x0302), (.groupedGemm tag io, 0x0303),
    (.elementwise tag io, 0x0304), (.norm tag io, 0x0305), (.poolVoxel tag io, 0x0306), (.windowAttn tag io, 0x0307),
    (.softmax tag io, 0x0308), (.tableLookup tag io, 0x0401), (.tableSwitch tag io, 0x0403), (.tableMigrate tag io, 0x0404),
    (.hotsetLoad tag io, 0x0405), (.prefetch tag io, 0x0406), (.rowReclass tag io, 0x0407), (.route tag io, 0x0501),
    (.scatter tag io, 0x0502), (.combine tag io, 0x0503), (.expertStats tag io, 0x0504), (.copy tag io, 0x0601),
    (.fill tag io, 0x0602), (.scrubRegion tag io, 0x0603), (.spanSync tag io, 0x0701), (.spanAllreduce tag io, 0x0702)],
  ((∀ o e, s.op? tag = some o → o.sqe? = some e →
      s.running = false ∨ o.phase ≠ .started ∨ o.stopped = true ∨ e.opcode ≠ c.2 ∨
        (memOpcode c.2 && s.memWaits) = true) → exec c.1 s = .next s) ∧
  (∀ o e, s.running = true → s.op? tag = some o → o.sqe? = some e → o.phase = .started → o.stopped = false → o.prog = [] →
    e.opcode = c.2 → (memOpcode c.2 && s.memWaits) = false → s.ovrRefused o e = true → ∃ t st, exec c.1 s = .next t ∧ Ended t tag st none none ∧ 0x0200 ≤ st ∧
      t = { s with ops := t.ops } ∧ ∀ x, x ≠ tag → t.op? x = s.op? x)

/-- R7: a value staged while another is staged replaces it, so that the boundary applies the last one written; a
boundary with nothing staged changes nothing. -/
def Obligations.StagedValues : Prop := ∀ (s : State) (F : Fld) (d a b : Nat),
  (s.stage F d a).stage F d b = { s with staged := ((s.stage F d a).stage F d b).staged } ∧
  ((s.stage F d a).stage F d b).reg F d = s.reg F d ∧
  (((s.stage F d a).stage F d b).applyStaged F d).reg F d = b % 2 ^ F.w ∧
  SMap.get? (((s.stage F d a).stage F d b).applyStaged F d).staged (F.key d) = none ∧
  (∀ k, k ≠ F.key d → SMap.get? (((s.stage F d a).stage F d b).applyStaged F d).regs k = SMap.get? s.regs k) ∧
  (SMap.get? s.staged (F.key d) = none → s.applyStaged F d = s)

/-- R29: a span address is the module number times 0x20_0000_0000 plus the local offset; bits 38:37 are the module,
and bits 36:0 the offset. -/
def Obligations.SpanAddresses : Prop := ∀ (s : State) (off : Nat), s.self < 4 → off < 2 ^ 37 →
  s.localAddr off = s.self * 0x2000000000 + off ∧ s.localAddr off < 2 ^ 39 ∧
  bits (s.localAddr off) 37 2 = s.self ∧ bits (s.localAddr off) 0 37 = off ∧
  ∀ len, off + len ≤ localEnd → 0x10000 ≤ off → s.locate false (s.localAddr off) len = .inl (s.localAddr off)

/-- The invariant of memory: package memory and the shelf stay in canonical form (addresses rise strictly, no byte listed
is zero), whatever the step, from every state that has it. -/
def Obligations.MemoryInvariant : Prop := ∀ s t : State, Memory.wf s.mem = true → step s = .next t → Memory.wf t.mem = true

end
end

