-- ==== Sys2Proof/Laws/Maps.lean ====
section
/-!
SUPPORT. Sparse arrays: what a lookup finds after a change, and that every change keeps the canonical form.
-/
namespace Sys2Proof.Machine.SMap

variable {α : Type}

/-! ## Lookups -/

@[simp] theorem get?_nil (k : Nat) : get? ([] : SMap α) k = none := rfl

@[simp] theorem get?_ins_self (m : SMap α) (k : Nat) (v : α) : get? (ins m k v) k = some v := by
  induction m with
  | nil => simp [ins, get?]
  | cons e m ih =>
    simp only [ins]
    split
    · simp [get?]
    · split <;> simp_all [get?]
      intro h; omega

theorem get?_ins_ne (m : SMap α) {j k : Nat} (v : α) (h : j ≠ k) : get? (ins m k v) j = get? m j := by
  induction m with
  | nil => simp [ins, get?, h.symm]
  | cons e m ih =>
    simp only [ins]
    split
    · simp [get?, h.symm]
    · split
      · next hk => subst hk; simp [get?, Ne.symm h]
      · simp_all [get?]

@[simp] theorem get?_del_self (m : SMap α) (k : Nat) : get? (del m k) k = none := by
  induction m with
  | nil => rfl
  | cons e m ih => simp only [del]; split <;> simp_all [get?]

theorem get?_del_ne (m : SMap α) {j k : Nat} (h : j ≠ k) : get? (del m k) j = get? m j := by
  induction m with
  | nil => rfl
  | cons e m ih => simp only [del]; split <;> simp_all [get?, Ne.symm h]

variable [DecidableEq α]

theorem get?_put_ne (m : SMap α) {j k : Nat} (v d : α) (h : j ≠ k) : get? (put m k v d) j = get? m j := by
  unfold put; split
  · exact get?_del_ne m h
  · exact get?_ins_ne m v h

@[simp] theorem get_put_self (m : SMap α) (k : Nat) (v d : α) : get (put m k v d) k d = v := by
  unfold put get; split <;> simp_all

theorem get_put_ne (m : SMap α) {j k : Nat} (v d e : α) (h : j ≠ k) : get (put m k v d) j e = get m j e := by
  simp [get, get?_put_ne m v d h]

theorem get_put (m : SMap α) (j k : Nat) (v d : α) :
    get (put m k v d) j d = if j = k then v else get m j d := by
  split
  · next h => subst h; simp
  · next h => exact get_put_ne m v d d h

/-! ## The canonical form -/

/-- Every index of the map is at least `n`. -/
def From (n : Nat) (m : SMap α) : Prop := ∀ e ∈ m, n ≤ e.1

/-- The form said without its recursion: no listed default, and indexes rise strictly. -/
theorem wf_iff (d : α) (m : SMap α) :
    SMap.wf d m = true ↔ (∀ e ∈ m, e.2 ≠ d) ∧ m.Pairwise fun a b => a.1 < b.1 := by
  induction m with
  | nil => simp [SMap.wf]
  | cons e m ih =>
    cases m with
    | nil => simp [SMap.wf]
    | cons f m =>
      simp only [SMap.wf, Bool.and_eq_true, decide_eq_true_eq, bne_iff_ne, ih, List.mem_cons, List.pairwise_cons]
      constructor
      · rintro ⟨⟨h1, h2⟩, h3, h4, h5⟩
        refine ⟨?_, ?_, h4, h5⟩
        · rintro x (rfl | hx)
          · exact h2
          · exact h3 x hx
        · rintro x (rfl | hx)
          · exact h1
          · exact Nat.lt_trans h1 (h4 x hx)
      · rintro ⟨h1, h2, h3, h4⟩
        exact ⟨⟨h2 f (.inl rfl), h1 e (.inl rfl)⟩, fun x hx => h1 x (.inr hx), h3, h4⟩

theorem mem_ins (m : SMap α) (k : Nat) (v : α) (e : Nat × α) (h : e ∈ ins m k v) : e = (k, v) ∨ e ∈ m := by
  induction m with
  | nil => simpa [ins] using h
  | cons f m ih =>
    simp only [ins] at h
    split at h
    · simpa using h
    · split at h
      · simp only [List.mem_cons] at h ⊢
        rcases h with h | h
        · exact .inl h
        · exact .inr (.inr h)
      · simp only [List.mem_cons] at h ⊢
        rcases h with h | h
        · exact .inr (.inl h)
        · rcases ih h with h | h
          · exact .inl h
          · exact .inr (.inr h)

theorem mem_del (m : SMap α) (k : Nat) (e : Nat × α) (h : e ∈ del m k) : e ∈ m := by
  induction m with
  | nil => exact h
  | cons f m ih =>
    simp only [del] at h
    split at h
    · exact List.mem_cons_of_mem _ (ih h)
    · rcases List.mem_cons.1 h with h | h
      · exact h ▸ List.mem_cons_self
      · exact List.mem_cons_of_mem _ (ih h)

theorem ins_pairwise (m : SMap α) (k : Nat) (v : α) (h : m.Pairwise fun a b => a.1 < b.1) :
    (ins m k v).Pairwise fun a b => a.1 < b.1 := by
  induction m with
  | nil => simp [ins]
  | cons f m ih =>
    obtain ⟨h1, h2⟩ := List.pairwise_cons.1 h
    simp only [ins]
    split
    · next hk =>
      refine List.pairwise_cons.2 ⟨fun e he => ?_, h⟩
      rcases List.mem_cons.1 he with rfl | he
      · exact hk
      · exact Nat.lt_trans hk (h1 e he)
    · split
      · next hk => exact List.pairwise_cons.2 ⟨fun e he => hk ▸ h1 e he, h2⟩
      · refine List.pairwise_cons.2 ⟨fun e he => ?_, ih h2⟩
        rcases mem_ins m k v e he with rfl | he
        · show f.1 < k; omega
        · exact h1 e he

theorem del_pairwise (m : SMap α) (k : Nat) (h : m.Pairwise fun a b => a.1 < b.1) :
    (del m k).Pairwise fun a b => a.1 < b.1 := by
  induction m with
  | nil => simp [del]
  | cons f m ih =>
    obtain ⟨h1, h2⟩ := List.pairwise_cons.1 h
    simp only [del]
    split
    · exact ih h2
    · exact List.pairwise_cons.2 ⟨fun e he => h1 e (mem_del m k e he), ih h2⟩

/-- Writing a value keeps the canonical form. -/
theorem wf_put (d : α) (m : SMap α) (k : Nat) (v : α) (h : SMap.wf d m) : SMap.wf d (put m k v d) := by
  rw [wf_iff] at h ⊢
  unfold put
  split
  · exact ⟨fun e he => h.1 e (mem_del m k e he), del_pairwise m k h.2⟩
  · next hv =>
    refine ⟨fun e he => ?_, ins_pairwise m k v h.2⟩
    rcases mem_ins m k v e he with rfl | he
    · exact hv
    · exact h.1 e he

/-- Taking entries away keeps the canonical form. -/
theorem wf_filter (d : α) (m : SMap α) (p : Nat × α → Bool) (h : SMap.wf d m) :
    SMap.wf d (m.filter p : SMap α) := by
  rw [wf_iff] at h ⊢
  exact ⟨fun e he => h.1 e (List.mem_filter.1 he).1, h.2.filter p⟩

end Sys2Proof.Machine.SMap
end

