-- ==== Sys2Proof/Laws/State.lean ====
section
/-!
SUPPORT. What each named update of the state leaves as it is, one lemma for each field, and what a read of a
register finds after a write.
-/
namespace Sys2Proof.Machine.State

/-! ## setReg -/

@[simp] theorem setReg_pending (s : State) (F : Fld) (d v : Nat) : (s.setReg F d v).pending = s.pending := rfl
@[simp] theorem setReg_out (s : State) (F : Fld) (d v : Nat) : (s.setReg F d v).out = s.out := rfl
@[simp] theorem setReg_ticks (s : State) (F : Fld) (d v : Nat) : (s.setReg F d v).ticks = s.ticks := rfl
@[simp] theorem setReg_free (s : State) (F : Fld) (d v : Nat) : (s.setReg F d v).free = s.free := rfl
@[simp] theorem setReg_staged (s : State) (F : Fld) (d v : Nat) : (s.setReg F d v).staged = s.staged := rfl
@[simp] theorem setReg_sats (s : State) (F : Fld) (d v : Nat) : (s.setReg F d v).sats = s.sats := rfl
@[simp] theorem setReg_armed (s : State) (F : Fld) (d v : Nat) : (s.setReg F d v).armed = s.armed := rfl
@[simp] theorem setReg_hiHold (s : State) (F : Fld) (d v : Nat) : (s.setReg F d v).hiHold = s.hiHold := rfl
@[simp] theorem setReg_power (s : State) (F : Fld) (d v : Nat) : (s.setReg F d v).power = s.power := rfl
@[simp] theorem setReg_boot (s : State) (F : Fld) (d v : Nat) : (s.setReg F d v).boot = s.boot := rfl
@[simp] theorem setReg_pcie (s : State) (F : Fld) (d v : Nat) : (s.setReg F d v).pcie = s.pcie := rfl
@[simp] theorem setReg_dbg (s : State) (F : Fld) (d v : Nat) : (s.setReg F d v).dbg = s.dbg := rfl
@[simp] theorem setReg_quartz (s : State) (F : Fld) (d v : Nat) : (s.setReg F d v).quartz = s.quartz := rfl
@[simp] theorem setReg_domains (s : State) (F : Fld) (d v : Nat) : (s.setReg F d v).domains = s.domains := rfl
@[simp] theorem setReg_topaz (s : State) (F : Fld) (d v : Nat) : (s.setReg F d v).topaz = s.topaz := rfl
@[simp] theorem setReg_ops (s : State) (F : Fld) (d v : Nat) : (s.setReg F d v).ops = s.ops := rfl
@[simp] theorem setReg_opSeq (s : State) (F : Fld) (d v : Nat) : (s.setReg F d v).opSeq = s.opSeq := rfl
@[simp] theorem setReg_fences (s : State) (F : Fld) (d v : Nat) : (s.setReg F d v).fences = s.fences := rfl
@[simp] theorem setReg_qps (s : State) (F : Fld) (d v : Nat) : (s.setReg F d v).qps = s.qps := rfl
@[simp] theorem setReg_insts (s : State) (F : Fld) (d v : Nat) : (s.setReg F d v).insts = s.insts := rfl
@[simp] theorem setReg_handoffs (s : State) (F : Fld) (d v : Nat) : (s.setReg F d v).handoffs = s.handoffs := rfl
@[simp] theorem setReg_hoEvents (s : State) (F : Fld) (d v : Nat) : (s.setReg F d v).hoEvents = s.hoEvents := rfl
@[simp] theorem setReg_msix (s : State) (F : Fld) (d v : Nat) : (s.setReg F d v).msix = s.msix := rfl
@[simp] theorem setReg_tagStall (s : State) (F : Fld) (d v : Nat) : (s.setReg F d v).tagStall = s.tagStall := rfl
@[simp] theorem setReg_ports (s : State) (F : Fld) (d v : Nat) : (s.setReg F d v).ports = s.ports := rfl
@[simp] theorem setReg_gptpRun (s : State) (F : Fld) (d v : Nat) : (s.setReg F d v).gptpRun = s.gptpRun := rfl
@[simp] theorem setReg_poseLast (s : State) (F : Fld) (d v : Nat) : (s.setReg F d v).poseLast = s.poseLast := rfl
@[simp] theorem setReg_jade (s : State) (F : Fld) (d v : Nat) : (s.setReg F d v).jade = s.jade := rfl
@[simp] theorem setReg_mem (s : State) (F : Fld) (d v : Nat) : (s.setReg F d v).mem = s.mem := rfl
@[simp] theorem setReg_poison (s : State) (F : Fld) (d v : Nat) : (s.setReg F d v).poison = s.poison := rfl
@[simp] theorem setReg_ceLines (s : State) (F : Fld) (d v : Nat) : (s.setReg F d v).ceLines = s.ceLines := rfl
@[simp] theorem setReg_ueLines (s : State) (F : Fld) (d v : Nat) : (s.setReg F d v).ueLines = s.ueLines := rfl
@[simp] theorem setReg_wbQueue (s : State) (F : Fld) (d v : Nat) : (s.setReg F d v).wbQueue = s.wbQueue := rfl
@[simp] theorem setReg_plog (s : State) (F : Fld) (d v : Nat) : (s.setReg F d v).plog = s.plog := rfl
@[simp] theorem setReg_retrainRun (s : State) (F : Fld) (d v : Nat) : (s.setReg F d v).retrainRun = s.retrainRun := rfl
@[simp] theorem setReg_retrainDue (s : State) (F : Fld) (d v : Nat) : (s.setReg F d v).retrainDue = s.retrainDue := rfl
@[simp] theorem setReg_scrubTold (s : State) (F : Fld) (d v : Nat) : (s.setReg F d v).scrubTold = s.scrubTold := rfl
@[simp] theorem setReg_searches (s : State) (F : Fld) (d v : Nat) : (s.setReg F d v).searches = s.searches := rfl
@[simp] theorem setReg_workList (s : State) (F : Fld) (d v : Nat) : (s.setReg F d v).workList = s.workList := rfl
@[simp] theorem setReg_facets (s : State) (F : Fld) (d v : Nat) : (s.setReg F d v).facets = s.facets := rfl
@[simp] theorem setReg_rlzRows (s : State) (F : Fld) (d v : Nat) : (s.setReg F d v).rlzRows = s.rlzRows := rfl
@[simp] theorem setReg_runs (s : State) (F : Fld) (d v : Nat) : (s.setReg F d v).runs = s.runs := rfl
@[simp] theorem setReg_steps (s : State) (F : Fld) (d v : Nat) : (s.setReg F d v).steps = s.steps := rfl
@[simp] theorem setReg_migs (s : State) (F : Fld) (d v : Nat) : (s.setReg F d v).migs = s.migs := rfl
@[simp] theorem setReg_migTold (s : State) (F : Fld) (d v : Nat) : (s.setReg F d v).migTold = s.migTold := rfl
@[simp] theorem setReg_records (s : State) (F : Fld) (d v : Nat) : (s.setReg F d v).records = s.records := rfl
@[simp] theorem setReg_lostSlots (s : State) (F : Fld) (d v : Nat) : (s.setReg F d v).lostSlots = s.lostSlots := rfl
@[simp] theorem setReg_hqs (s : State) (F : Fld) (d v : Nat) : (s.setReg F d v).hqs = s.hqs := rfl
@[simp] theorem setReg_expDropped (s : State) (F : Fld) (d v : Nat) : (s.setReg F d v).expDropped = s.expDropped := rfl
@[simp] theorem setReg_links (s : State) (F : Fld) (d v : Nat) : (s.setReg F d v).links = s.links := rfl
@[simp] theorem setReg_node (s : State) (F : Fld) (d v : Nat) : (s.setReg F d v).node = s.node := rfl
@[simp] theorem setReg_amber (s : State) (F : Fld) (d v : Nat) : (s.setReg F d v).amber = s.amber := rfl
@[simp] theorem setReg_arbs (s : State) (F : Fld) (d v : Nat) : (s.setReg F d v).arbs = s.arbs := rfl

/-! ## stage -/

@[simp] theorem stage_pending (s : State) (F : Fld) (d v : Nat) : (s.stage F d v).pending = s.pending := rfl
@[simp] theorem stage_out (s : State) (F : Fld) (d v : Nat) : (s.stage F d v).out = s.out := rfl
@[simp] theorem stage_ticks (s : State) (F : Fld) (d v : Nat) : (s.stage F d v).ticks = s.ticks := rfl
@[simp] theorem stage_free (s : State) (F : Fld) (d v : Nat) : (s.stage F d v).free = s.free := rfl
@[simp] theorem stage_regs (s : State) (F : Fld) (d v : Nat) : (s.stage F d v).regs = s.regs := rfl
@[simp] theorem stage_sats (s : State) (F : Fld) (d v : Nat) : (s.stage F d v).sats = s.sats := rfl
@[simp] theorem stage_armed (s : State) (F : Fld) (d v : Nat) : (s.stage F d v).armed = s.armed := rfl
@[simp] theorem stage_hiHold (s : State) (F : Fld) (d v : Nat) : (s.stage F d v).hiHold = s.hiHold := rfl
@[simp] theorem stage_power (s : State) (F : Fld) (d v : Nat) : (s.stage F d v).power = s.power := rfl
@[simp] theorem stage_boot (s : State) (F : Fld) (d v : Nat) : (s.stage F d v).boot = s.boot := rfl
@[simp] theorem stage_pcie (s : State) (F : Fld) (d v : Nat) : (s.stage F d v).pcie = s.pcie := rfl
@[simp] theorem stage_dbg (s : State) (F : Fld) (d v : Nat) : (s.stage F d v).dbg = s.dbg := rfl
@[simp] theorem stage_quartz (s : State) (F : Fld) (d v : Nat) : (s.stage F d v).quartz = s.quartz := rfl
@[simp] theorem stage_domains (s : State) (F : Fld) (d v : Nat) : (s.stage F d v).domains = s.domains := rfl
@[simp] theorem stage_topaz (s : State) (F : Fld) (d v : Nat) : (s.stage F d v).topaz = s.topaz := rfl
@[simp] theorem stage_ops (s : State) (F : Fld) (d v : Nat) : (s.stage F d v).ops = s.ops := rfl
@[simp] theorem stage_opSeq (s : State) (F : Fld) (d v : Nat) : (s.stage F d v).opSeq = s.opSeq := rfl
@[simp] theorem stage_fences (s : State) (F : Fld) (d v : Nat) : (s.stage F d v).fences = s.fences := rfl
@[simp] theorem stage_qps (s : State) (F : Fld) (d v : Nat) : (s.stage F d v).qps = s.qps := rfl
@[simp] theorem stage_insts (s : State) (F : Fld) (d v : Nat) : (s.stage F d v).insts = s.insts := rfl
@[simp] theorem stage_handoffs (s : State) (F : Fld) (d v : Nat) : (s.stage F d v).handoffs = s.handoffs := rfl
@[simp] theorem stage_hoEvents (s : State) (F : Fld) (d v : Nat) : (s.stage F d v).hoEvents = s.hoEvents := rfl
@[simp] theorem stage_msix (s : State) (F : Fld) (d v : Nat) : (s.stage F d v).msix = s.msix := rfl
@[simp] theorem stage_tagStall (s : State) (F : Fld) (d v : Nat) : (s.stage F d v).tagStall = s.tagStall := rfl
@[simp] theorem stage_ports (s : State) (F : Fld) (d v : Nat) : (s.stage F d v).ports = s.ports := rfl
@[simp] theorem stage_gptpRun (s : State) (F : Fld) (d v : Nat) : (s.stage F d v).gptpRun = s.gptpRun := rfl
@[simp] theorem stage_poseLast (s : State) (F : Fld) (d v : Nat) : (s.stage F d v).poseLast = s.poseLast := rfl
@[simp] theorem stage_jade (s : State) (F : Fld) (d v : Nat) : (s.stage F d v).jade = s.jade := rfl
@[simp] theorem stage_mem (s : State) (F : Fld) (d v : Nat) : (s.stage F d v).mem = s.mem := rfl
@[simp] theorem stage_poison (s : State) (F : Fld) (d v : Nat) : (s.stage F d v).poison = s.poison := rfl
@[simp] theorem stage_ceLines (s : State) (F : Fld) (d v : Nat) : (s.stage F d v).ceLines = s.ceLines := rfl
@[simp] theorem stage_ueLines (s : State) (F : Fld) (d v : Nat) : (s.stage F d v).ueLines = s.ueLines := rfl
@[simp] theorem stage_wbQueue (s : State) (F : Fld) (d v : Nat) : (s.stage F d v).wbQueue = s.wbQueue := rfl
@[simp] theorem stage_plog (s : State) (F : Fld) (d v : Nat) : (s.stage F d v).plog = s.plog := rfl
@[simp] theorem stage_retrainRun (s : State) (F : Fld) (d v : Nat) : (s.stage F d v).retrainRun = s.retrainRun := rfl
@[simp] theorem stage_retrainDue (s : State) (F : Fld) (d v : Nat) : (s.stage F d v).retrainDue = s.retrainDue := rfl
@[simp] theorem stage_scrubTold (s : State) (F : Fld) (d v : Nat) : (s.stage F d v).scrubTold = s.scrubTold := rfl
@[simp] theorem stage_searches (s : State) (F : Fld) (d v : Nat) : (s.stage F d v).searches = s.searches := rfl
@[simp] theorem stage_workList (s : State) (F : Fld) (d v : Nat) : (s.stage F d v).workList = s.workList := rfl
@[simp] theorem stage_facets (s : State) (F : Fld) (d v : Nat) : (s.stage F d v).facets = s.facets := rfl
@[simp] theorem stage_rlzRows (s : State) (F : Fld) (d v : Nat) : (s.stage F d v).rlzRows = s.rlzRows := rfl
@[simp] theorem stage_runs (s : State) (F : Fld) (d v : Nat) : (s.stage F d v).runs = s.runs := rfl
@[simp] theorem stage_steps (s : State) (F : Fld) (d v : Nat) : (s.stage F d v).steps = s.steps := rfl
@[simp] theorem stage_migs (s : State) (F : Fld) (d v : Nat) : (s.stage F d v).migs = s.migs := rfl
@[simp] theorem stage_migTold (s : State) (F : Fld) (d v : Nat) : (s.stage F d v).migTold = s.migTold := rfl
@[simp] theorem stage_records (s : State) (F : Fld) (d v : Nat) : (s.stage F d v).records = s.records := rfl
@[simp] theorem stage_lostSlots (s : State) (F : Fld) (d v : Nat) : (s.stage F d v).lostSlots = s.lostSlots := rfl
@[simp] theorem stage_hqs (s : State) (F : Fld) (d v : Nat) : (s.stage F d v).hqs = s.hqs := rfl
@[simp] theorem stage_expDropped (s : State) (F : Fld) (d v : Nat) : (s.stage F d v).expDropped = s.expDropped := rfl
@[simp] theorem stage_links (s : State) (F : Fld) (d v : Nat) : (s.stage F d v).links = s.links := rfl
@[simp] theorem stage_node (s : State) (F : Fld) (d v : Nat) : (s.stage F d v).node = s.node := rfl
@[simp] theorem stage_amber (s : State) (F : Fld) (d v : Nat) : (s.stage F d v).amber = s.amber := rfl
@[simp] theorem stage_arbs (s : State) (F : Fld) (d v : Nat) : (s.stage F d v).arbs = s.arbs := rfl

/-! ## emit -/

@[simp] theorem emit_pending (s : State) (o : Out) : (s.emit o).pending = s.pending := rfl
@[simp] theorem emit_ticks (s : State) (o : Out) : (s.emit o).ticks = s.ticks := rfl
@[simp] theorem emit_free (s : State) (o : Out) : (s.emit o).free = s.free := rfl
@[simp] theorem emit_regs (s : State) (o : Out) : (s.emit o).regs = s.regs := rfl
@[simp] theorem emit_staged (s : State) (o : Out) : (s.emit o).staged = s.staged := rfl
@[simp] theorem emit_sats (s : State) (o : Out) : (s.emit o).sats = s.sats := rfl
@[simp] theorem emit_armed (s : State) (o : Out) : (s.emit o).armed = s.armed := rfl
@[simp] theorem emit_hiHold (s : State) (o : Out) : (s.emit o).hiHold = s.hiHold := rfl
@[simp] theorem emit_power (s : State) (o : Out) : (s.emit o).power = s.power := rfl
@[simp] theorem emit_boot (s : State) (o : Out) : (s.emit o).boot = s.boot := rfl
@[simp] theorem emit_pcie (s : State) (o : Out) : (s.emit o).pcie = s.pcie := rfl
@[simp] theorem emit_dbg (s : State) (o : Out) : (s.emit o).dbg = s.dbg := rfl
@[simp] theorem emit_quartz (s : State) (o : Out) : (s.emit o).quartz = s.quartz := rfl
@[simp] theorem emit_domains (s : State) (o : Out) : (s.emit o).domains = s.domains := rfl
@[simp] theorem emit_topaz (s : State) (o : Out) : (s.emit o).topaz = s.topaz := rfl
@[simp] theorem emit_ops (s : State) (o : Out) : (s.emit o).ops = s.ops := rfl
@[simp] theorem emit_opSeq (s : State) (o : Out) : (s.emit o).opSeq = s.opSeq := rfl
@[simp] theorem emit_fences (s : State) (o : Out) : (s.emit o).fences = s.fences := rfl
@[simp] theorem emit_qps (s : State) (o : Out) : (s.emit o).qps = s.qps := rfl
@[simp] theorem emit_insts (s : State) (o : Out) : (s.emit o).insts = s.insts := rfl
@[simp] theorem emit_handoffs (s : State) (o : Out) : (s.emit o).handoffs = s.handoffs := rfl
@[simp] theorem emit_hoEvents (s : State) (o : Out) : (s.emit o).hoEvents = s.hoEvents := rfl
@[simp] theorem emit_msix (s : State) (o : Out) : (s.emit o).msix = s.msix := rfl
@[simp] theorem emit_tagStall (s : State) (o : Out) : (s.emit o).tagStall = s.tagStall := rfl
@[simp] theorem emit_ports (s : State) (o : Out) : (s.emit o).ports = s.ports := rfl
@[simp] theorem emit_gptpRun (s : State) (o : Out) : (s.emit o).gptpRun = s.gptpRun := rfl
@[simp] theorem emit_poseLast (s : State) (o : Out) : (s.emit o).poseLast = s.poseLast := rfl
@[simp] theorem emit_jade (s : State) (o : Out) : (s.emit o).jade = s.jade := rfl
@[simp] theorem emit_mem (s : State) (o : Out) : (s.emit o).mem = s.mem := rfl
@[simp] theorem emit_poison (s : State) (o : Out) : (s.emit o).poison = s.poison := rfl
@[simp] theorem emit_ceLines (s : State) (o : Out) : (s.emit o).ceLines = s.ceLines := rfl
@[simp] theorem emit_ueLines (s : State) (o : Out) : (s.emit o).ueLines = s.ueLines := rfl
@[simp] theorem emit_wbQueue (s : State) (o : Out) : (s.emit o).wbQueue = s.wbQueue := rfl
@[simp] theorem emit_plog (s : State) (o : Out) : (s.emit o).plog = s.plog := rfl
@[simp] theorem emit_retrainRun (s : State) (o : Out) : (s.emit o).retrainRun = s.retrainRun := rfl
@[simp] theorem emit_retrainDue (s : State) (o : Out) : (s.emit o).retrainDue = s.retrainDue := rfl
@[simp] theorem emit_scrubTold (s : State) (o : Out) : (s.emit o).scrubTold = s.scrubTold := rfl
@[simp] theorem emit_searches (s : State) (o : Out) : (s.emit o).searches = s.searches := rfl
@[simp] theorem emit_workList (s : State) (o : Out) : (s.emit o).workList = s.workList := rfl
@[simp] theorem emit_facets (s : State) (o : Out) : (s.emit o).facets = s.facets := rfl
@[simp] theorem emit_rlzRows (s : State) (o : Out) : (s.emit o).rlzRows = s.rlzRows := rfl
@[simp] theorem emit_runs (s : State) (o : Out) : (s.emit o).runs = s.runs := rfl
@[simp] theorem emit_steps (s : State) (o : Out) : (s.emit o).steps = s.steps := rfl
@[simp] theorem emit_migs (s : State) (o : Out) : (s.emit o).migs = s.migs := rfl
@[simp] theorem emit_migTold (s : State) (o : Out) : (s.emit o).migTold = s.migTold := rfl
@[simp] theorem emit_records (s : State) (o : Out) : (s.emit o).records = s.records := rfl
@[simp] theorem emit_lostSlots (s : State) (o : Out) : (s.emit o).lostSlots = s.lostSlots := rfl
@[simp] theorem emit_hqs (s : State) (o : Out) : (s.emit o).hqs = s.hqs := rfl
@[simp] theorem emit_expDropped (s : State) (o : Out) : (s.emit o).expDropped = s.expDropped := rfl
@[simp] theorem emit_links (s : State) (o : Out) : (s.emit o).links = s.links := rfl
@[simp] theorem emit_node (s : State) (o : Out) : (s.emit o).node = s.node := rfl
@[simp] theorem emit_amber (s : State) (o : Out) : (s.emit o).amber = s.amber := rfl
@[simp] theorem emit_arbs (s : State) (o : Out) : (s.emit o).arbs = s.arbs := rfl

/-! ## setInst -/

@[simp] theorem setInst_pending (s : State) (n : Nat) (v : InstState) : (s.setInst n v).pending = s.pending := rfl
@[simp] theorem setInst_out (s : State) (n : Nat) (v : InstState) : (s.setInst n v).out = s.out := rfl
@[simp] theorem setInst_ticks (s : State) (n : Nat) (v : InstState) : (s.setInst n v).ticks = s.ticks := rfl
@[simp] theorem setInst_free (s : State) (n : Nat) (v : InstState) : (s.setInst n v).free = s.free := rfl
@[simp] theorem setInst_regs (s : State) (n : Nat) (v : InstState) : (s.setInst n v).regs = s.regs := rfl
@[simp] theorem setInst_staged (s : State) (n : Nat) (v : InstState) : (s.setInst n v).staged = s.staged := rfl
@[simp] theorem setInst_sats (s : State) (n : Nat) (v : InstState) : (s.setInst n v).sats = s.sats := rfl
@[simp] theorem setInst_armed (s : State) (n : Nat) (v : InstState) : (s.setInst n v).armed = s.armed := rfl
@[simp] theorem setInst_hiHold (s : State) (n : Nat) (v : InstState) : (s.setInst n v).hiHold = s.hiHold := rfl
@[simp] theorem setInst_power (s : State) (n : Nat) (v : InstState) : (s.setInst n v).power = s.power := rfl
@[simp] theorem setInst_boot (s : State) (n : Nat) (v : InstState) : (s.setInst n v).boot = s.boot := rfl
@[simp] theorem setInst_pcie (s : State) (n : Nat) (v : InstState) : (s.setInst n v).pcie = s.pcie := rfl
@[simp] theorem setInst_dbg (s : State) (n : Nat) (v : InstState) : (s.setInst n v).dbg = s.dbg := rfl
@[simp] theorem setInst_quartz (s : State) (n : Nat) (v : InstState) : (s.setInst n v).quartz = s.quartz := rfl
@[simp] theorem setInst_domains (s : State) (n : Nat) (v : InstState) : (s.setInst n v).domains = s.domains := rfl
@[simp] theorem setInst_topaz (s : State) (n : Nat) (v : InstState) : (s.setInst n v).topaz = s.topaz := rfl
@[simp] theorem setInst_ops (s : State) (n : Nat) (v : InstState) : (s.setInst n v).ops = s.ops := rfl
@[simp] theorem setInst_opSeq (s : State) (n : Nat) (v : InstState) : (s.setInst n v).opSeq = s.opSeq := rfl
@[simp] theorem setInst_fences (s : State) (n : Nat) (v : InstState) : (s.setInst n v).fences = s.fences := rfl
@[simp] theorem setInst_qps (s : State) (n : Nat) (v : InstState) : (s.setInst n v).qps = s.qps := rfl
@[simp] theorem setInst_handoffs (s : State) (n : Nat) (v : InstState) : (s.setInst n v).handoffs = s.handoffs := rfl
@[simp] theorem setInst_hoEvents (s : State) (n : Nat) (v : InstState) : (s.setInst n v).hoEvents = s.hoEvents := rfl
@[simp] theorem setInst_msix (s : State) (n : Nat) (v : InstState) : (s.setInst n v).msix = s.msix := rfl
@[simp] theorem setInst_tagStall (s : State) (n : Nat) (v : InstState) : (s.setInst n v).tagStall = s.tagStall := rfl
@[simp] theorem setInst_ports (s : State) (n : Nat) (v : InstState) : (s.setInst n v).ports = s.ports := rfl
@[simp] theorem setInst_gptpRun (s : State) (n : Nat) (v : InstState) : (s.setInst n v).gptpRun = s.gptpRun := rfl
@[simp] theorem setInst_poseLast (s : State) (n : Nat) (v : InstState) : (s.setInst n v).poseLast = s.poseLast := rfl
@[simp] theorem setInst_jade (s : State) (n : Nat) (v : InstState) : (s.setInst n v).jade = s.jade := rfl
@[simp] theorem setInst_mem (s : State) (n : Nat) (v : InstState) : (s.setInst n v).mem = s.mem := rfl
@[simp] theorem setInst_poison (s : State) (n : Nat) (v : InstState) : (s.setInst n v).poison = s.poison := rfl
@[simp] theorem setInst_ceLines (s : State) (n : Nat) (v : InstState) : (s.setInst n v).ceLines = s.ceLines := rfl
@[simp] theorem setInst_ueLines (s : State) (n : Nat) (v : InstState) : (s.setInst n v).ueLines = s.ueLines := rfl
@[simp] theorem setInst_wbQueue (s : State) (n : Nat) (v : InstState) : (s.setInst n v).wbQueue = s.wbQueue := rfl
@[simp] theorem setInst_plog (s : State) (n : Nat) (v : InstState) : (s.setInst n v).plog = s.plog := rfl
@[simp] theorem setInst_retrainRun (s : State) (n : Nat) (v : InstState) : (s.setInst n v).retrainRun = s.retrainRun := rfl
@[simp] theorem setInst_retrainDue (s : State) (n : Nat) (v : InstState) : (s.setInst n v).retrainDue = s.retrainDue := rfl
@[simp] theorem setInst_scrubTold (s : State) (n : Nat) (v : InstState) : (s.setInst n v).scrubTold = s.scrubTold := rfl
@[simp] theorem setInst_searches (s : State) (n : Nat) (v : InstState) : (s.setInst n v).searches = s.searches := rfl
@[simp] theorem setInst_workList (s : State) (n : Nat) (v : InstState) : (s.setInst n v).workList = s.workList := rfl
@[simp] theorem setInst_facets (s : State) (n : Nat) (v : InstState) : (s.setInst n v).facets = s.facets := rfl
@[simp] theorem setInst_rlzRows (s : State) (n : Nat) (v : InstState) : (s.setInst n v).rlzRows = s.rlzRows := rfl
@[simp] theorem setInst_runs (s : State) (n : Nat) (v : InstState) : (s.setInst n v).runs = s.runs := rfl
@[simp] theorem setInst_steps (s : State) (n : Nat) (v : InstState) : (s.setInst n v).steps = s.steps := rfl
@[simp] theorem setInst_migs (s : State) (n : Nat) (v : InstState) : (s.setInst n v).migs = s.migs := rfl
@[simp] theorem setInst_migTold (s : State) (n : Nat) (v : InstState) : (s.setInst n v).migTold = s.migTold := rfl
@[simp] theorem setInst_records (s : State) (n : Nat) (v : InstState) : (s.setInst n v).records = s.records := rfl
@[simp] theorem setInst_lostSlots (s : State) (n : Nat) (v : InstState) : (s.setInst n v).lostSlots = s.lostSlots := rfl
@[simp] theorem setInst_hqs (s : State) (n : Nat) (v : InstState) : (s.setInst n v).hqs = s.hqs := rfl
@[simp] theorem setInst_expDropped (s : State) (n : Nat) (v : InstState) : (s.setInst n v).expDropped = s.expDropped := rfl
@[simp] theorem setInst_links (s : State) (n : Nat) (v : InstState) : (s.setInst n v).links = s.links := rfl
@[simp] theorem setInst_node (s : State) (n : Nat) (v : InstState) : (s.setInst n v).node = s.node := rfl
@[simp] theorem setInst_amber (s : State) (n : Nat) (v : InstState) : (s.setInst n v).amber = s.amber := rfl
@[simp] theorem setInst_arbs (s : State) (n : Nat) (v : InstState) : (s.setInst n v).arbs = s.arbs := rfl

/-! ## setQp -/

@[simp] theorem setQp_pending (s : State) (q : Nat) (v : QueuePair) : (s.setQp q v).pending = s.pending := rfl
@[simp] theorem setQp_out (s : State) (q : Nat) (v : QueuePair) : (s.setQp q v).out = s.out := rfl
@[simp] theorem setQp_ticks (s : State) (q : Nat) (v : QueuePair) : (s.setQp q v).ticks = s.ticks := rfl
@[simp] theorem setQp_free (s : State) (q : Nat) (v : QueuePair) : (s.setQp q v).free = s.free := rfl
@[simp] theorem setQp_regs (s : State) (q : Nat) (v : QueuePair) : (s.setQp q v).regs = s.regs := rfl
@[simp] theorem setQp_staged (s : State) (q : Nat) (v : QueuePair) : (s.setQp q v).staged = s.staged := rfl
@[simp] theorem setQp_sats (s : State) (q : Nat) (v : QueuePair) : (s.setQp q v).sats = s.sats := rfl
@[simp] theorem setQp_armed (s : State) (q : Nat) (v : QueuePair) : (s.setQp q v).armed = s.armed := rfl
@[simp] theorem setQp_hiHold (s : State) (q : Nat) (v : QueuePair) : (s.setQp q v).hiHold = s.hiHold := rfl
@[simp] theorem setQp_power (s : State) (q : Nat) (v : QueuePair) : (s.setQp q v).power = s.power := rfl
@[simp] theorem setQp_boot (s : State) (q : Nat) (v : QueuePair) : (s.setQp q v).boot = s.boot := rfl
@[simp] theorem setQp_pcie (s : State) (q : Nat) (v : QueuePair) : (s.setQp q v).pcie = s.pcie := rfl
@[simp] theorem setQp_dbg (s : State) (q : Nat) (v : QueuePair) : (s.setQp q v).dbg = s.dbg := rfl
@[simp] theorem setQp_quartz (s : State) (q : Nat) (v : QueuePair) : (s.setQp q v).quartz = s.quartz := rfl
@[simp] theorem setQp_domains (s : State) (q : Nat) (v : QueuePair) : (s.setQp q v).domains = s.domains := rfl
@[simp] theorem setQp_topaz (s : State) (q : Nat) (v : QueuePair) : (s.setQp q v).topaz = s.topaz := rfl
@[simp] theorem setQp_ops (s : State) (q : Nat) (v : QueuePair) : (s.setQp q v).ops = s.ops := rfl
@[simp] theorem setQp_opSeq (s : State) (q : Nat) (v : QueuePair) : (s.setQp q v).opSeq = s.opSeq := rfl
@[simp] theorem setQp_fences (s : State) (q : Nat) (v : QueuePair) : (s.setQp q v).fences = s.fences := rfl
@[simp] theorem setQp_insts (s : State) (q : Nat) (v : QueuePair) : (s.setQp q v).insts = s.insts := rfl
@[simp] theorem setQp_handoffs (s : State) (q : Nat) (v : QueuePair) : (s.setQp q v).handoffs = s.handoffs := rfl
@[simp] theorem setQp_hoEvents (s : State) (q : Nat) (v : QueuePair) : (s.setQp q v).hoEvents = s.hoEvents := rfl
@[simp] theorem setQp_msix (s : State) (q : Nat) (v : QueuePair) : (s.setQp q v).msix = s.msix := rfl
@[simp] theorem setQp_tagStall (s : State) (q : Nat) (v : QueuePair) : (s.setQp q v).tagStall = s.tagStall := rfl
@[simp] theorem setQp_ports (s : State) (q : Nat) (v : QueuePair) : (s.setQp q v).ports = s.ports := rfl
@[simp] theorem setQp_gptpRun (s : State) (q : Nat) (v : QueuePair) : (s.setQp q v).gptpRun = s.gptpRun := rfl
@[simp] theorem setQp_poseLast (s : State) (q : Nat) (v : QueuePair) : (s.setQp q v).poseLast = s.poseLast := rfl
@[simp] theorem setQp_jade (s : State) (q : Nat) (v : QueuePair) : (s.setQp q v).jade = s.jade := rfl
@[simp] theorem setQp_mem (s : State) (q : Nat) (v : QueuePair) : (s.setQp q v).mem = s.mem := rfl
@[simp] theorem setQp_poison (s : State) (q : Nat) (v : QueuePair) : (s.setQp q v).poison = s.poison := rfl
@[simp] theorem setQp_ceLines (s : State) (q : Nat) (v : QueuePair) : (s.setQp q v).ceLines = s.ceLines := rfl
@[simp] theorem setQp_ueLines (s : State) (q : Nat) (v : QueuePair) : (s.setQp q v).ueLines = s.ueLines := rfl
@[simp] theorem setQp_wbQueue (s : State) (q : Nat) (v : QueuePair) : (s.setQp q v).wbQueue = s.wbQueue := rfl
@[simp] theorem setQp_plog (s : State) (q : Nat) (v : QueuePair) : (s.setQp q v).plog = s.plog := rfl
@[simp] theorem setQp_retrainRun (s : State) (q : Nat) (v : QueuePair) : (s.setQp q v).retrainRun = s.retrainRun := rfl
@[simp] theorem setQp_retrainDue (s : State) (q : Nat) (v : QueuePair) : (s.setQp q v).retrainDue = s.retrainDue := rfl
@[simp] theorem setQp_scrubTold (s : State) (q : Nat) (v : QueuePair) : (s.setQp q v).scrubTold = s.scrubTold := rfl
@[simp] theorem setQp_searches (s : State) (q : Nat) (v : QueuePair) : (s.setQp q v).searches = s.searches := rfl
@[simp] theorem setQp_workList (s : State) (q : Nat) (v : QueuePair) : (s.setQp q v).workList = s.workList := rfl
@[simp] theorem setQp_facets (s : State) (q : Nat) (v : QueuePair) : (s.setQp q v).facets = s.facets := rfl
@[simp] theorem setQp_rlzRows (s : State) (q : Nat) (v : QueuePair) : (s.setQp q v).rlzRows = s.rlzRows := rfl
@[simp] theorem setQp_runs (s : State) (q : Nat) (v : QueuePair) : (s.setQp q v).runs = s.runs := rfl
@[simp] theorem setQp_steps (s : State) (q : Nat) (v : QueuePair) : (s.setQp q v).steps = s.steps := rfl
@[simp] theorem setQp_migs (s : State) (q : Nat) (v : QueuePair) : (s.setQp q v).migs = s.migs := rfl
@[simp] theorem setQp_migTold (s : State) (q : Nat) (v : QueuePair) : (s.setQp q v).migTold = s.migTold := rfl
@[simp] theorem setQp_records (s : State) (q : Nat) (v : QueuePair) : (s.setQp q v).records = s.records := rfl
@[simp] theorem setQp_lostSlots (s : State) (q : Nat) (v : QueuePair) : (s.setQp q v).lostSlots = s.lostSlots := rfl
@[simp] theorem setQp_hqs (s : State) (q : Nat) (v : QueuePair) : (s.setQp q v).hqs = s.hqs := rfl
@[simp] theorem setQp_expDropped (s : State) (q : Nat) (v : QueuePair) : (s.setQp q v).expDropped = s.expDropped := rfl
@[simp] theorem setQp_links (s : State) (q : Nat) (v : QueuePair) : (s.setQp q v).links = s.links := rfl
@[simp] theorem setQp_node (s : State) (q : Nat) (v : QueuePair) : (s.setQp q v).node = s.node := rfl
@[simp] theorem setQp_amber (s : State) (q : Nat) (v : QueuePair) : (s.setQp q v).amber = s.amber := rfl
@[simp] theorem setQp_arbs (s : State) (q : Nat) (v : QueuePair) : (s.setQp q v).arbs = s.arbs := rfl

/-! ## setFence -/

@[simp] theorem setFence_pending (s : State) (f : Nat) (v : Fence) : (s.setFence f v).pending = s.pending := rfl
@[simp] theorem setFence_out (s : State) (f : Nat) (v : Fence) : (s.setFence f v).out = s.out := rfl
@[simp] theorem setFence_ticks (s : State) (f : Nat) (v : Fence) : (s.setFence f v).ticks = s.ticks := rfl
@[simp] theorem setFence_free (s : State) (f : Nat) (v : Fence) : (s.setFence f v).free = s.free := rfl
@[simp] theorem setFence_regs (s : State) (f : Nat) (v : Fence) : (s.setFence f v).regs = s.regs := rfl
@[simp] theorem setFence_staged (s : State) (f : Nat) (v : Fence) : (s.setFence f v).staged = s.staged := rfl
@[simp] theorem setFence_sats (s : State) (f : Nat) (v : Fence) : (s.setFence f v).sats = s.sats := rfl
@[simp] theorem setFence_armed (s : State) (f : Nat) (v : Fence) : (s.setFence f v).armed = s.armed := rfl
@[simp] theorem setFence_hiHold (s : State) (f : Nat) (v : Fence) : (s.setFence f v).hiHold = s.hiHold := rfl
@[simp] theorem setFence_power (s : State) (f : Nat) (v : Fence) : (s.setFence f v).power = s.power := rfl
@[simp] theorem setFence_boot (s : State) (f : Nat) (v : Fence) : (s.setFence f v).boot = s.boot := rfl
@[simp] theorem setFence_pcie (s : State) (f : Nat) (v : Fence) : (s.setFence f v).pcie = s.pcie := rfl
@[simp] theorem setFence_dbg (s : State) (f : Nat) (v : Fence) : (s.setFence f v).dbg = s.dbg := rfl
@[simp] theorem setFence_quartz (s : State) (f : Nat) (v : Fence) : (s.setFence f v).quartz = s.quartz := rfl
@[simp] theorem setFence_domains (s : State) (f : Nat) (v : Fence) : (s.setFence f v).domains = s.domains := rfl
@[simp] theorem setFence_topaz (s : State) (f : Nat) (v : Fence) : (s.setFence f v).topaz = s.topaz := rfl
@[simp] theorem setFence_ops (s : State) (f : Nat) (v : Fence) : (s.setFence f v).ops = s.ops := rfl
@[simp] theorem setFence_opSeq (s : State) (f : Nat) (v : Fence) : (s.setFence f v).opSeq = s.opSeq := rfl
@[simp] theorem setFence_qps (s : State) (f : Nat) (v : Fence) : (s.setFence f v).qps = s.qps := rfl
@[simp] theorem setFence_insts (s : State) (f : Nat) (v : Fence) : (s.setFence f v).insts = s.insts := rfl
@[simp] theorem setFence_handoffs (s : State) (f : Nat) (v : Fence) : (s.setFence f v).handoffs = s.handoffs := rfl
@[simp] theorem setFence_hoEvents (s : State) (f : Nat) (v : Fence) : (s.setFence f v).hoEvents = s.hoEvents := rfl
@[simp] theorem setFence_msix (s : State) (f : Nat) (v : Fence) : (s.setFence f v).msix = s.msix := rfl
@[simp] theorem setFence_tagStall (s : State) (f : Nat) (v : Fence) : (s.setFence f v).tagStall = s.tagStall := rfl
@[simp] theorem setFence_ports (s : State) (f : Nat) (v : Fence) : (s.setFence f v).ports = s.ports := rfl
@[simp] theorem setFence_gptpRun (s : State) (f : Nat) (v : Fence) : (s.setFence f v).gptpRun = s.gptpRun := rfl
@[simp] theorem setFence_poseLast (s : State) (f : Nat) (v : Fence) : (s.setFence f v).poseLast = s.poseLast := rfl
@[simp] theorem setFence_jade (s : State) (f : Nat) (v : Fence) : (s.setFence f v).jade = s.jade := rfl
@[simp] theorem setFence_mem (s : State) (f : Nat) (v : Fence) : (s.setFence f v).mem = s.mem := rfl
@[simp] theorem setFence_poison (s : State) (f : Nat) (v : Fence) : (s.setFence f v).poison = s.poison := rfl
@[simp] theorem setFence_ceLines (s : State) (f : Nat) (v : Fence) : (s.setFence f v).ceLines = s.ceLines := rfl
@[simp] theorem setFence_ueLines (s : State) (f : Nat) (v : Fence) : (s.setFence f v).ueLines = s.ueLines := rfl
@[simp] theorem setFence_wbQueue (s : State) (f : Nat) (v : Fence) : (s.setFence f v).wbQueue = s.wbQueue := rfl
@[simp] theorem setFence_plog (s : State) (f : Nat) (v : Fence) : (s.setFence f v).plog = s.plog := rfl
@[simp] theorem setFence_retrainRun (s : State) (f : Nat) (v : Fence) : (s.setFence f v).retrainRun = s.retrainRun := rfl
@[simp] theorem setFence_retrainDue (s : State) (f : Nat) (v : Fence) : (s.setFence f v).retrainDue = s.retrainDue := rfl
@[simp] theorem setFence_scrubTold (s : State) (f : Nat) (v : Fence) : (s.setFence f v).scrubTold = s.scrubTold := rfl
@[simp] theorem setFence_searches (s : State) (f : Nat) (v : Fence) : (s.setFence f v).searches = s.searches := rfl
@[simp] theorem setFence_workList (s : State) (f : Nat) (v : Fence) : (s.setFence f v).workList = s.workList := rfl
@[simp] theorem setFence_facets (s : State) (f : Nat) (v : Fence) : (s.setFence f v).facets = s.facets := rfl
@[simp] theorem setFence_rlzRows (s : State) (f : Nat) (v : Fence) : (s.setFence f v).rlzRows = s.rlzRows := rfl
@[simp] theorem setFence_runs (s : State) (f : Nat) (v : Fence) : (s.setFence f v).runs = s.runs := rfl
@[simp] theorem setFence_steps (s : State) (f : Nat) (v : Fence) : (s.setFence f v).steps = s.steps := rfl
@[simp] theorem setFence_migs (s : State) (f : Nat) (v : Fence) : (s.setFence f v).migs = s.migs := rfl
@[simp] theorem setFence_migTold (s : State) (f : Nat) (v : Fence) : (s.setFence f v).migTold = s.migTold := rfl
@[simp] theorem setFence_records (s : State) (f : Nat) (v : Fence) : (s.setFence f v).records = s.records := rfl
@[simp] theorem setFence_lostSlots (s : State) (f : Nat) (v : Fence) : (s.setFence f v).lostSlots = s.lostSlots := rfl
@[simp] theorem setFence_hqs (s : State) (f : Nat) (v : Fence) : (s.setFence f v).hqs = s.hqs := rfl
@[simp] theorem setFence_expDropped (s : State) (f : Nat) (v : Fence) : (s.setFence f v).expDropped = s.expDropped := rfl
@[simp] theorem setFence_links (s : State) (f : Nat) (v : Fence) : (s.setFence f v).links = s.links := rfl
@[simp] theorem setFence_node (s : State) (f : Nat) (v : Fence) : (s.setFence f v).node = s.node := rfl
@[simp] theorem setFence_amber (s : State) (f : Nat) (v : Fence) : (s.setFence f v).amber = s.amber := rfl
@[simp] theorem setFence_arbs (s : State) (f : Nat) (v : Fence) : (s.setFence f v).arbs = s.arbs := rfl

/-! ## setMsix -/

@[simp] theorem setMsix_pending (s : State) (n v : Nat) (e : MsixEntry) : (s.setMsix n v e).pending = s.pending := rfl
@[simp] theorem setMsix_out (s : State) (n v : Nat) (e : MsixEntry) : (s.setMsix n v e).out = s.out := rfl
@[simp] theorem setMsix_ticks (s : State) (n v : Nat) (e : MsixEntry) : (s.setMsix n v e).ticks = s.ticks := rfl
@[simp] theorem setMsix_free (s : State) (n v : Nat) (e : MsixEntry) : (s.setMsix n v e).free = s.free := rfl
@[simp] theorem setMsix_regs (s : State) (n v : Nat) (e : MsixEntry) : (s.setMsix n v e).regs = s.regs := rfl
@[simp] theorem setMsix_staged (s : State) (n v : Nat) (e : MsixEntry) : (s.setMsix n v e).staged = s.staged := rfl
@[simp] theorem setMsix_sats (s : State) (n v : Nat) (e : MsixEntry) : (s.setMsix n v e).sats = s.sats := rfl
@[simp] theorem setMsix_armed (s : State) (n v : Nat) (e : MsixEntry) : (s.setMsix n v e).armed = s.armed := rfl
@[simp] theorem setMsix_hiHold (s : State) (n v : Nat) (e : MsixEntry) : (s.setMsix n v e).hiHold = s.hiHold := rfl
@[simp] theorem setMsix_power (s : State) (n v : Nat) (e : MsixEntry) : (s.setMsix n v e).power = s.power := rfl
@[simp] theorem setMsix_boot (s : State) (n v : Nat) (e : MsixEntry) : (s.setMsix n v e).boot = s.boot := rfl
@[simp] theorem setMsix_pcie (s : State) (n v : Nat) (e : MsixEntry) : (s.setMsix n v e).pcie = s.pcie := rfl
@[simp] theorem setMsix_dbg (s : State) (n v : Nat) (e : MsixEntry) : (s.setMsix n v e).dbg = s.dbg := rfl
@[simp] theorem setMsix_quartz (s : State) (n v : Nat) (e : MsixEntry) : (s.setMsix n v e).quartz = s.quartz := rfl
@[simp] theorem setMsix_domains (s : State) (n v : Nat) (e : MsixEntry) : (s.setMsix n v e).domains = s.domains := rfl
@[simp] theorem setMsix_topaz (s : State) (n v : Nat) (e : MsixEntry) : (s.setMsix n v e).topaz = s.topaz := rfl
@[simp] theorem setMsix_ops (s : State) (n v : Nat) (e : MsixEntry) : (s.setMsix n v e).ops = s.ops := rfl
@[simp] theorem setMsix_opSeq (s : State) (n v : Nat) (e : MsixEntry) : (s.setMsix n v e).opSeq = s.opSeq := rfl
@[simp] theorem setMsix_fences (s : State) (n v : Nat) (e : MsixEntry) : (s.setMsix n v e).fences = s.fences := rfl
@[simp] theorem setMsix_qps (s : State) (n v : Nat) (e : MsixEntry) : (s.setMsix n v e).qps = s.qps := rfl
@[simp] theorem setMsix_insts (s : State) (n v : Nat) (e : MsixEntry) : (s.setMsix n v e).insts = s.insts := rfl
@[simp] theorem setMsix_handoffs (s : State) (n v : Nat) (e : MsixEntry) : (s.setMsix n v e).handoffs = s.handoffs := rfl
@[simp] theorem setMsix_hoEvents (s : State) (n v : Nat) (e : MsixEntry) : (s.setMsix n v e).hoEvents = s.hoEvents := rfl
@[simp] theorem setMsix_tagStall (s : State) (n v : Nat) (e : MsixEntry) : (s.setMsix n v e).tagStall = s.tagStall := rfl
@[simp] theorem setMsix_ports (s : State) (n v : Nat) (e : MsixEntry) : (s.setMsix n v e).ports = s.ports := rfl
@[simp] theorem setMsix_gptpRun (s : State) (n v : Nat) (e : MsixEntry) : (s.setMsix n v e).gptpRun = s.gptpRun := rfl
@[simp] theorem setMsix_poseLast (s : State) (n v : Nat) (e : MsixEntry) : (s.setMsix n v e).poseLast = s.poseLast := rfl
@[simp] theorem setMsix_jade (s : State) (n v : Nat) (e : MsixEntry) : (s.setMsix n v e).jade = s.jade := rfl
@[simp] theorem setMsix_mem (s : State) (n v : Nat) (e : MsixEntry) : (s.setMsix n v e).mem = s.mem := rfl
@[simp] theorem setMsix_poison (s : State) (n v : Nat) (e : MsixEntry) : (s.setMsix n v e).poison = s.poison := rfl
@[simp] theorem setMsix_ceLines (s : State) (n v : Nat) (e : MsixEntry) : (s.setMsix n v e).ceLines = s.ceLines := rfl
@[simp] theorem setMsix_ueLines (s : State) (n v : Nat) (e : MsixEntry) : (s.setMsix n v e).ueLines = s.ueLines := rfl
@[simp] theorem setMsix_wbQueue (s : State) (n v : Nat) (e : MsixEntry) : (s.setMsix n v e).wbQueue = s.wbQueue := rfl
@[simp] theorem setMsix_plog (s : State) (n v : Nat) (e : MsixEntry) : (s.setMsix n v e).plog = s.plog := rfl
@[simp] theorem setMsix_retrainRun (s : State) (n v : Nat) (e : MsixEntry) : (s.setMsix n v e).retrainRun = s.retrainRun := rfl
@[simp] theorem setMsix_retrainDue (s : State) (n v : Nat) (e : MsixEntry) : (s.setMsix n v e).retrainDue = s.retrainDue := rfl
@[simp] theorem setMsix_scrubTold (s : State) (n v : Nat) (e : MsixEntry) : (s.setMsix n v e).scrubTold = s.scrubTold := rfl
@[simp] theorem setMsix_searches (s : State) (n v : Nat) (e : MsixEntry) : (s.setMsix n v e).searches = s.searches := rfl
@[simp] theorem setMsix_workList (s : State) (n v : Nat) (e : MsixEntry) : (s.setMsix n v e).workList = s.workList := rfl
@[simp] theorem setMsix_facets (s : State) (n v : Nat) (e : MsixEntry) : (s.setMsix n v e).facets = s.facets := rfl
@[simp] theorem setMsix_rlzRows (s : State) (n v : Nat) (e : MsixEntry) : (s.setMsix n v e).rlzRows = s.rlzRows := rfl
@[simp] theorem setMsix_runs (s : State) (n v : Nat) (e : MsixEntry) : (s.setMsix n v e).runs = s.runs := rfl
@[simp] theorem setMsix_steps (s : State) (n v : Nat) (e : MsixEntry) : (s.setMsix n v e).steps = s.steps := rfl
@[simp] theorem setMsix_migs (s : State) (n v : Nat) (e : MsixEntry) : (s.setMsix n v e).migs = s.migs := rfl
@[simp] theorem setMsix_migTold (s : State) (n v : Nat) (e : MsixEntry) : (s.setMsix n v e).migTold = s.migTold := rfl
@[simp] theorem setMsix_records (s : State) (n v : Nat) (e : MsixEntry) : (s.setMsix n v e).records = s.records := rfl
@[simp] theorem setMsix_lostSlots (s : State) (n v : Nat) (e : MsixEntry) : (s.setMsix n v e).lostSlots = s.lostSlots := rfl
@[simp] theorem setMsix_hqs (s : State) (n v : Nat) (e : MsixEntry) : (s.setMsix n v e).hqs = s.hqs := rfl
@[simp] theorem setMsix_expDropped (s : State) (n v : Nat) (e : MsixEntry) : (s.setMsix n v e).expDropped = s.expDropped := rfl
@[simp] theorem setMsix_links (s : State) (n v : Nat) (e : MsixEntry) : (s.setMsix n v e).links = s.links := rfl
@[simp] theorem setMsix_node (s : State) (n v : Nat) (e : MsixEntry) : (s.setMsix n v e).node = s.node := rfl
@[simp] theorem setMsix_amber (s : State) (n v : Nat) (e : MsixEntry) : (s.setMsix n v e).amber = s.amber := rfl
@[simp] theorem setMsix_arbs (s : State) (n v : Nat) (e : MsixEntry) : (s.setMsix n v e).arbs = s.arbs := rfl

/-! ## setOp -/

@[simp] theorem setOp_pending (s : State) (tag : Nat) (o : Op) : (s.setOp tag o).pending = s.pending := rfl
@[simp] theorem setOp_out (s : State) (tag : Nat) (o : Op) : (s.setOp tag o).out = s.out := rfl
@[simp] theorem setOp_ticks (s : State) (tag : Nat) (o : Op) : (s.setOp tag o).ticks = s.ticks := rfl
@[simp] theorem setOp_free (s : State) (tag : Nat) (o : Op) : (s.setOp tag o).free = s.free := rfl
@[simp] theorem setOp_regs (s : State) (tag : Nat) (o : Op) : (s.setOp tag o).regs = s.regs := rfl
@[simp] theorem setOp_staged (s : State) (tag : Nat) (o : Op) : (s.setOp tag o).staged = s.staged := rfl
@[simp] theorem setOp_sats (s : State) (tag : Nat) (o : Op) : (s.setOp tag o).sats = s.sats := rfl
@[simp] theorem setOp_armed (s : State) (tag : Nat) (o : Op) : (s.setOp tag o).armed = s.armed := rfl
@[simp] theorem setOp_hiHold (s : State) (tag : Nat) (o : Op) : (s.setOp tag o).hiHold = s.hiHold := rfl
@[simp] theorem setOp_power (s : State) (tag : Nat) (o : Op) : (s.setOp tag o).power = s.power := rfl
@[simp] theorem setOp_boot (s : State) (tag : Nat) (o : Op) : (s.setOp tag o).boot = s.boot := rfl
@[simp] theorem setOp_pcie (s : State) (tag : Nat) (o : Op) : (s.setOp tag o).pcie = s.pcie := rfl
@[simp] theorem setOp_dbg (s : State) (tag : Nat) (o : Op) : (s.setOp tag o).dbg = s.dbg := rfl
@[simp] theorem setOp_quartz (s : State) (tag : Nat) (o : Op) : (s.setOp tag o).quartz = s.quartz := rfl
@[simp] theorem setOp_domains (s : State) (tag : Nat) (o : Op) : (s.setOp tag o).domains = s.domains := rfl
@[simp] theorem setOp_topaz (s : State) (tag : Nat) (o : Op) : (s.setOp tag o).topaz = s.topaz := rfl
@[simp] theorem setOp_opSeq (s : State) (tag : Nat) (o : Op) : (s.setOp tag o).opSeq = s.opSeq := rfl
@[simp] theorem setOp_fences (s : State) (tag : Nat) (o : Op) : (s.setOp tag o).fences = s.fences := rfl
@[simp] theorem setOp_qps (s : State) (tag : Nat) (o : Op) : (s.setOp tag o).qps = s.qps := rfl
@[simp] theorem setOp_insts (s : State) (tag : Nat) (o : Op) : (s.setOp tag o).insts = s.insts := rfl
@[simp] theorem setOp_handoffs (s : State) (tag : Nat) (o : Op) : (s.setOp tag o).handoffs = s.handoffs := rfl
@[simp] theorem setOp_hoEvents (s : State) (tag : Nat) (o : Op) : (s.setOp tag o).hoEvents = s.hoEvents := rfl
@[simp] theorem setOp_msix (s : State) (tag : Nat) (o : Op) : (s.setOp tag o).msix = s.msix := rfl
@[simp] theorem setOp_tagStall (s : State) (tag : Nat) (o : Op) : (s.setOp tag o).tagStall = s.tagStall := rfl
@[simp] theorem setOp_ports (s : State) (tag : Nat) (o : Op) : (s.setOp tag o).ports = s.ports := rfl
@[simp] theorem setOp_gptpRun (s : State) (tag : Nat) (o : Op) : (s.setOp tag o).gptpRun = s.gptpRun := rfl
@[simp] theorem setOp_poseLast (s : State) (tag : Nat) (o : Op) : (s.setOp tag o).poseLast = s.poseLast := rfl
@[simp] theorem setOp_jade (s : State) (tag : Nat) (o : Op) : (s.setOp tag o).jade = s.jade := rfl
@[simp] theorem setOp_mem (s : State) (tag : Nat) (o : Op) : (s.setOp tag o).mem = s.mem := rfl
@[simp] theorem setOp_poison (s : State) (tag : Nat) (o : Op) : (s.setOp tag o).poison = s.poison := rfl
@[simp] theorem setOp_ceLines (s : State) (tag : Nat) (o : Op) : (s.setOp tag o).ceLines = s.ceLines := rfl
@[simp] theorem setOp_ueLines (s : State) (tag : Nat) (o : Op) : (s.setOp tag o).ueLines = s.ueLines := rfl
@[simp] theorem setOp_wbQueue (s : State) (tag : Nat) (o : Op) : (s.setOp tag o).wbQueue = s.wbQueue := rfl
@[simp] theorem setOp_plog (s : State) (tag : Nat) (o : Op) : (s.setOp tag o).plog = s.plog := rfl
@[simp] theorem setOp_retrainRun (s : State) (tag : Nat) (o : Op) : (s.setOp tag o).retrainRun = s.retrainRun := rfl
@[simp] theorem setOp_retrainDue (s : State) (tag : Nat) (o : Op) : (s.setOp tag o).retrainDue = s.retrainDue := rfl
@[simp] theorem setOp_scrubTold (s : State) (tag : Nat) (o : Op) : (s.setOp tag o).scrubTold = s.scrubTold := rfl
@[simp] theorem setOp_searches (s : State) (tag : Nat) (o : Op) : (s.setOp tag o).searches = s.searches := rfl
@[simp] theorem setOp_workList (s : State) (tag : Nat) (o : Op) : (s.setOp tag o).workList = s.workList := rfl
@[simp] theorem setOp_facets (s : State) (tag : Nat) (o : Op) : (s.setOp tag o).facets = s.facets := rfl
@[simp] theorem setOp_rlzRows (s : State) (tag : Nat) (o : Op) : (s.setOp tag o).rlzRows = s.rlzRows := rfl
@[simp] theorem setOp_runs (s : State) (tag : Nat) (o : Op) : (s.setOp tag o).runs = s.runs := rfl
@[simp] theorem setOp_steps (s : State) (tag : Nat) (o : Op) : (s.setOp tag o).steps = s.steps := rfl
@[simp] theorem setOp_migs (s : State) (tag : Nat) (o : Op) : (s.setOp tag o).migs = s.migs := rfl
@[simp] theorem setOp_migTold (s : State) (tag : Nat) (o : Op) : (s.setOp tag o).migTold = s.migTold := rfl
@[simp] theorem setOp_records (s : State) (tag : Nat) (o : Op) : (s.setOp tag o).records = s.records := rfl
@[simp] theorem setOp_lostSlots (s : State) (tag : Nat) (o : Op) : (s.setOp tag o).lostSlots = s.lostSlots := rfl
@[simp] theorem setOp_hqs (s : State) (tag : Nat) (o : Op) : (s.setOp tag o).hqs = s.hqs := rfl
@[simp] theorem setOp_expDropped (s : State) (tag : Nat) (o : Op) : (s.setOp tag o).expDropped = s.expDropped := rfl
@[simp] theorem setOp_links (s : State) (tag : Nat) (o : Op) : (s.setOp tag o).links = s.links := rfl
@[simp] theorem setOp_node (s : State) (tag : Nat) (o : Op) : (s.setOp tag o).node = s.node := rfl
@[simp] theorem setOp_amber (s : State) (tag : Nat) (o : Op) : (s.setOp tag o).amber = s.amber := rfl
@[simp] theorem setOp_arbs (s : State) (tag : Nat) (o : Op) : (s.setOp tag o).arbs = s.arbs := rfl

/-! ## setPort -/

@[simp] theorem setPort_pending (s : State) (p : Nat) (v : Port) : (s.setPort p v).pending = s.pending := rfl
@[simp] theorem setPort_out (s : State) (p : Nat) (v : Port) : (s.setPort p v).out = s.out := rfl
@[simp] theorem setPort_ticks (s : State) (p : Nat) (v : Port) : (s.setPort p v).ticks = s.ticks := rfl
@[simp] theorem setPort_free (s : State) (p : Nat) (v : Port) : (s.setPort p v).free = s.free := rfl
@[simp] theorem setPort_regs (s : State) (p : Nat) (v : Port) : (s.setPort p v).regs = s.regs := rfl
@[simp] theorem setPort_staged (s : State) (p : Nat) (v : Port) : (s.setPort p v).staged = s.staged := rfl
@[simp] theorem setPort_sats (s : State) (p : Nat) (v : Port) : (s.setPort p v).sats = s.sats := rfl
@[simp] theorem setPort_armed (s : State) (p : Nat) (v : Port) : (s.setPort p v).armed = s.armed := rfl
@[simp] theorem setPort_hiHold (s : State) (p : Nat) (v : Port) : (s.setPort p v).hiHold = s.hiHold := rfl
@[simp] theorem setPort_power (s : State) (p : Nat) (v : Port) : (s.setPort p v).power = s.power := rfl
@[simp] theorem setPort_boot (s : State) (p : Nat) (v : Port) : (s.setPort p v).boot = s.boot := rfl
@[simp] theorem setPort_pcie (s : State) (p : Nat) (v : Port) : (s.setPort p v).pcie = s.pcie := rfl
@[simp] theorem setPort_dbg (s : State) (p : Nat) (v : Port) : (s.setPort p v).dbg = s.dbg := rfl
@[simp] theorem setPort_quartz (s : State) (p : Nat) (v : Port) : (s.setPort p v).quartz = s.quartz := rfl
@[simp] theorem setPort_domains (s : State) (p : Nat) (v : Port) : (s.setPort p v).domains = s.domains := rfl
@[simp] theorem setPort_topaz (s : State) (p : Nat) (v : Port) : (s.setPort p v).topaz = s.topaz := rfl
@[simp] theorem setPort_ops (s : State) (p : Nat) (v : Port) : (s.setPort p v).ops = s.ops := rfl
@[simp] theorem setPort_opSeq (s : State) (p : Nat) (v : Port) : (s.setPort p v).opSeq = s.opSeq := rfl
@[simp] theorem setPort_fences (s : State) (p : Nat) (v : Port) : (s.setPort p v).fences = s.fences := rfl
@[simp] theorem setPort_qps (s : State) (p : Nat) (v : Port) : (s.setPort p v).qps = s.qps := rfl
@[simp] theorem setPort_insts (s : State) (p : Nat) (v : Port) : (s.setPort p v).insts = s.insts := rfl
@[simp] theorem setPort_handoffs (s : State) (p : Nat) (v : Port) : (s.setPort p v).handoffs = s.handoffs := rfl
@[simp] theorem setPort_hoEvents (s : State) (p : Nat) (v : Port) : (s.setPort p v).hoEvents = s.hoEvents := rfl
@[simp] theorem setPort_msix (s : State) (p : Nat) (v : Port) : (s.setPort p v).msix = s.msix := rfl
@[simp] theorem setPort_tagStall (s : State) (p : Nat) (v : Port) : (s.setPort p v).tagStall = s.tagStall := rfl
@[simp] theorem setPort_gptpRun (s : State) (p : Nat) (v : Port) : (s.setPort p v).gptpRun = s.gptpRun := rfl
@[simp] theorem setPort_poseLast (s : State) (p : Nat) (v : Port) : (s.setPort p v).poseLast = s.poseLast := rfl
@[simp] theorem setPort_jade (s : State) (p : Nat) (v : Port) : (s.setPort p v).jade = s.jade := rfl
@[simp] theorem setPort_mem (s : State) (p : Nat) (v : Port) : (s.setPort p v).mem = s.mem := rfl
@[simp] theorem setPort_poison (s : State) (p : Nat) (v : Port) : (s.setPort p v).poison = s.poison := rfl
@[simp] theorem setPort_ceLines (s : State) (p : Nat) (v : Port) : (s.setPort p v).ceLines = s.ceLines := rfl
@[simp] theorem setPort_ueLines (s : State) (p : Nat) (v : Port) : (s.setPort p v).ueLines = s.ueLines := rfl
@[simp] theorem setPort_wbQueue (s : State) (p : Nat) (v : Port) : (s.setPort p v).wbQueue = s.wbQueue := rfl
@[simp] theorem setPort_plog (s : State) (p : Nat) (v : Port) : (s.setPort p v).plog = s.plog := rfl
@[simp] theorem setPort_retrainRun (s : State) (p : Nat) (v : Port) : (s.setPort p v).retrainRun = s.retrainRun := rfl
@[simp] theorem setPort_retrainDue (s : State) (p : Nat) (v : Port) : (s.setPort p v).retrainDue = s.retrainDue := rfl
@[simp] theorem setPort_scrubTold (s : State) (p : Nat) (v : Port) : (s.setPort p v).scrubTold = s.scrubTold := rfl
@[simp] theorem setPort_searches (s : State) (p : Nat) (v : Port) : (s.setPort p v).searches = s.searches := rfl
@[simp] theorem setPort_workList (s : State) (p : Nat) (v : Port) : (s.setPort p v).workList = s.workList := rfl
@[simp] theorem setPort_facets (s : State) (p : Nat) (v : Port) : (s.setPort p v).facets = s.facets := rfl
@[simp] theorem setPort_rlzRows (s : State) (p : Nat) (v : Port) : (s.setPort p v).rlzRows = s.rlzRows := rfl
@[simp] theorem setPort_runs (s : State) (p : Nat) (v : Port) : (s.setPort p v).runs = s.runs := rfl
@[simp] theorem setPort_steps (s : State) (p : Nat) (v : Port) : (s.setPort p v).steps = s.steps := rfl
@[simp] theorem setPort_migs (s : State) (p : Nat) (v : Port) : (s.setPort p v).migs = s.migs := rfl
@[simp] theorem setPort_migTold (s : State) (p : Nat) (v : Port) : (s.setPort p v).migTold = s.migTold := rfl
@[simp] theorem setPort_records (s : State) (p : Nat) (v : Port) : (s.setPort p v).records = s.records := rfl
@[simp] theorem setPort_lostSlots (s : State) (p : Nat) (v : Port) : (s.setPort p v).lostSlots = s.lostSlots := rfl
@[simp] theorem setPort_hqs (s : State) (p : Nat) (v : Port) : (s.setPort p v).hqs = s.hqs := rfl
@[simp] theorem setPort_expDropped (s : State) (p : Nat) (v : Port) : (s.setPort p v).expDropped = s.expDropped := rfl
@[simp] theorem setPort_links (s : State) (p : Nat) (v : Port) : (s.setPort p v).links = s.links := rfl
@[simp] theorem setPort_node (s : State) (p : Nat) (v : Port) : (s.setPort p v).node = s.node := rfl
@[simp] theorem setPort_amber (s : State) (p : Nat) (v : Port) : (s.setPort p v).amber = s.amber := rfl
@[simp] theorem setPort_arbs (s : State) (p : Nat) (v : Port) : (s.setPort p v).arbs = s.arbs := rfl

/-! ## setDom -/

@[simp] theorem setDom_pending (s : State) (n : Nat) (v : Domain) : (s.setDom n v).pending = s.pending := rfl
@[simp] theorem setDom_out (s : State) (n : Nat) (v : Domain) : (s.setDom n v).out = s.out := rfl
@[simp] theorem setDom_ticks (s : State) (n : Nat) (v : Domain) : (s.setDom n v).ticks = s.ticks := rfl
@[simp] theorem setDom_free (s : State) (n : Nat) (v : Domain) : (s.setDom n v).free = s.free := rfl
@[simp] theorem setDom_regs (s : State) (n : Nat) (v : Domain) : (s.setDom n v).regs = s.regs := rfl
@[simp] theorem setDom_staged (s : State) (n : Nat) (v : Domain) : (s.setDom n v).staged = s.staged := rfl
@[simp] theorem setDom_sats (s : State) (n : Nat) (v : Domain) : (s.setDom n v).sats = s.sats := rfl
@[simp] theorem setDom_armed (s : State) (n : Nat) (v : Domain) : (s.setDom n v).armed = s.armed := rfl
@[simp] theorem setDom_hiHold (s : State) (n : Nat) (v : Domain) : (s.setDom n v).hiHold = s.hiHold := rfl
@[simp] theorem setDom_power (s : State) (n : Nat) (v : Domain) : (s.setDom n v).power = s.power := rfl
@[simp] theorem setDom_boot (s : State) (n : Nat) (v : Domain) : (s.setDom n v).boot = s.boot := rfl
@[simp] theorem setDom_pcie (s : State) (n : Nat) (v : Domain) : (s.setDom n v).pcie = s.pcie := rfl
@[simp] theorem setDom_dbg (s : State) (n : Nat) (v : Domain) : (s.setDom n v).dbg = s.dbg := rfl
@[simp] theorem setDom_quartz (s : State) (n : Nat) (v : Domain) : (s.setDom n v).quartz = s.quartz := rfl
@[simp] theorem setDom_topaz (s : State) (n : Nat) (v : Domain) : (s.setDom n v).topaz = s.topaz := rfl
@[simp] theorem setDom_ops (s : State) (n : Nat) (v : Domain) : (s.setDom n v).ops = s.ops := rfl
@[simp] theorem setDom_opSeq (s : State) (n : Nat) (v : Domain) : (s.setDom n v).opSeq = s.opSeq := rfl
@[simp] theorem setDom_fences (s : State) (n : Nat) (v : Domain) : (s.setDom n v).fences = s.fences := rfl
@[simp] theorem setDom_qps (s : State) (n : Nat) (v : Domain) : (s.setDom n v).qps = s.qps := rfl
@[simp] theorem setDom_insts (s : State) (n : Nat) (v : Domain) : (s.setDom n v).insts = s.insts := rfl
@[simp] theorem setDom_handoffs (s : State) (n : Nat) (v : Domain) : (s.setDom n v).handoffs = s.handoffs := rfl
@[simp] theorem setDom_hoEvents (s : State) (n : Nat) (v : Domain) : (s.setDom n v).hoEvents = s.hoEvents := rfl
@[simp] theorem setDom_msix (s : State) (n : Nat) (v : Domain) : (s.setDom n v).msix = s.msix := rfl
@[simp] theorem setDom_tagStall (s : State) (n : Nat) (v : Domain) : (s.setDom n v).tagStall = s.tagStall := rfl
@[simp] theorem setDom_ports (s : State) (n : Nat) (v : Domain) : (s.setDom n v).ports = s.ports := rfl
@[simp] theorem setDom_gptpRun (s : State) (n : Nat) (v : Domain) : (s.setDom n v).gptpRun = s.gptpRun := rfl
@[simp] theorem setDom_poseLast (s : State) (n : Nat) (v : Domain) : (s.setDom n v).poseLast = s.poseLast := rfl
@[simp] theorem setDom_jade (s : State) (n : Nat) (v : Domain) : (s.setDom n v).jade = s.jade := rfl
@[simp] theorem setDom_mem (s : State) (n : Nat) (v : Domain) : (s.setDom n v).mem = s.mem := rfl
@[simp] theorem setDom_poison (s : State) (n : Nat) (v : Domain) : (s.setDom n v).poison = s.poison := rfl
@[simp] theorem setDom_ceLines (s : State) (n : Nat) (v : Domain) : (s.setDom n v).ceLines = s.ceLines := rfl
@[simp] theorem setDom_ueLines (s : State) (n : Nat) (v : Domain) : (s.setDom n v).ueLines = s.ueLines := rfl
@[simp] theorem setDom_wbQueue (s : State) (n : Nat) (v : Domain) : (s.setDom n v).wbQueue = s.wbQueue := rfl
@[simp] theorem setDom_plog (s : State) (n : Nat) (v : Domain) : (s.setDom n v).plog = s.plog := rfl
@[simp] theorem setDom_retrainRun (s : State) (n : Nat) (v : Domain) : (s.setDom n v).retrainRun = s.retrainRun := rfl
@[simp] theorem setDom_retrainDue (s : State) (n : Nat) (v : Domain) : (s.setDom n v).retrainDue = s.retrainDue := rfl
@[simp] theorem setDom_scrubTold (s : State) (n : Nat) (v : Domain) : (s.setDom n v).scrubTold = s.scrubTold := rfl
@[simp] theorem setDom_searches (s : State) (n : Nat) (v : Domain) : (s.setDom n v).searches = s.searches := rfl
@[simp] theorem setDom_workList (s : State) (n : Nat) (v : Domain) : (s.setDom n v).workList = s.workList := rfl
@[simp] theorem setDom_facets (s : State) (n : Nat) (v : Domain) : (s.setDom n v).facets = s.facets := rfl
@[simp] theorem setDom_rlzRows (s : State) (n : Nat) (v : Domain) : (s.setDom n v).rlzRows = s.rlzRows := rfl
@[simp] theorem setDom_runs (s : State) (n : Nat) (v : Domain) : (s.setDom n v).runs = s.runs := rfl
@[simp] theorem setDom_steps (s : State) (n : Nat) (v : Domain) : (s.setDom n v).steps = s.steps := rfl
@[simp] theorem setDom_migs (s : State) (n : Nat) (v : Domain) : (s.setDom n v).migs = s.migs := rfl
@[simp] theorem setDom_migTold (s : State) (n : Nat) (v : Domain) : (s.setDom n v).migTold = s.migTold := rfl
@[simp] theorem setDom_records (s : State) (n : Nat) (v : Domain) : (s.setDom n v).records = s.records := rfl
@[simp] theorem setDom_lostSlots (s : State) (n : Nat) (v : Domain) : (s.setDom n v).lostSlots = s.lostSlots := rfl
@[simp] theorem setDom_hqs (s : State) (n : Nat) (v : Domain) : (s.setDom n v).hqs = s.hqs := rfl
@[simp] theorem setDom_expDropped (s : State) (n : Nat) (v : Domain) : (s.setDom n v).expDropped = s.expDropped := rfl
@[simp] theorem setDom_links (s : State) (n : Nat) (v : Domain) : (s.setDom n v).links = s.links := rfl
@[simp] theorem setDom_node (s : State) (n : Nat) (v : Domain) : (s.setDom n v).node = s.node := rfl
@[simp] theorem setDom_amber (s : State) (n : Nat) (v : Domain) : (s.setDom n v).amber = s.amber := rfl
@[simp] theorem setDom_arbs (s : State) (n : Nat) (v : Domain) : (s.setDom n v).arbs = s.arbs := rfl

/-! ## setFacet -/

@[simp] theorem setFacet_pending (s : State) (f : Nat) (v : Facet) : (s.setFacet f v).pending = s.pending := rfl
@[simp] theorem setFacet_out (s : State) (f : Nat) (v : Facet) : (s.setFacet f v).out = s.out := rfl
@[simp] theorem setFacet_ticks (s : State) (f : Nat) (v : Facet) : (s.setFacet f v).ticks = s.ticks := rfl
@[simp] theorem setFacet_free (s : State) (f : Nat) (v : Facet) : (s.setFacet f v).free = s.free := rfl
@[simp] theorem setFacet_regs (s : State) (f : Nat) (v : Facet) : (s.setFacet f v).regs = s.regs := rfl
@[simp] theorem setFacet_staged (s : State) (f : Nat) (v : Facet) : (s.setFacet f v).staged = s.staged := rfl
@[simp] theorem setFacet_sats (s : State) (f : Nat) (v : Facet) : (s.setFacet f v).sats = s.sats := rfl
@[simp] theorem setFacet_armed (s : State) (f : Nat) (v : Facet) : (s.setFacet f v).armed = s.armed := rfl
@[simp] theorem setFacet_hiHold (s : State) (f : Nat) (v : Facet) : (s.setFacet f v).hiHold = s.hiHold := rfl
@[simp] theorem setFacet_power (s : State) (f : Nat) (v : Facet) : (s.setFacet f v).power = s.power := rfl
@[simp] theorem setFacet_boot (s : State) (f : Nat) (v : Facet) : (s.setFacet f v).boot = s.boot := rfl
@[simp] theorem setFacet_pcie (s : State) (f : Nat) (v : Facet) : (s.setFacet f v).pcie = s.pcie := rfl
@[simp] theorem setFacet_dbg (s : State) (f : Nat) (v : Facet) : (s.setFacet f v).dbg = s.dbg := rfl
@[simp] theorem setFacet_quartz (s : State) (f : Nat) (v : Facet) : (s.setFacet f v).quartz = s.quartz := rfl
@[simp] theorem setFacet_domains (s : State) (f : Nat) (v : Facet) : (s.setFacet f v).domains = s.domains := rfl
@[simp] theorem setFacet_topaz (s : State) (f : Nat) (v : Facet) : (s.setFacet f v).topaz = s.topaz := rfl
@[simp] theorem setFacet_ops (s : State) (f : Nat) (v : Facet) : (s.setFacet f v).ops = s.ops := rfl
@[simp] theorem setFacet_opSeq (s : State) (f : Nat) (v : Facet) : (s.setFacet f v).opSeq = s.opSeq := rfl
@[simp] theorem setFacet_fences (s : State) (f : Nat) (v : Facet) : (s.setFacet f v).fences = s.fences := rfl
@[simp] theorem setFacet_qps (s : State) (f : Nat) (v : Facet) : (s.setFacet f v).qps = s.qps := rfl
@[simp] theorem setFacet_insts (s : State) (f : Nat) (v : Facet) : (s.setFacet f v).insts = s.insts := rfl
@[simp] theorem setFacet_handoffs (s : State) (f : Nat) (v : Facet) : (s.setFacet f v).handoffs = s.handoffs := rfl
@[simp] theorem setFacet_hoEvents (s : State) (f : Nat) (v : Facet) : (s.setFacet f v).hoEvents = s.hoEvents := rfl
@[simp] theorem setFacet_msix (s : State) (f : Nat) (v : Facet) : (s.setFacet f v).msix = s.msix := rfl
@[simp] theorem setFacet_tagStall (s : State) (f : Nat) (v : Facet) : (s.setFacet f v).tagStall = s.tagStall := rfl
@[simp] theorem setFacet_ports (s : State) (f : Nat) (v : Facet) : (s.setFacet f v).ports = s.ports := rfl
@[simp] theorem setFacet_gptpRun (s : State) (f : Nat) (v : Facet) : (s.setFacet f v).gptpRun = s.gptpRun := rfl
@[simp] theorem setFacet_poseLast (s : State) (f : Nat) (v : Facet) : (s.setFacet f v).poseLast = s.poseLast := rfl
@[simp] theorem setFacet_jade (s : State) (f : Nat) (v : Facet) : (s.setFacet f v).jade = s.jade := rfl
@[simp] theorem setFacet_mem (s : State) (f : Nat) (v : Facet) : (s.setFacet f v).mem = s.mem := rfl
@[simp] theorem setFacet_poison (s : State) (f : Nat) (v : Facet) : (s.setFacet f v).poison = s.poison := rfl
@[simp] theorem setFacet_ceLines (s : State) (f : Nat) (v : Facet) : (s.setFacet f v).ceLines = s.ceLines := rfl
@[simp] theorem setFacet_ueLines (s : State) (f : Nat) (v : Facet) : (s.setFacet f v).ueLines = s.ueLines := rfl
@[simp] theorem setFacet_wbQueue (s : State) (f : Nat) (v : Facet) : (s.setFacet f v).wbQueue = s.wbQueue := rfl
@[simp] theorem setFacet_plog (s : State) (f : Nat) (v : Facet) : (s.setFacet f v).plog = s.plog := rfl
@[simp] theorem setFacet_retrainRun (s : State) (f : Nat) (v : Facet) : (s.setFacet f v).retrainRun = s.retrainRun := rfl
@[simp] theorem setFacet_retrainDue (s : State) (f : Nat) (v : Facet) : (s.setFacet f v).retrainDue = s.retrainDue := rfl
@[simp] theorem setFacet_scrubTold (s : State) (f : Nat) (v : Facet) : (s.setFacet f v).scrubTold = s.scrubTold := rfl
@[simp] theorem setFacet_searches (s : State) (f : Nat) (v : Facet) : (s.setFacet f v).searches = s.searches := rfl
@[simp] theorem setFacet_workList (s : State) (f : Nat) (v : Facet) : (s.setFacet f v).workList = s.workList := rfl
@[simp] theorem setFacet_rlzRows (s : State) (f : Nat) (v : Facet) : (s.setFacet f v).rlzRows = s.rlzRows := rfl
@[simp] theorem setFacet_runs (s : State) (f : Nat) (v : Facet) : (s.setFacet f v).runs = s.runs := rfl
@[simp] theorem setFacet_steps (s : State) (f : Nat) (v : Facet) : (s.setFacet f v).steps = s.steps := rfl
@[simp] theorem setFacet_migs (s : State) (f : Nat) (v : Facet) : (s.setFacet f v).migs = s.migs := rfl
@[simp] theorem setFacet_migTold (s : State) (f : Nat) (v : Facet) : (s.setFacet f v).migTold = s.migTold := rfl
@[simp] theorem setFacet_records (s : State) (f : Nat) (v : Facet) : (s.setFacet f v).records = s.records := rfl
@[simp] theorem setFacet_lostSlots (s : State) (f : Nat) (v : Facet) : (s.setFacet f v).lostSlots = s.lostSlots := rfl
@[simp] theorem setFacet_hqs (s : State) (f : Nat) (v : Facet) : (s.setFacet f v).hqs = s.hqs := rfl
@[simp] theorem setFacet_expDropped (s : State) (f : Nat) (v : Facet) : (s.setFacet f v).expDropped = s.expDropped := rfl
@[simp] theorem setFacet_links (s : State) (f : Nat) (v : Facet) : (s.setFacet f v).links = s.links := rfl
@[simp] theorem setFacet_node (s : State) (f : Nat) (v : Facet) : (s.setFacet f v).node = s.node := rfl
@[simp] theorem setFacet_amber (s : State) (f : Nat) (v : Facet) : (s.setFacet f v).amber = s.amber := rfl
@[simp] theorem setFacet_arbs (s : State) (f : Nat) (v : Facet) : (s.setFacet f v).arbs = s.arbs := rfl

/-! ## setHq -/

@[simp] theorem setHq_pending (s : State) (m q : Nat) (h : Hq) : (s.setHq m q h).pending = s.pending := rfl
@[simp] theorem setHq_out (s : State) (m q : Nat) (h : Hq) : (s.setHq m q h).out = s.out := rfl
@[simp] theorem setHq_ticks (s : State) (m q : Nat) (h : Hq) : (s.setHq m q h).ticks = s.ticks := rfl
@[simp] theorem setHq_free (s : State) (m q : Nat) (h : Hq) : (s.setHq m q h).free = s.free := rfl
@[simp] theorem setHq_regs (s : State) (m q : Nat) (h : Hq) : (s.setHq m q h).regs = s.regs := rfl
@[simp] theorem setHq_staged (s : State) (m q : Nat) (h : Hq) : (s.setHq m q h).staged = s.staged := rfl
@[simp] theorem setHq_sats (s : State) (m q : Nat) (h : Hq) : (s.setHq m q h).sats = s.sats := rfl
@[simp] theorem setHq_armed (s : State) (m q : Nat) (h : Hq) : (s.setHq m q h).armed = s.armed := rfl
@[simp] theorem setHq_hiHold (s : State) (m q : Nat) (h : Hq) : (s.setHq m q h).hiHold = s.hiHold := rfl
@[simp] theorem setHq_power (s : State) (m q : Nat) (h : Hq) : (s.setHq m q h).power = s.power := rfl
@[simp] theorem setHq_boot (s : State) (m q : Nat) (h : Hq) : (s.setHq m q h).boot = s.boot := rfl
@[simp] theorem setHq_pcie (s : State) (m q : Nat) (h : Hq) : (s.setHq m q h).pcie = s.pcie := rfl
@[simp] theorem setHq_dbg (s : State) (m q : Nat) (h : Hq) : (s.setHq m q h).dbg = s.dbg := rfl
@[simp] theorem setHq_quartz (s : State) (m q : Nat) (h : Hq) : (s.setHq m q h).quartz = s.quartz := rfl
@[simp] theorem setHq_domains (s : State) (m q : Nat) (h : Hq) : (s.setHq m q h).domains = s.domains := rfl
@[simp] theorem setHq_topaz (s : State) (m q : Nat) (h : Hq) : (s.setHq m q h).topaz = s.topaz := rfl
@[simp] theorem setHq_ops (s : State) (m q : Nat) (h : Hq) : (s.setHq m q h).ops = s.ops := rfl
@[simp] theorem setHq_opSeq (s : State) (m q : Nat) (h : Hq) : (s.setHq m q h).opSeq = s.opSeq := rfl
@[simp] theorem setHq_fences (s : State) (m q : Nat) (h : Hq) : (s.setHq m q h).fences = s.fences := rfl
@[simp] theorem setHq_qps (s : State) (m q : Nat) (h : Hq) : (s.setHq m q h).qps = s.qps := rfl
@[simp] theorem setHq_insts (s : State) (m q : Nat) (h : Hq) : (s.setHq m q h).insts = s.insts := rfl
@[simp] theorem setHq_handoffs (s : State) (m q : Nat) (h : Hq) : (s.setHq m q h).handoffs = s.handoffs := rfl
@[simp] theorem setHq_hoEvents (s : State) (m q : Nat) (h : Hq) : (s.setHq m q h).hoEvents = s.hoEvents := rfl
@[simp] theorem setHq_msix (s : State) (m q : Nat) (h : Hq) : (s.setHq m q h).msix = s.msix := rfl
@[simp] theorem setHq_tagStall (s : State) (m q : Nat) (h : Hq) : (s.setHq m q h).tagStall = s.tagStall := rfl
@[simp] theorem setHq_ports (s : State) (m q : Nat) (h : Hq) : (s.setHq m q h).ports = s.ports := rfl
@[simp] theorem setHq_gptpRun (s : State) (m q : Nat) (h : Hq) : (s.setHq m q h).gptpRun = s.gptpRun := rfl
@[simp] theorem setHq_poseLast (s : State) (m q : Nat) (h : Hq) : (s.setHq m q h).poseLast = s.poseLast := rfl
@[simp] theorem setHq_jade (s : State) (m q : Nat) (h : Hq) : (s.setHq m q h).jade = s.jade := rfl
@[simp] theorem setHq_mem (s : State) (m q : Nat) (h : Hq) : (s.setHq m q h).mem = s.mem := rfl
@[simp] theorem setHq_poison (s : State) (m q : Nat) (h : Hq) : (s.setHq m q h).poison = s.poison := rfl
@[simp] theorem setHq_ceLines (s : State) (m q : Nat) (h : Hq) : (s.setHq m q h).ceLines = s.ceLines := rfl
@[simp] theorem setHq_ueLines (s : State) (m q : Nat) (h : Hq) : (s.setHq m q h).ueLines = s.ueLines := rfl
@[simp] theorem setHq_wbQueue (s : State) (m q : Nat) (h : Hq) : (s.setHq m q h).wbQueue = s.wbQueue := rfl
@[simp] theorem setHq_plog (s : State) (m q : Nat) (h : Hq) : (s.setHq m q h).plog = s.plog := rfl
@[simp] theorem setHq_retrainRun (s : State) (m q : Nat) (h : Hq) : (s.setHq m q h).retrainRun = s.retrainRun := rfl
@[simp] theorem setHq_retrainDue (s : State) (m q : Nat) (h : Hq) : (s.setHq m q h).retrainDue = s.retrainDue := rfl
@[simp] theorem setHq_scrubTold (s : State) (m q : Nat) (h : Hq) : (s.setHq m q h).scrubTold = s.scrubTold := rfl
@[simp] theorem setHq_searches (s : State) (m q : Nat) (h : Hq) : (s.setHq m q h).searches = s.searches := rfl
@[simp] theorem setHq_workList (s : State) (m q : Nat) (h : Hq) : (s.setHq m q h).workList = s.workList := rfl
@[simp] theorem setHq_facets (s : State) (m q : Nat) (h : Hq) : (s.setHq m q h).facets = s.facets := rfl
@[simp] theorem setHq_rlzRows (s : State) (m q : Nat) (h : Hq) : (s.setHq m q h).rlzRows = s.rlzRows := rfl
@[simp] theorem setHq_runs (s : State) (m q : Nat) (h : Hq) : (s.setHq m q h).runs = s.runs := rfl
@[simp] theorem setHq_steps (s : State) (m q : Nat) (h : Hq) : (s.setHq m q h).steps = s.steps := rfl
@[simp] theorem setHq_migs (s : State) (m q : Nat) (h : Hq) : (s.setHq m q h).migs = s.migs := rfl
@[simp] theorem setHq_migTold (s : State) (m q : Nat) (h : Hq) : (s.setHq m q h).migTold = s.migTold := rfl
@[simp] theorem setHq_records (s : State) (m q : Nat) (h : Hq) : (s.setHq m q h).records = s.records := rfl
@[simp] theorem setHq_lostSlots (s : State) (m q : Nat) (h : Hq) : (s.setHq m q h).lostSlots = s.lostSlots := rfl
@[simp] theorem setHq_expDropped (s : State) (m q : Nat) (h : Hq) : (s.setHq m q h).expDropped = s.expDropped := rfl
@[simp] theorem setHq_links (s : State) (m q : Nat) (h : Hq) : (s.setHq m q h).links = s.links := rfl
@[simp] theorem setHq_node (s : State) (m q : Nat) (h : Hq) : (s.setHq m q h).node = s.node := rfl
@[simp] theorem setHq_amber (s : State) (m q : Nat) (h : Hq) : (s.setHq m q h).amber = s.amber := rfl
@[simp] theorem setHq_arbs (s : State) (m q : Nat) (h : Hq) : (s.setHq m q h).arbs = s.arbs := rfl

/-! ## setLink -/

@[simp] theorem setLink_pending (s : State) (p : Nat) (v : SpanLink) : (s.setLink p v).pending = s.pending := rfl
@[simp] theorem setLink_out (s : State) (p : Nat) (v : SpanLink) : (s.setLink p v).out = s.out := rfl
@[simp] theorem setLink_ticks (s : State) (p : Nat) (v : SpanLink) : (s.setLink p v).ticks = s.ticks := rfl
@[simp] theorem setLink_free (s : State) (p : Nat) (v : SpanLink) : (s.setLink p v).free = s.free := rfl
@[simp] theorem setLink_regs (s : State) (p : Nat) (v : SpanLink) : (s.setLink p v).regs = s.regs := rfl
@[simp] theorem setLink_staged (s : State) (p : Nat) (v : SpanLink) : (s.setLink p v).staged = s.staged := rfl
@[simp] theorem setLink_sats (s : State) (p : Nat) (v : SpanLink) : (s.setLink p v).sats = s.sats := rfl
@[simp] theorem setLink_armed (s : State) (p : Nat) (v : SpanLink) : (s.setLink p v).armed = s.armed := rfl
@[simp] theorem setLink_hiHold (s : State) (p : Nat) (v : SpanLink) : (s.setLink p v).hiHold = s.hiHold := rfl
@[simp] theorem setLink_power (s : State) (p : Nat) (v : SpanLink) : (s.setLink p v).power = s.power := rfl
@[simp] theorem setLink_boot (s : State) (p : Nat) (v : SpanLink) : (s.setLink p v).boot = s.boot := rfl
@[simp] theorem setLink_pcie (s : State) (p : Nat) (v : SpanLink) : (s.setLink p v).pcie = s.pcie := rfl
@[simp] theorem setLink_dbg (s : State) (p : Nat) (v : SpanLink) : (s.setLink p v).dbg = s.dbg := rfl
@[simp] theorem setLink_quartz (s : State) (p : Nat) (v : SpanLink) : (s.setLink p v).quartz = s.quartz := rfl
@[simp] theorem setLink_domains (s : State) (p : Nat) (v : SpanLink) : (s.setLink p v).domains = s.domains := rfl
@[simp] theorem setLink_topaz (s : State) (p : Nat) (v : SpanLink) : (s.setLink p v).topaz = s.topaz := rfl
@[simp] theorem setLink_ops (s : State) (p : Nat) (v : SpanLink) : (s.setLink p v).ops = s.ops := rfl
@[simp] theorem setLink_opSeq (s : State) (p : Nat) (v : SpanLink) : (s.setLink p v).opSeq = s.opSeq := rfl
@[simp] theorem setLink_fences (s : State) (p : Nat) (v : SpanLink) : (s.setLink p v).fences = s.fences := rfl
@[simp] theorem setLink_qps (s : State) (p : Nat) (v : SpanLink) : (s.setLink p v).qps = s.qps := rfl
@[simp] theorem setLink_insts (s : State) (p : Nat) (v : SpanLink) : (s.setLink p v).insts = s.insts := rfl
@[simp] theorem setLink_handoffs (s : State) (p : Nat) (v : SpanLink) : (s.setLink p v).handoffs = s.handoffs := rfl
@[simp] theorem setLink_hoEvents (s : State) (p : Nat) (v : SpanLink) : (s.setLink p v).hoEvents = s.hoEvents := rfl
@[simp] theorem setLink_msix (s : State) (p : Nat) (v : SpanLink) : (s.setLink p v).msix = s.msix := rfl
@[simp] theorem setLink_tagStall (s : State) (p : Nat) (v : SpanLink) : (s.setLink p v).tagStall = s.tagStall := rfl
@[simp] theorem setLink_ports (s : State) (p : Nat) (v : SpanLink) : (s.setLink p v).ports = s.ports := rfl
@[simp] theorem setLink_gptpRun (s : State) (p : Nat) (v : SpanLink) : (s.setLink p v).gptpRun = s.gptpRun := rfl
@[simp] theorem setLink_poseLast (s : State) (p : Nat) (v : SpanLink) : (s.setLink p v).poseLast = s.poseLast := rfl
@[simp] theorem setLink_jade (s : State) (p : Nat) (v : SpanLink) : (s.setLink p v).jade = s.jade := rfl
@[simp] theorem setLink_mem (s : State) (p : Nat) (v : SpanLink) : (s.setLink p v).mem = s.mem := rfl
@[simp] theorem setLink_poison (s : State) (p : Nat) (v : SpanLink) : (s.setLink p v).poison = s.poison := rfl
@[simp] theorem setLink_ceLines (s : State) (p : Nat) (v : SpanLink) : (s.setLink p v).ceLines = s.ceLines := rfl
@[simp] theorem setLink_ueLines (s : State) (p : Nat) (v : SpanLink) : (s.setLink p v).ueLines = s.ueLines := rfl
@[simp] theorem setLink_wbQueue (s : State) (p : Nat) (v : SpanLink) : (s.setLink p v).wbQueue = s.wbQueue := rfl
@[simp] theorem setLink_plog (s : State) (p : Nat) (v : SpanLink) : (s.setLink p v).plog = s.plog := rfl
@[simp] theorem setLink_retrainRun (s : State) (p : Nat) (v : SpanLink) : (s.setLink p v).retrainRun = s.retrainRun := rfl
@[simp] theorem setLink_retrainDue (s : State) (p : Nat) (v : SpanLink) : (s.setLink p v).retrainDue = s.retrainDue := rfl
@[simp] theorem setLink_scrubTold (s : State) (p : Nat) (v : SpanLink) : (s.setLink p v).scrubTold = s.scrubTold := rfl
@[simp] theorem setLink_searches (s : State) (p : Nat) (v : SpanLink) : (s.setLink p v).searches = s.searches := rfl
@[simp] theorem setLink_workList (s : State) (p : Nat) (v : SpanLink) : (s.setLink p v).workList = s.workList := rfl
@[simp] theorem setLink_facets (s : State) (p : Nat) (v : SpanLink) : (s.setLink p v).facets = s.facets := rfl
@[simp] theorem setLink_rlzRows (s : State) (p : Nat) (v : SpanLink) : (s.setLink p v).rlzRows = s.rlzRows := rfl
@[simp] theorem setLink_runs (s : State) (p : Nat) (v : SpanLink) : (s.setLink p v).runs = s.runs := rfl
@[simp] theorem setLink_steps (s : State) (p : Nat) (v : SpanLink) : (s.setLink p v).steps = s.steps := rfl
@[simp] theorem setLink_migs (s : State) (p : Nat) (v : SpanLink) : (s.setLink p v).migs = s.migs := rfl
@[simp] theorem setLink_migTold (s : State) (p : Nat) (v : SpanLink) : (s.setLink p v).migTold = s.migTold := rfl
@[simp] theorem setLink_records (s : State) (p : Nat) (v : SpanLink) : (s.setLink p v).records = s.records := rfl
@[simp] theorem setLink_lostSlots (s : State) (p : Nat) (v : SpanLink) : (s.setLink p v).lostSlots = s.lostSlots := rfl
@[simp] theorem setLink_hqs (s : State) (p : Nat) (v : SpanLink) : (s.setLink p v).hqs = s.hqs := rfl
@[simp] theorem setLink_expDropped (s : State) (p : Nat) (v : SpanLink) : (s.setLink p v).expDropped = s.expDropped := rfl
@[simp] theorem setLink_node (s : State) (p : Nat) (v : SpanLink) : (s.setLink p v).node = s.node := rfl
@[simp] theorem setLink_amber (s : State) (p : Nat) (v : SpanLink) : (s.setLink p v).amber = s.amber := rfl
@[simp] theorem setLink_arbs (s : State) (p : Nat) (v : SpanLink) : (s.setLink p v).arbs = s.arbs := rfl

/-! ## setRun -/

@[simp] theorem setRun_pending (s : State) (tag : Nat) (r : FctRun) : (s.setRun tag r).pending = s.pending := rfl
@[simp] theorem setRun_out (s : State) (tag : Nat) (r : FctRun) : (s.setRun tag r).out = s.out := rfl
@[simp] theorem setRun_ticks (s : State) (tag : Nat) (r : FctRun) : (s.setRun tag r).ticks = s.ticks := rfl
@[simp] theorem setRun_free (s : State) (tag : Nat) (r : FctRun) : (s.setRun tag r).free = s.free := rfl
@[simp] theorem setRun_regs (s : State) (tag : Nat) (r : FctRun) : (s.setRun tag r).regs = s.regs := rfl
@[simp] theorem setRun_staged (s : State) (tag : Nat) (r : FctRun) : (s.setRun tag r).staged = s.staged := rfl
@[simp] theorem setRun_sats (s : State) (tag : Nat) (r : FctRun) : (s.setRun tag r).sats = s.sats := rfl
@[simp] theorem setRun_armed (s : State) (tag : Nat) (r : FctRun) : (s.setRun tag r).armed = s.armed := rfl
@[simp] theorem setRun_hiHold (s : State) (tag : Nat) (r : FctRun) : (s.setRun tag r).hiHold = s.hiHold := rfl
@[simp] theorem setRun_power (s : State) (tag : Nat) (r : FctRun) : (s.setRun tag r).power = s.power := rfl
@[simp] theorem setRun_boot (s : State) (tag : Nat) (r : FctRun) : (s.setRun tag r).boot = s.boot := rfl
@[simp] theorem setRun_pcie (s : State) (tag : Nat) (r : FctRun) : (s.setRun tag r).pcie = s.pcie := rfl
@[simp] theorem setRun_dbg (s : State) (tag : Nat) (r : FctRun) : (s.setRun tag r).dbg = s.dbg := rfl
@[simp] theorem setRun_quartz (s : State) (tag : Nat) (r : FctRun) : (s.setRun tag r).quartz = s.quartz := rfl
@[simp] theorem setRun_domains (s : State) (tag : Nat) (r : FctRun) : (s.setRun tag r).domains = s.domains := rfl
@[simp] theorem setRun_topaz (s : State) (tag : Nat) (r : FctRun) : (s.setRun tag r).topaz = s.topaz := rfl
@[simp] theorem setRun_ops (s : State) (tag : Nat) (r : FctRun) : (s.setRun tag r).ops = s.ops := rfl
@[simp] theorem setRun_opSeq (s : State) (tag : Nat) (r : FctRun) : (s.setRun tag r).opSeq = s.opSeq := rfl
@[simp] theorem setRun_fences (s : State) (tag : Nat) (r : FctRun) : (s.setRun tag r).fences = s.fences := rfl
@[simp] theorem setRun_qps (s : State) (tag : Nat) (r : FctRun) : (s.setRun tag r).qps = s.qps := rfl
@[simp] theorem setRun_insts (s : State) (tag : Nat) (r : FctRun) : (s.setRun tag r).insts = s.insts := rfl
@[simp] theorem setRun_handoffs (s : State) (tag : Nat) (r : FctRun) : (s.setRun tag r).handoffs = s.handoffs := rfl
@[simp] theorem setRun_hoEvents (s : State) (tag : Nat) (r : FctRun) : (s.setRun tag r).hoEvents = s.hoEvents := rfl
@[simp] theorem setRun_msix (s : State) (tag : Nat) (r : FctRun) : (s.setRun tag r).msix = s.msix := rfl
@[simp] theorem setRun_tagStall (s : State) (tag : Nat) (r : FctRun) : (s.setRun tag r).tagStall = s.tagStall := rfl
@[simp] theorem setRun_ports (s : State) (tag : Nat) (r : FctRun) : (s.setRun tag r).ports = s.ports := rfl
@[simp] theorem setRun_gptpRun (s : State) (tag : Nat) (r : FctRun) : (s.setRun tag r).gptpRun = s.gptpRun := rfl
@[simp] theorem setRun_poseLast (s : State) (tag : Nat) (r : FctRun) : (s.setRun tag r).poseLast = s.poseLast := rfl
@[simp] theorem setRun_jade (s : State) (tag : Nat) (r : FctRun) : (s.setRun tag r).jade = s.jade := rfl
@[simp] theorem setRun_mem (s : State) (tag : Nat) (r : FctRun) : (s.setRun tag r).mem = s.mem := rfl
@[simp] theorem setRun_poison (s : State) (tag : Nat) (r : FctRun) : (s.setRun tag r).poison = s.poison := rfl
@[simp] theorem setRun_ceLines (s : State) (tag : Nat) (r : FctRun) : (s.setRun tag r).ceLines = s.ceLines := rfl
@[simp] theorem setRun_ueLines (s : State) (tag : Nat) (r : FctRun) : (s.setRun tag r).ueLines = s.ueLines := rfl
@[simp] theorem setRun_wbQueue (s : State) (tag : Nat) (r : FctRun) : (s.setRun tag r).wbQueue = s.wbQueue := rfl
@[simp] theorem setRun_plog (s : State) (tag : Nat) (r : FctRun) : (s.setRun tag r).plog = s.plog := rfl
@[simp] theorem setRun_retrainRun (s : State) (tag : Nat) (r : FctRun) : (s.setRun tag r).retrainRun = s.retrainRun := rfl
@[simp] theorem setRun_retrainDue (s : State) (tag : Nat) (r : FctRun) : (s.setRun tag r).retrainDue = s.retrainDue := rfl
@[simp] theorem setRun_scrubTold (s : State) (tag : Nat) (r : FctRun) : (s.setRun tag r).scrubTold = s.scrubTold := rfl
@[simp] theorem setRun_searches (s : State) (tag : Nat) (r : FctRun) : (s.setRun tag r).searches = s.searches := rfl
@[simp] theorem setRun_workList (s : State) (tag : Nat) (r : FctRun) : (s.setRun tag r).workList = s.workList := rfl
@[simp] theorem setRun_facets (s : State) (tag : Nat) (r : FctRun) : (s.setRun tag r).facets = s.facets := rfl
@[simp] theorem setRun_rlzRows (s : State) (tag : Nat) (r : FctRun) : (s.setRun tag r).rlzRows = s.rlzRows := rfl
@[simp] theorem setRun_steps (s : State) (tag : Nat) (r : FctRun) : (s.setRun tag r).steps = s.steps := rfl
@[simp] theorem setRun_migs (s : State) (tag : Nat) (r : FctRun) : (s.setRun tag r).migs = s.migs := rfl
@[simp] theorem setRun_migTold (s : State) (tag : Nat) (r : FctRun) : (s.setRun tag r).migTold = s.migTold := rfl
@[simp] theorem setRun_records (s : State) (tag : Nat) (r : FctRun) : (s.setRun tag r).records = s.records := rfl
@[simp] theorem setRun_lostSlots (s : State) (tag : Nat) (r : FctRun) : (s.setRun tag r).lostSlots = s.lostSlots := rfl
@[simp] theorem setRun_hqs (s : State) (tag : Nat) (r : FctRun) : (s.setRun tag r).hqs = s.hqs := rfl
@[simp] theorem setRun_expDropped (s : State) (tag : Nat) (r : FctRun) : (s.setRun tag r).expDropped = s.expDropped := rfl
@[simp] theorem setRun_links (s : State) (tag : Nat) (r : FctRun) : (s.setRun tag r).links = s.links := rfl
@[simp] theorem setRun_node (s : State) (tag : Nat) (r : FctRun) : (s.setRun tag r).node = s.node := rfl
@[simp] theorem setRun_amber (s : State) (tag : Nat) (r : FctRun) : (s.setRun tag r).amber = s.amber := rfl
@[simp] theorem setRun_arbs (s : State) (tag : Nat) (r : FctRun) : (s.setRun tag r).arbs = s.arbs := rfl

/-! ## Registers after a write -/

@[simp] theorem reg_setReg_self (s : State) (F : Fld) (d v : Nat) : (s.setReg F d v).reg F d = v % 2 ^ F.w := by
  simp [State.reg, State.setReg]

/-- A write of one field leaves every field under another key as it reads. -/
theorem reg_setReg_ne (s : State) {F G : Fld} {d e : Nat} (v : Nat) (h : G.key e ≠ F.key d) :
    (s.setReg F d v).reg G e = s.reg G e := by
  simp [State.reg, State.setReg, SMap.get_put_ne _ _ _ _ h]

/-- A write of one field leaves the entry of every other key as it is. -/
theorem get?_setReg_ne (s : State) {F : Fld} {d k : Nat} (v : Nat) (h : k ≠ F.key d) :
    SMap.get? (s.setReg F d v).regs k = SMap.get? s.regs k := by
  simp [State.setReg, SMap.get?_put_ne _ _ _ h]

/-- Whatever leaves `regs` as it is leaves every field as it reads. -/
theorem reg_congr {s t : State} (F : Fld) (d : Nat) (h : SMap.get? t.regs (F.key d) = SMap.get? s.regs (F.key d)) :
    t.reg F d = s.reg F d := by
  simp [State.reg, SMap.get, h]

/-! ## Typed fields after a write -/

@[simp] theorem inst_setInst_self (s : State) (n : Nat) (v : InstState) : (s.setInst n v).inst n = v := by
  simp [State.inst, State.setInst]
theorem inst_setInst_ne (s : State) {m n : Nat} (v : InstState) (h : m ≠ n) : (s.setInst n v).inst m = s.inst m := by
  simp [State.inst, State.setInst, SMap.get_put_ne _ _ _ _ h]
@[simp] theorem qp_setQp_self (s : State) (q : Nat) (v : QueuePair) : (s.setQp q v).qp q = v := by
  simp [State.qp, State.setQp]
theorem qp_setQp_ne (s : State) {p q : Nat} (v : QueuePair) (h : p ≠ q) : (s.setQp q v).qp p = s.qp p := by
  simp [State.qp, State.setQp, SMap.get_put_ne _ _ _ _ h]
@[simp] theorem fence_setFence_self (s : State) (f : Nat) (v : Fence) : (s.setFence f v).fence f = v := by
  simp [State.fence, State.setFence]
theorem fence_setFence_ne (s : State) {f g : Nat} (v : Fence) (h : g ≠ f) : (s.setFence f v).fence g = s.fence g := by
  simp [State.fence, State.setFence, SMap.get_put_ne _ _ _ _ h]
@[simp] theorem op?_setOp_self (s : State) (tag : Nat) (o : Op) : (s.setOp tag o).op? tag = some o := by
  simp [State.op?, State.setOp]
theorem op?_setOp_ne (s : State) {t tag : Nat} (o : Op) (h : t ≠ tag) : (s.setOp tag o).op? t = s.op? t := by
  simp [State.op?, State.setOp, SMap.get?_ins_ne _ _ h]
@[simp] theorem dom_setDom_self (s : State) (n : Nat) (v : Domain) : (s.setDom n v).dom n = v := by
  simp [State.dom, State.setDom]
theorem dom_setDom_ne (s : State) {m n : Nat} (v : Domain) (h : m ≠ n) : (s.setDom n v).dom m = s.dom m := by
  simp [State.dom, State.setDom, SMap.get_put_ne _ _ _ _ h]
@[simp] theorem port_setPort_self (s : State) (p : Nat) (v : Port) : (s.setPort p v).port p = v := by
  simp [State.port, State.setPort]
theorem port_setPort_ne (s : State) {p q : Nat} (v : Port) (h : q ≠ p) : (s.setPort p v).port q = s.port q := by
  simp [State.port, State.setPort, SMap.get_put_ne _ _ _ _ h]
@[simp] theorem facet_setFacet_self (s : State) (f : Nat) (v : Facet) : (s.setFacet f v).facet f = v := by
  simp [State.facet, State.setFacet]
@[simp] theorem link_setLink_self (s : State) (p : Nat) (v : SpanLink) : (s.setLink p v).link p = v := by
  simp [State.link, State.setLink]
@[simp] theorem hq_setHq_self (s : State) (m q : Nat) (h : Hq) : (s.setHq m q h).hq m q = h := by
  simp [State.hq, State.setHq]

end Sys2Proof.Machine.State
end

