-- ==== Sys2Proof/Laws/Events.lean ====
section
/-!
SUPPORT. What raising an event, counting and reporting a dropped write can change: `Tells` for each, and one
lemma for each field that they leave as it is.
-/
namespace Sys2Proof.Machine

namespace Tells

theorem refl (s : State) : Tells [] s s := ⟨rfl, fun _ _ => rfl, fun _ _ _ => rfl⟩

theorem mono {ks ls : List Nat} {s t : State} (h : Tells ks s t) (hk : ∀ k, k ∈ ks → k ∈ ls) : Tells ls s t :=
  ⟨h.1, h.2.1, fun k hl => h.2.2 k fun hm => hl (hk k hm)⟩

theorem trans {ks : List Nat} {s t u : State} (h : Tells ks s t) (g : Tells ks t u) : Tells ks s u := by
  refine ⟨?_, fun n hn => (g.2.1 n hn).trans (h.2.1 n hn), fun k hk hl => (g.2.2 k hk hl).trans (h.2.2 k hk hl)⟩
  obtain ⟨h, -⟩ := h
  obtain ⟨g, -⟩ := g
  rw [g, h]

/-- A change of registers alone, of the fields under `ks`. -/
theorem ofRegs {ks : List Nat} {s t : State} (h : t = { s with regs := t.regs })
    (hk : ∀ k, k ∉ ks → SMap.get? t.regs k = SMap.get? s.regs k) : Tells ks s t := by
  refine ⟨?_, fun n _ => ?_, fun k hn _ => hk k hn⟩
  · rw [h]
  · rw [h]; rfl

theorem setReg (s : State) (F : Fld) (d v : Nat) : Tells [F.key d] s (s.setReg F d v) :=
  ofRegs rfl fun _ h => State.get?_setReg_ne s v (by simpa using h)

theorem of_same {s t : State}
    (h : t = { s with out := t.out, free := t.free, insts := t.insts, msix := t.msix, sats := t.sats }) :
    Tells [] s t := by
  refine ⟨?_, fun n _ => ?_, fun k _ _ => ?_⟩ <;> rw [h]; rfl

theorem emit (s : State) (o : Out) : Tells [] s (s.emit o) := of_same rfl
theorem setInst (s : State) (n : Nat) (v : InstState) : Tells [] s (s.setInst n v) := of_same rfl
theorem setMsix (s : State) (n v : Nat) (e : MsixEntry) : Tells [] s (s.setMsix n v e) := of_same rfl

theorem orFree (s : State) (v : Option Nat) : Tells [] s (s.orFree v).2 := by
  cases v <;> exact of_same rfl

theorem sendMsix (s : State) (n v : Nat) : Tells [] s (s.sendMsix n v) := by
  unfold State.sendMsix; dsimp only; split
  · exact setMsix ..
  · exact emit ..

theorem putEvent (s : State) (n : Nat) (e : Event) : Tells [] s (s.putEvent n e) := by
  unfold State.putEvent
  exact (((orFree _ _).trans (emit _ _)).trans (setInst _ _ _)).trans (sendMsix _ _ _)

theorem putLost (s : State) (n : Nat) : Tells [] s (s.putLost n) := by
  unfold State.putLost; dsimp only; split
  · exact (putEvent _ _ _).trans (setInst _ _ _)
  · exact refl s

/-- A change of one of the domains that an event may wake. -/
theorem setDom (s : State) {n : Nat} (d : Domain) (hn : n ∈ ringDomains) : Tells [] s (s.setDom n d) :=
  ⟨rfl, fun m hm => State.dom_setDom_ne s d fun h => hm (h ▸ hn), fun _ _ _ => rfl⟩

theorem cancelDown (s : State) {n : Nat} (hn : n ∈ ringDomains) : Tells [] s (s.cancelDown n) := by
  have set (u : State) : Tells [] u (u.setReg QTZ_DOM.CANCEL (domD n) 1) :=
    ⟨(setReg u _ _ _).1, (setReg u _ _ _).2.1, fun k _ hk => State.get?_setReg_ne _ 1 fun h => hk (.inr ⟨n, hn, h⟩)⟩
  exact (setDom s _ hn).trans (set _)

theorem rouse (s : State) {n : Nat} (hn : n ∈ ringDomains) : Tells [] s (s.rouse n) := by
  have att (u : State) : Tells [] u (u.attempt n .on) := setDom u _ hn
  unfold State.rouse State.wakeBy; dsimp only
  split
  · exact refl s
  · split
    · split
      · exact (cancelDown s hn).trans (att _)
      · exact cancelDown s hn
    · exact setDom s _ hn
    · split
      · exact setDom s _ hn
      · split
        · exact refl s
        · split
          · split
            · exact setDom s _ hn
            · exact refl s
          · split
            · exact refl s
            · exact att s

theorem wakeRing (s : State) : Tells [] s s.wakeRing :=
  (((rouse s (by decide)).trans (rouse _ (by decide))).trans (rouse _ (by decide))).trans (rouse _ (by decide))

theorem bump (s : State) (F : Fld) (d n : Nat) : Tells [F.key d] s (s.bump F d n).1 := by
  unfold State.bump; dsimp only; split
  · exact setReg ..
  · exact setReg ..
  · dsimp only; split
    · exact (setReg s F d _).trans ((of_same rfl).mono (by simp))
    · exact setReg ..

theorem bump_lost (s : State) (n m : Nat) : Tells [] s (s.bump INST_EVT_LOST.COUNT (winD n) m).1 := by
  have h := bump s INST_EVT_LOST.COUNT (winD n) m
  refine ⟨h.1, h.2.1, fun k _ hl => h.2.2 k (fun hk => hl (.inl ⟨n, ?_⟩)) hl⟩
  simpa [lostKey] using hk

theorem eventBase (s : State) (n : Nat) (e : Event) : Tells [] s (s.eventBase n e).1 := by
  have up : Tells [] s (if ringWakes e.code then s.wakeRing else s) := by
    split
    · exact wakeRing s
    · exact refl s
  unfold State.eventBase; dsimp only; split
  · generalize (if ringWakes e.code then s.wakeRing else s) = u at up ⊢
    split
    · exact ((up.trans (putLost u n)).trans (setInst _ _ _)).trans (bump_lost _ _ _)
    · exact (up.trans (putLost u n)).trans (putEvent _ _ _)
  · exact refl s

theorem satEvent (s : State) (F : Fld) (d : Nat) : Tells [] s (s.satEvent F d) := by
  unfold State.satEvent; dsimp only; split
  · exact eventBase ..
  · exact refl s

/-- Counting changes the counter's own field and what COUNTER_SAT changes. -/
theorem count (s : State) (F : Fld) (d n : Nat) : Tells [F.key d] s (s.count F d n) := by
  unfold State.count; dsimp only; split
  · exact (bump s F d n).trans ((satEvent _ _ _).mono (by simp))
  · exact bump ..

/-- An event changes no register but the counts of lost events and CANCEL of the domains it wakes. -/
theorem event (s : State) (n : Nat) (e : Event) : Tells [] s (s.event n e) := by
  unfold State.event; dsimp only; split
  · exact (eventBase s n e).trans (satEvent _ _ _)
  · exact eventBase ..

theorem pfEvent (s : State) (code : Nat) (detail : Option Nat) (arg : Nat) : Tells [] s (s.pfEvent code detail arg) :=
  event ..

/-- A dropped write is reported in the block's CFG_ERR and its bit of GBL_ERR_SUMMARY, and changes nothing else. -/
theorem cfgErr (s : State) (b : Blk) (d : Nat) :
    Tells ((b.cfgErr.toList.map fun F => F.key d) ++ [GBL_ERR_SUMMARY.CFG_ERR.key 0]) s (s.cfgErr b d) := by
  unfold State.cfgErr; dsimp only
  cases b.cfgErr with
  | none => simpa using setReg s GBL_ERR_SUMMARY.CFG_ERR 0 _
  | some F =>
    refine ((setReg s F d 1).mono (by simp)).trans ((setReg _ GBL_ERR_SUMMARY.CFG_ERR 0 _).mono (by simp))

/-- A field under a key apart reads as before. -/
theorem reg {ks : List Nat} {s t : State} (h : Tells ks s t) (F : Fld) (d : Nat) (hk : F.key d ∉ ks)
    (hl : ¬ eventKey (F.key d)) : t.reg F d = s.reg F d :=
  State.reg_congr F d (h.2.2 _ hk hl)

/-- A domain apart from those of PCIe and Peridot is as before. -/
theorem dom {ks : List Nat} {s t : State} (h : Tells ks s t) {n : Nat} (hn : n ∉ ringDomains) : t.dom n = s.dom n :=
  h.2.1 n hn

end Tells

namespace Touches

theorem refl (s : State) : Touches [] s s := ⟨rfl, fun _ _ => rfl⟩

theorem mono {ks ls : List Nat} {s t : State} (h : Touches ks s t) (hk : ∀ k, k ∈ ks → k ∈ ls) : Touches ls s t :=
  ⟨h.1, fun k hl => h.2 k fun hm => hl (hk k hm)⟩

theorem trans {ks : List Nat} {s t u : State} (h : Touches ks s t) (g : Touches ks t u) : Touches ks s u := by
  refine ⟨?_, fun k hk => (g.2 k hk).trans (h.2 k hk)⟩
  obtain ⟨h, -⟩ := h
  obtain ⟨g, -⟩ := g
  rw [g, h]

theorem setReg (s : State) (F : Fld) (d v : Nat) : Touches [F.key d] s (s.setReg F d v) :=
  ⟨rfl, fun _ h => State.get?_setReg_ne s v (by simpa using h)⟩

theorem tells {ks : List Nat} {s t : State} (h : Touches ks s t) : Tells ks s t := Tells.ofRegs h.1 h.2

end Touches

namespace State

/-- An event leaves every field as it reads but the counts of lost events and CANCEL of the domains woken. -/
theorem reg_event (s : State) (n : Nat) (e : Event) (F : Fld) (d : Nat) (h : ¬ eventKey (F.key d)) :
    (s.event n e).reg F d = s.reg F d := (Tells.event s n e).reg F d (by simp) h

theorem reg_count_ne (s : State) (G : Fld) (e n : Nat) (F : Fld) (d : Nat) (hk : F.key d ≠ G.key e)
    (h : ¬ eventKey (F.key d)) : (s.count G e n).reg F d = s.reg F d :=
  (Tells.count s G e n).reg F d (by simpa using hk) h


@[simp] theorem event_pending (s : State) (n : Nat) (e : Event) : (s.event n e).pending = s.pending := by
  rw [(Tells.event s n e).1]
@[simp] theorem event_ticks (s : State) (n : Nat) (e : Event) : (s.event n e).ticks = s.ticks := by
  rw [(Tells.event s n e).1]
@[simp] theorem event_staged (s : State) (n : Nat) (e : Event) : (s.event n e).staged = s.staged := by
  rw [(Tells.event s n e).1]
@[simp] theorem event_armed (s : State) (n : Nat) (e : Event) : (s.event n e).armed = s.armed := by
  rw [(Tells.event s n e).1]
@[simp] theorem event_hiHold (s : State) (n : Nat) (e : Event) : (s.event n e).hiHold = s.hiHold := by
  rw [(Tells.event s n e).1]
@[simp] theorem event_power (s : State) (n : Nat) (e : Event) : (s.event n e).power = s.power := by
  rw [(Tells.event s n e).1]
@[simp] theorem event_boot (s : State) (n : Nat) (e : Event) : (s.event n e).boot = s.boot := by
  rw [(Tells.event s n e).1]
@[simp] theorem event_pcie (s : State) (n : Nat) (e : Event) : (s.event n e).pcie = s.pcie := by
  rw [(Tells.event s n e).1]
@[simp] theorem event_dbg (s : State) (n : Nat) (e : Event) : (s.event n e).dbg = s.dbg := by
  rw [(Tells.event s n e).1]
@[simp] theorem event_quartz (s : State) (n : Nat) (e : Event) : (s.event n e).quartz = s.quartz := by
  rw [(Tells.event s n e).1]
theorem event_dom (s : State) (n : Nat) (e : Event) {m : Nat} (h : m ∉ ringDomains) : (s.event n e).dom m = s.dom m :=
  (Tells.event s n e).dom h
@[simp] theorem event_topaz (s : State) (n : Nat) (e : Event) : (s.event n e).topaz = s.topaz := by
  rw [(Tells.event s n e).1]
@[simp] theorem event_ops (s : State) (n : Nat) (e : Event) : (s.event n e).ops = s.ops := by
  rw [(Tells.event s n e).1]
@[simp] theorem event_opSeq (s : State) (n : Nat) (e : Event) : (s.event n e).opSeq = s.opSeq := by
  rw [(Tells.event s n e).1]
@[simp] theorem event_fences (s : State) (n : Nat) (e : Event) : (s.event n e).fences = s.fences := by
  rw [(Tells.event s n e).1]
@[simp] theorem event_qps (s : State) (n : Nat) (e : Event) : (s.event n e).qps = s.qps := by
  rw [(Tells.event s n e).1]
@[simp] theorem event_handoffs (s : State) (n : Nat) (e : Event) : (s.event n e).handoffs = s.handoffs := by
  rw [(Tells.event s n e).1]
@[simp] theorem event_hoEvents (s : State) (n : Nat) (e : Event) : (s.event n e).hoEvents = s.hoEvents := by
  rw [(Tells.event s n e).1]
@[simp] theorem event_tagStall (s : State) (n : Nat) (e : Event) : (s.event n e).tagStall = s.tagStall := by
  rw [(Tells.event s n e).1]
@[simp] theorem event_ports (s : State) (n : Nat) (e : Event) : (s.event n e).ports = s.ports := by
  rw [(Tells.event s n e).1]
@[simp] theorem event_gptpRun (s : State) (n : Nat) (e : Event) : (s.event n e).gptpRun = s.gptpRun := by
  rw [(Tells.event s n e).1]
@[simp] theorem event_poseLast (s : State) (n : Nat) (e : Event) : (s.event n e).poseLast = s.poseLast := by
  rw [(Tells.event s n e).1]
@[simp] theorem event_jade (s : State) (n : Nat) (e : Event) : (s.event n e).jade = s.jade := by
  rw [(Tells.event s n e).1]
@[simp] theorem event_mem (s : State) (n : Nat) (e : Event) : (s.event n e).mem = s.mem := by
  rw [(Tells.event s n e).1]
@[simp] theorem event_poison (s : State) (n : Nat) (e : Event) : (s.event n e).poison = s.poison := by
  rw [(Tells.event s n e).1]
@[simp] theorem event_ceLines (s : State) (n : Nat) (e : Event) : (s.event n e).ceLines = s.ceLines := by
  rw [(Tells.event s n e).1]
@[simp] theorem event_ueLines (s : State) (n : Nat) (e : Event) : (s.event n e).ueLines = s.ueLines := by
  rw [(Tells.event s n e).1]
@[simp] theorem event_wbQueue (s : State) (n : Nat) (e : Event) : (s.event n e).wbQueue = s.wbQueue := by
  rw [(Tells.event s n e).1]
@[simp] theorem event_plog (s : State) (n : Nat) (e : Event) : (s.event n e).plog = s.plog := by
  rw [(Tells.event s n e).1]
@[simp] theorem event_retrainRun (s : State) (n : Nat) (e : Event) : (s.event n e).retrainRun = s.retrainRun := by
  rw [(Tells.event s n e).1]
@[simp] theorem event_retrainDue (s : State) (n : Nat) (e : Event) : (s.event n e).retrainDue = s.retrainDue := by
  rw [(Tells.event s n e).1]
@[simp] theorem event_scrubTold (s : State) (n : Nat) (e : Event) : (s.event n e).scrubTold = s.scrubTold := by
  rw [(Tells.event s n e).1]
@[simp] theorem event_searches (s : State) (n : Nat) (e : Event) : (s.event n e).searches = s.searches := by
  rw [(Tells.event s n e).1]
@[simp] theorem event_workList (s : State) (n : Nat) (e : Event) : (s.event n e).workList = s.workList := by
  rw [(Tells.event s n e).1]
@[simp] theorem event_facets (s : State) (n : Nat) (e : Event) : (s.event n e).facets = s.facets := by
  rw [(Tells.event s n e).1]
@[simp] theorem event_rlzRows (s : State) (n : Nat) (e : Event) : (s.event n e).rlzRows = s.rlzRows := by
  rw [(Tells.event s n e).1]
@[simp] theorem event_runs (s : State) (n : Nat) (e : Event) : (s.event n e).runs = s.runs := by
  rw [(Tells.event s n e).1]
@[simp] theorem event_steps (s : State) (n : Nat) (e : Event) : (s.event n e).steps = s.steps := by
  rw [(Tells.event s n e).1]
@[simp] theorem event_records (s : State) (n : Nat) (e : Event) : (s.event n e).records = s.records := by
  rw [(Tells.event s n e).1]
@[simp] theorem event_migTold (s : State) (n : Nat) (e : Event) : (s.event n e).migTold = s.migTold := by
  rw [(Tells.event s n e).1]
@[simp] theorem event_migs (s : State) (n : Nat) (e : Event) : (s.event n e).migs = s.migs := by
  rw [(Tells.event s n e).1]
@[simp] theorem event_lostSlots (s : State) (n : Nat) (e : Event) : (s.event n e).lostSlots = s.lostSlots := by
  rw [(Tells.event s n e).1]
@[simp] theorem event_hqs (s : State) (n : Nat) (e : Event) : (s.event n e).hqs = s.hqs := by
  rw [(Tells.event s n e).1]
@[simp] theorem event_expDropped (s : State) (n : Nat) (e : Event) : (s.event n e).expDropped = s.expDropped := by
  rw [(Tells.event s n e).1]
@[simp] theorem event_links (s : State) (n : Nat) (e : Event) : (s.event n e).links = s.links := by
  rw [(Tells.event s n e).1]
@[simp] theorem event_node (s : State) (n : Nat) (e : Event) : (s.event n e).node = s.node := by
  rw [(Tells.event s n e).1]
@[simp] theorem event_amber (s : State) (n : Nat) (e : Event) : (s.event n e).amber = s.amber := by
  rw [(Tells.event s n e).1]
@[simp] theorem event_arbs (s : State) (n : Nat) (e : Event) : (s.event n e).arbs = s.arbs := by
  rw [(Tells.event s n e).1]

@[simp] theorem count_pending (s : State) (F : Fld) (d n : Nat) : (s.count F d n).pending = s.pending := by
  rw [(Tells.count s F d n).1]
@[simp] theorem count_ticks (s : State) (F : Fld) (d n : Nat) : (s.count F d n).ticks = s.ticks := by
  rw [(Tells.count s F d n).1]
@[simp] theorem count_staged (s : State) (F : Fld) (d n : Nat) : (s.count F d n).staged = s.staged := by
  rw [(Tells.count s F d n).1]
@[simp] theorem count_armed (s : State) (F : Fld) (d n : Nat) : (s.count F d n).armed = s.armed := by
  rw [(Tells.count s F d n).1]
@[simp] theorem count_hiHold (s : State) (F : Fld) (d n : Nat) : (s.count F d n).hiHold = s.hiHold := by
  rw [(Tells.count s F d n).1]
@[simp] theorem count_power (s : State) (F : Fld) (d n : Nat) : (s.count F d n).power = s.power := by
  rw [(Tells.count s F d n).1]
@[simp] theorem count_boot (s : State) (F : Fld) (d n : Nat) : (s.count F d n).boot = s.boot := by
  rw [(Tells.count s F d n).1]
@[simp] theorem count_pcie (s : State) (F : Fld) (d n : Nat) : (s.count F d n).pcie = s.pcie := by
  rw [(Tells.count s F d n).1]
@[simp] theorem count_dbg (s : State) (F : Fld) (d n : Nat) : (s.count F d n).dbg = s.dbg := by
  rw [(Tells.count s F d n).1]
@[simp] theorem count_quartz (s : State) (F : Fld) (d n : Nat) : (s.count F d n).quartz = s.quartz := by
  rw [(Tells.count s F d n).1]
theorem count_dom (s : State) (F : Fld) (d n : Nat) {m : Nat} (h : m ∉ ringDomains) : (s.count F d n).dom m = s.dom m :=
  (Tells.count s F d n).dom h
@[simp] theorem count_topaz (s : State) (F : Fld) (d n : Nat) : (s.count F d n).topaz = s.topaz := by
  rw [(Tells.count s F d n).1]
@[simp] theorem count_ops (s : State) (F : Fld) (d n : Nat) : (s.count F d n).ops = s.ops := by
  rw [(Tells.count s F d n).1]
@[simp] theorem count_opSeq (s : State) (F : Fld) (d n : Nat) : (s.count F d n).opSeq = s.opSeq := by
  rw [(Tells.count s F d n).1]
@[simp] theorem count_fences (s : State) (F : Fld) (d n : Nat) : (s.count F d n).fences = s.fences := by
  rw [(Tells.count s F d n).1]
@[simp] theorem count_qps (s : State) (F : Fld) (d n : Nat) : (s.count F d n).qps = s.qps := by
  rw [(Tells.count s F d n).1]
@[simp] theorem count_handoffs (s : State) (F : Fld) (d n : Nat) : (s.count F d n).handoffs = s.handoffs := by
  rw [(Tells.count s F d n).1]
@[simp] theorem count_hoEvents (s : State) (F : Fld) (d n : Nat) : (s.count F d n).hoEvents = s.hoEvents := by
  rw [(Tells.count s F d n).1]
@[simp] theorem count_tagStall (s : State) (F : Fld) (d n : Nat) : (s.count F d n).tagStall = s.tagStall := by
  rw [(Tells.count s F d n).1]
@[simp] theorem count_ports (s : State) (F : Fld) (d n : Nat) : (s.count F d n).ports = s.ports := by
  rw [(Tells.count s F d n).1]
@[simp] theorem count_gptpRun (s : State) (F : Fld) (d n : Nat) : (s.count F d n).gptpRun = s.gptpRun := by
  rw [(Tells.count s F d n).1]
@[simp] theorem count_poseLast (s : State) (F : Fld) (d n : Nat) : (s.count F d n).poseLast = s.poseLast := by
  rw [(Tells.count s F d n).1]
@[simp] theorem count_jade (s : State) (F : Fld) (d n : Nat) : (s.count F d n).jade = s.jade := by
  rw [(Tells.count s F d n).1]
@[simp] theorem count_mem (s : State) (F : Fld) (d n : Nat) : (s.count F d n).mem = s.mem := by
  rw [(Tells.count s F d n).1]
@[simp] theorem count_poison (s : State) (F : Fld) (d n : Nat) : (s.count F d n).poison = s.poison := by
  rw [(Tells.count s F d n).1]
@[simp] theorem count_ceLines (s : State) (F : Fld) (d n : Nat) : (s.count F d n).ceLines = s.ceLines := by
  rw [(Tells.count s F d n).1]
@[simp] theorem count_ueLines (s : State) (F : Fld) (d n : Nat) : (s.count F d n).ueLines = s.ueLines := by
  rw [(Tells.count s F d n).1]
@[simp] theorem count_wbQueue (s : State) (F : Fld) (d n : Nat) : (s.count F d n).wbQueue = s.wbQueue := by
  rw [(Tells.count s F d n).1]
@[simp] theorem count_plog (s : State) (F : Fld) (d n : Nat) : (s.count F d n).plog = s.plog := by
  rw [(Tells.count s F d n).1]
@[simp] theorem count_retrainRun (s : State) (F : Fld) (d n : Nat) : (s.count F d n).retrainRun = s.retrainRun := by
  rw [(Tells.count s F d n).1]
@[simp] theorem count_retrainDue (s : State) (F : Fld) (d n : Nat) : (s.count F d n).retrainDue = s.retrainDue := by
  rw [(Tells.count s F d n).1]
@[simp] theorem count_scrubTold (s : State) (F : Fld) (d n : Nat) : (s.count F d n).scrubTold = s.scrubTold := by
  rw [(Tells.count s F d n).1]
@[simp] theorem count_searches (s : State) (F : Fld) (d n : Nat) : (s.count F d n).searches = s.searches := by
  rw [(Tells.count s F d n).1]
@[simp] theorem count_workList (s : State) (F : Fld) (d n : Nat) : (s.count F d n).workList = s.workList := by
  rw [(Tells.count s F d n).1]
@[simp] theorem count_facets (s : State) (F : Fld) (d n : Nat) : (s.count F d n).facets = s.facets := by
  rw [(Tells.count s F d n).1]
@[simp] theorem count_rlzRows (s : State) (F : Fld) (d n : Nat) : (s.count F d n).rlzRows = s.rlzRows := by
  rw [(Tells.count s F d n).1]
@[simp] theorem count_runs (s : State) (F : Fld) (d n : Nat) : (s.count F d n).runs = s.runs := by
  rw [(Tells.count s F d n).1]
@[simp] theorem count_steps (s : State) (F : Fld) (d n : Nat) : (s.count F d n).steps = s.steps := by
  rw [(Tells.count s F d n).1]
@[simp] theorem count_records (s : State) (F : Fld) (d n : Nat) : (s.count F d n).records = s.records := by
  rw [(Tells.count s F d n).1]
@[simp] theorem count_migTold (s : State) (F : Fld) (d n : Nat) : (s.count F d n).migTold = s.migTold := by
  rw [(Tells.count s F d n).1]
@[simp] theorem count_migs (s : State) (F : Fld) (d n : Nat) : (s.count F d n).migs = s.migs := by
  rw [(Tells.count s F d n).1]
@[simp] theorem count_lostSlots (s : State) (F : Fld) (d n : Nat) : (s.count F d n).lostSlots = s.lostSlots := by
  rw [(Tells.count s F d n).1]
@[simp] theorem count_hqs (s : State) (F : Fld) (d n : Nat) : (s.count F d n).hqs = s.hqs := by
  rw [(Tells.count s F d n).1]
@[simp] theorem count_expDropped (s : State) (F : Fld) (d n : Nat) : (s.count F d n).expDropped = s.expDropped := by
  rw [(Tells.count s F d n).1]
@[simp] theorem count_links (s : State) (F : Fld) (d n : Nat) : (s.count F d n).links = s.links := by
  rw [(Tells.count s F d n).1]
@[simp] theorem count_node (s : State) (F : Fld) (d n : Nat) : (s.count F d n).node = s.node := by
  rw [(Tells.count s F d n).1]
@[simp] theorem count_amber (s : State) (F : Fld) (d n : Nat) : (s.count F d n).amber = s.amber := by
  rw [(Tells.count s F d n).1]
@[simp] theorem count_arbs (s : State) (F : Fld) (d n : Nat) : (s.count F d n).arbs = s.arbs := by
  rw [(Tells.count s F d n).1]

@[simp] theorem cfgErr_pending (s : State) (b : Blk) (d : Nat) : (s.cfgErr b d).pending = s.pending := by
  rw [(Tells.cfgErr s b d).1]
@[simp] theorem cfgErr_ticks (s : State) (b : Blk) (d : Nat) : (s.cfgErr b d).ticks = s.ticks := by
  rw [(Tells.cfgErr s b d).1]
@[simp] theorem cfgErr_staged (s : State) (b : Blk) (d : Nat) : (s.cfgErr b d).staged = s.staged := by
  rw [(Tells.cfgErr s b d).1]
@[simp] theorem cfgErr_armed (s : State) (b : Blk) (d : Nat) : (s.cfgErr b d).armed = s.armed := by
  rw [(Tells.cfgErr s b d).1]
@[simp] theorem cfgErr_hiHold (s : State) (b : Blk) (d : Nat) : (s.cfgErr b d).hiHold = s.hiHold := by
  rw [(Tells.cfgErr s b d).1]
@[simp] theorem cfgErr_power (s : State) (b : Blk) (d : Nat) : (s.cfgErr b d).power = s.power := by
  rw [(Tells.cfgErr s b d).1]
@[simp] theorem cfgErr_boot (s : State) (b : Blk) (d : Nat) : (s.cfgErr b d).boot = s.boot := by
  rw [(Tells.cfgErr s b d).1]
@[simp] theorem cfgErr_pcie (s : State) (b : Blk) (d : Nat) : (s.cfgErr b d).pcie = s.pcie := by
  rw [(Tells.cfgErr s b d).1]
@[simp] theorem cfgErr_dbg (s : State) (b : Blk) (d : Nat) : (s.cfgErr b d).dbg = s.dbg := by
  rw [(Tells.cfgErr s b d).1]
@[simp] theorem cfgErr_quartz (s : State) (b : Blk) (d : Nat) : (s.cfgErr b d).quartz = s.quartz := by
  rw [(Tells.cfgErr s b d).1]
@[simp] theorem cfgErr_domains (s : State) (b : Blk) (d : Nat) : (s.cfgErr b d).domains = s.domains := by
  unfold cfgErr; dsimp only; split <;> rfl
@[simp] theorem cfgErr_topaz (s : State) (b : Blk) (d : Nat) : (s.cfgErr b d).topaz = s.topaz := by
  rw [(Tells.cfgErr s b d).1]
@[simp] theorem cfgErr_ops (s : State) (b : Blk) (d : Nat) : (s.cfgErr b d).ops = s.ops := by
  rw [(Tells.cfgErr s b d).1]
@[simp] theorem cfgErr_opSeq (s : State) (b : Blk) (d : Nat) : (s.cfgErr b d).opSeq = s.opSeq := by
  rw [(Tells.cfgErr s b d).1]
@[simp] theorem cfgErr_fences (s : State) (b : Blk) (d : Nat) : (s.cfgErr b d).fences = s.fences := by
  rw [(Tells.cfgErr s b d).1]
@[simp] theorem cfgErr_qps (s : State) (b : Blk) (d : Nat) : (s.cfgErr b d).qps = s.qps := by
  rw [(Tells.cfgErr s b d).1]
@[simp] theorem cfgErr_handoffs (s : State) (b : Blk) (d : Nat) : (s.cfgErr b d).handoffs = s.handoffs := by
  rw [(Tells.cfgErr s b d).1]
@[simp] theorem cfgErr_hoEvents (s : State) (b : Blk) (d : Nat) : (s.cfgErr b d).hoEvents = s.hoEvents := by
  rw [(Tells.cfgErr s b d).1]
@[simp] theorem cfgErr_tagStall (s : State) (b : Blk) (d : Nat) : (s.cfgErr b d).tagStall = s.tagStall := by
  rw [(Tells.cfgErr s b d).1]
@[simp] theorem cfgErr_ports (s : State) (b : Blk) (d : Nat) : (s.cfgErr b d).ports = s.ports := by
  rw [(Tells.cfgErr s b d).1]
@[simp] theorem cfgErr_gptpRun (s : State) (b : Blk) (d : Nat) : (s.cfgErr b d).gptpRun = s.gptpRun := by
  rw [(Tells.cfgErr s b d).1]
@[simp] theorem cfgErr_poseLast (s : State) (b : Blk) (d : Nat) : (s.cfgErr b d).poseLast = s.poseLast := by
  rw [(Tells.cfgErr s b d).1]
@[simp] theorem cfgErr_jade (s : State) (b : Blk) (d : Nat) : (s.cfgErr b d).jade = s.jade := by
  rw [(Tells.cfgErr s b d).1]
@[simp] theorem cfgErr_mem (s : State) (b : Blk) (d : Nat) : (s.cfgErr b d).mem = s.mem := by
  rw [(Tells.cfgErr s b d).1]
@[simp] theorem cfgErr_poison (s : State) (b : Blk) (d : Nat) : (s.cfgErr b d).poison = s.poison := by
  rw [(Tells.cfgErr s b d).1]
@[simp] theorem cfgErr_ceLines (s : State) (b : Blk) (d : Nat) : (s.cfgErr b d).ceLines = s.ceLines := by
  rw [(Tells.cfgErr s b d).1]
@[simp] theorem cfgErr_ueLines (s : State) (b : Blk) (d : Nat) : (s.cfgErr b d).ueLines = s.ueLines := by
  rw [(Tells.cfgErr s b d).1]
@[simp] theorem cfgErr_wbQueue (s : State) (b : Blk) (d : Nat) : (s.cfgErr b d).wbQueue = s.wbQueue := by
  rw [(Tells.cfgErr s b d).1]
@[simp] theorem cfgErr_plog (s : State) (b : Blk) (d : Nat) : (s.cfgErr b d).plog = s.plog := by
  rw [(Tells.cfgErr s b d).1]
@[simp] theorem cfgErr_retrainRun (s : State) (b : Blk) (d : Nat) : (s.cfgErr b d).retrainRun = s.retrainRun := by
  rw [(Tells.cfgErr s b d).1]
@[simp] theorem cfgErr_retrainDue (s : State) (b : Blk) (d : Nat) : (s.cfgErr b d).retrainDue = s.retrainDue := by
  rw [(Tells.cfgErr s b d).1]
@[simp] theorem cfgErr_scrubTold (s : State) (b : Blk) (d : Nat) : (s.cfgErr b d).scrubTold = s.scrubTold := by
  rw [(Tells.cfgErr s b d).1]
@[simp] theorem cfgErr_searches (s : State) (b : Blk) (d : Nat) : (s.cfgErr b d).searches = s.searches := by
  rw [(Tells.cfgErr s b d).1]
@[simp] theorem cfgErr_workList (s : State) (b : Blk) (d : Nat) : (s.cfgErr b d).workList = s.workList := by
  rw [(Tells.cfgErr s b d).1]
@[simp] theorem cfgErr_facets (s : State) (b : Blk) (d : Nat) : (s.cfgErr b d).facets = s.facets := by
  rw [(Tells.cfgErr s b d).1]
@[simp] theorem cfgErr_rlzRows (s : State) (b : Blk) (d : Nat) : (s.cfgErr b d).rlzRows = s.rlzRows := by
  rw [(Tells.cfgErr s b d).1]
@[simp] theorem cfgErr_runs (s : State) (b : Blk) (d : Nat) : (s.cfgErr b d).runs = s.runs := by
  rw [(Tells.cfgErr s b d).1]
@[simp] theorem cfgErr_steps (s : State) (b : Blk) (d : Nat) : (s.cfgErr b d).steps = s.steps := by
  rw [(Tells.cfgErr s b d).1]
@[simp] theorem cfgErr_records (s : State) (b : Blk) (d : Nat) : (s.cfgErr b d).records = s.records := by
  rw [(Tells.cfgErr s b d).1]
@[simp] theorem cfgErr_migTold (s : State) (b : Blk) (d : Nat) : (s.cfgErr b d).migTold = s.migTold := by
  rw [(Tells.cfgErr s b d).1]
@[simp] theorem cfgErr_migs (s : State) (b : Blk) (d : Nat) : (s.cfgErr b d).migs = s.migs := by
  rw [(Tells.cfgErr s b d).1]
@[simp] theorem cfgErr_lostSlots (s : State) (b : Blk) (d : Nat) : (s.cfgErr b d).lostSlots = s.lostSlots := by
  rw [(Tells.cfgErr s b d).1]
@[simp] theorem cfgErr_hqs (s : State) (b : Blk) (d : Nat) : (s.cfgErr b d).hqs = s.hqs := by
  rw [(Tells.cfgErr s b d).1]
@[simp] theorem cfgErr_expDropped (s : State) (b : Blk) (d : Nat) : (s.cfgErr b d).expDropped = s.expDropped := by
  rw [(Tells.cfgErr s b d).1]
@[simp] theorem cfgErr_links (s : State) (b : Blk) (d : Nat) : (s.cfgErr b d).links = s.links := by
  rw [(Tells.cfgErr s b d).1]
@[simp] theorem cfgErr_node (s : State) (b : Blk) (d : Nat) : (s.cfgErr b d).node = s.node := by
  rw [(Tells.cfgErr s b d).1]
@[simp] theorem cfgErr_amber (s : State) (b : Blk) (d : Nat) : (s.cfgErr b d).amber = s.amber := by
  rw [(Tells.cfgErr s b d).1]
@[simp] theorem cfgErr_arbs (s : State) (b : Blk) (d : Nat) : (s.cfgErr b d).arbs = s.arbs := by
  rw [(Tells.cfgErr s b d).1]

@[simp] theorem sendMsix_pending (s : State) (n v : Nat) : (s.sendMsix n v).pending = s.pending := by
  rw [(Tells.sendMsix s n v).1]
@[simp] theorem sendMsix_ticks (s : State) (n v : Nat) : (s.sendMsix n v).ticks = s.ticks := by
  rw [(Tells.sendMsix s n v).1]
@[simp] theorem sendMsix_staged (s : State) (n v : Nat) : (s.sendMsix n v).staged = s.staged := by
  rw [(Tells.sendMsix s n v).1]
@[simp] theorem sendMsix_armed (s : State) (n v : Nat) : (s.sendMsix n v).armed = s.armed := by
  rw [(Tells.sendMsix s n v).1]
@[simp] theorem sendMsix_hiHold (s : State) (n v : Nat) : (s.sendMsix n v).hiHold = s.hiHold := by
  rw [(Tells.sendMsix s n v).1]
@[simp] theorem sendMsix_power (s : State) (n v : Nat) : (s.sendMsix n v).power = s.power := by
  rw [(Tells.sendMsix s n v).1]
@[simp] theorem sendMsix_boot (s : State) (n v : Nat) : (s.sendMsix n v).boot = s.boot := by
  rw [(Tells.sendMsix s n v).1]
@[simp] theorem sendMsix_pcie (s : State) (n v : Nat) : (s.sendMsix n v).pcie = s.pcie := by
  rw [(Tells.sendMsix s n v).1]
@[simp] theorem sendMsix_dbg (s : State) (n v : Nat) : (s.sendMsix n v).dbg = s.dbg := by
  rw [(Tells.sendMsix s n v).1]
@[simp] theorem sendMsix_quartz (s : State) (n v : Nat) : (s.sendMsix n v).quartz = s.quartz := by
  rw [(Tells.sendMsix s n v).1]
@[simp] theorem sendMsix_domains (s : State) (n v : Nat) : (s.sendMsix n v).domains = s.domains := by
  unfold sendMsix; dsimp only; split <;> rfl
@[simp] theorem sendMsix_topaz (s : State) (n v : Nat) : (s.sendMsix n v).topaz = s.topaz := by
  rw [(Tells.sendMsix s n v).1]
@[simp] theorem sendMsix_ops (s : State) (n v : Nat) : (s.sendMsix n v).ops = s.ops := by
  rw [(Tells.sendMsix s n v).1]
@[simp] theorem sendMsix_opSeq (s : State) (n v : Nat) : (s.sendMsix n v).opSeq = s.opSeq := by
  rw [(Tells.sendMsix s n v).1]
@[simp] theorem sendMsix_fences (s : State) (n v : Nat) : (s.sendMsix n v).fences = s.fences := by
  rw [(Tells.sendMsix s n v).1]
@[simp] theorem sendMsix_qps (s : State) (n v : Nat) : (s.sendMsix n v).qps = s.qps := by
  rw [(Tells.sendMsix s n v).1]
@[simp] theorem sendMsix_handoffs (s : State) (n v : Nat) : (s.sendMsix n v).handoffs = s.handoffs := by
  rw [(Tells.sendMsix s n v).1]
@[simp] theorem sendMsix_hoEvents (s : State) (n v : Nat) : (s.sendMsix n v).hoEvents = s.hoEvents := by
  rw [(Tells.sendMsix s n v).1]
@[simp] theorem sendMsix_tagStall (s : State) (n v : Nat) : (s.sendMsix n v).tagStall = s.tagStall := by
  rw [(Tells.sendMsix s n v).1]
@[simp] theorem sendMsix_ports (s : State) (n v : Nat) : (s.sendMsix n v).ports = s.ports := by
  rw [(Tells.sendMsix s n v).1]
@[simp] theorem sendMsix_gptpRun (s : State) (n v : Nat) : (s.sendMsix n v).gptpRun = s.gptpRun := by
  rw [(Tells.sendMsix s n v).1]
@[simp] theorem sendMsix_poseLast (s : State) (n v : Nat) : (s.sendMsix n v).poseLast = s.poseLast := by
  rw [(Tells.sendMsix s n v).1]
@[simp] theorem sendMsix_jade (s : State) (n v : Nat) : (s.sendMsix n v).jade = s.jade := by
  rw [(Tells.sendMsix s n v).1]
@[simp] theorem sendMsix_mem (s : State) (n v : Nat) : (s.sendMsix n v).mem = s.mem := by
  rw [(Tells.sendMsix s n v).1]
@[simp] theorem sendMsix_poison (s : State) (n v : Nat) : (s.sendMsix n v).poison = s.poison := by
  rw [(Tells.sendMsix s n v).1]
@[simp] theorem sendMsix_ceLines (s : State) (n v : Nat) : (s.sendMsix n v).ceLines = s.ceLines := by
  rw [(Tells.sendMsix s n v).1]
@[simp] theorem sendMsix_ueLines (s : State) (n v : Nat) : (s.sendMsix n v).ueLines = s.ueLines := by
  rw [(Tells.sendMsix s n v).1]
@[simp] theorem sendMsix_wbQueue (s : State) (n v : Nat) : (s.sendMsix n v).wbQueue = s.wbQueue := by
  rw [(Tells.sendMsix s n v).1]
@[simp] theorem sendMsix_plog (s : State) (n v : Nat) : (s.sendMsix n v).plog = s.plog := by
  rw [(Tells.sendMsix s n v).1]
@[simp] theorem sendMsix_retrainRun (s : State) (n v : Nat) : (s.sendMsix n v).retrainRun = s.retrainRun := by
  rw [(Tells.sendMsix s n v).1]
@[simp] theorem sendMsix_retrainDue (s : State) (n v : Nat) : (s.sendMsix n v).retrainDue = s.retrainDue := by
  rw [(Tells.sendMsix s n v).1]
@[simp] theorem sendMsix_scrubTold (s : State) (n v : Nat) : (s.sendMsix n v).scrubTold = s.scrubTold := by
  rw [(Tells.sendMsix s n v).1]
@[simp] theorem sendMsix_searches (s : State) (n v : Nat) : (s.sendMsix n v).searches = s.searches := by
  rw [(Tells.sendMsix s n v).1]
@[simp] theorem sendMsix_workList (s : State) (n v : Nat) : (s.sendMsix n v).workList = s.workList := by
  rw [(Tells.sendMsix s n v).1]
@[simp] theorem sendMsix_facets (s : State) (n v : Nat) : (s.sendMsix n v).facets = s.facets := by
  rw [(Tells.sendMsix s n v).1]
@[simp] theorem sendMsix_rlzRows (s : State) (n v : Nat) : (s.sendMsix n v).rlzRows = s.rlzRows := by
  rw [(Tells.sendMsix s n v).1]
@[simp] theorem sendMsix_runs (s : State) (n v : Nat) : (s.sendMsix n v).runs = s.runs := by
  rw [(Tells.sendMsix s n v).1]
@[simp] theorem sendMsix_steps (s : State) (n v : Nat) : (s.sendMsix n v).steps = s.steps := by
  rw [(Tells.sendMsix s n v).1]
@[simp] theorem sendMsix_records (s : State) (n v : Nat) : (s.sendMsix n v).records = s.records := by
  rw [(Tells.sendMsix s n v).1]
@[simp] theorem sendMsix_migTold (s : State) (n v : Nat) : (s.sendMsix n v).migTold = s.migTold := by
  rw [(Tells.sendMsix s n v).1]
@[simp] theorem sendMsix_migs (s : State) (n v : Nat) : (s.sendMsix n v).migs = s.migs := by
  rw [(Tells.sendMsix s n v).1]
@[simp] theorem sendMsix_lostSlots (s : State) (n v : Nat) : (s.sendMsix n v).lostSlots = s.lostSlots := by
  rw [(Tells.sendMsix s n v).1]
@[simp] theorem sendMsix_hqs (s : State) (n v : Nat) : (s.sendMsix n v).hqs = s.hqs := by
  rw [(Tells.sendMsix s n v).1]
@[simp] theorem sendMsix_expDropped (s : State) (n v : Nat) : (s.sendMsix n v).expDropped = s.expDropped := by
  rw [(Tells.sendMsix s n v).1]
@[simp] theorem sendMsix_links (s : State) (n v : Nat) : (s.sendMsix n v).links = s.links := by
  rw [(Tells.sendMsix s n v).1]
@[simp] theorem sendMsix_node (s : State) (n v : Nat) : (s.sendMsix n v).node = s.node := by
  rw [(Tells.sendMsix s n v).1]
@[simp] theorem sendMsix_amber (s : State) (n v : Nat) : (s.sendMsix n v).amber = s.amber := by
  rw [(Tells.sendMsix s n v).1]
@[simp] theorem sendMsix_arbs (s : State) (n v : Nat) : (s.sendMsix n v).arbs = s.arbs := by
  rw [(Tells.sendMsix s n v).1]

@[simp] theorem putEvent_pending (s : State) (n : Nat) (e : Event) : (s.putEvent n e).pending = s.pending := by
  rw [(Tells.putEvent s n e).1]
@[simp] theorem putEvent_ticks (s : State) (n : Nat) (e : Event) : (s.putEvent n e).ticks = s.ticks := by
  rw [(Tells.putEvent s n e).1]
@[simp] theorem putEvent_staged (s : State) (n : Nat) (e : Event) : (s.putEvent n e).staged = s.staged := by
  rw [(Tells.putEvent s n e).1]
@[simp] theorem putEvent_armed (s : State) (n : Nat) (e : Event) : (s.putEvent n e).armed = s.armed := by
  rw [(Tells.putEvent s n e).1]
@[simp] theorem putEvent_hiHold (s : State) (n : Nat) (e : Event) : (s.putEvent n e).hiHold = s.hiHold := by
  rw [(Tells.putEvent s n e).1]
@[simp] theorem putEvent_power (s : State) (n : Nat) (e : Event) : (s.putEvent n e).power = s.power := by
  rw [(Tells.putEvent s n e).1]
@[simp] theorem putEvent_boot (s : State) (n : Nat) (e : Event) : (s.putEvent n e).boot = s.boot := by
  rw [(Tells.putEvent s n e).1]
@[simp] theorem putEvent_pcie (s : State) (n : Nat) (e : Event) : (s.putEvent n e).pcie = s.pcie := by
  rw [(Tells.putEvent s n e).1]
@[simp] theorem putEvent_dbg (s : State) (n : Nat) (e : Event) : (s.putEvent n e).dbg = s.dbg := by
  rw [(Tells.putEvent s n e).1]
@[simp] theorem putEvent_quartz (s : State) (n : Nat) (e : Event) : (s.putEvent n e).quartz = s.quartz := by
  rw [(Tells.putEvent s n e).1]
@[simp] theorem putEvent_domains (s : State) (n : Nat) (e : Event) : (s.putEvent n e).domains = s.domains := by
  unfold putEvent orFree; cases e.detail <;> simp [drawBytes]
@[simp] theorem putEvent_topaz (s : State) (n : Nat) (e : Event) : (s.putEvent n e).topaz = s.topaz := by
  rw [(Tells.putEvent s n e).1]
@[simp] theorem putEvent_ops (s : State) (n : Nat) (e : Event) : (s.putEvent n e).ops = s.ops := by
  rw [(Tells.putEvent s n e).1]
@[simp] theorem putEvent_opSeq (s : State) (n : Nat) (e : Event) : (s.putEvent n e).opSeq = s.opSeq := by
  rw [(Tells.putEvent s n e).1]
@[simp] theorem putEvent_fences (s : State) (n : Nat) (e : Event) : (s.putEvent n e).fences = s.fences := by
  rw [(Tells.putEvent s n e).1]
@[simp] theorem putEvent_qps (s : State) (n : Nat) (e : Event) : (s.putEvent n e).qps = s.qps := by
  rw [(Tells.putEvent s n e).1]
@[simp] theorem putEvent_handoffs (s : State) (n : Nat) (e : Event) : (s.putEvent n e).handoffs = s.handoffs := by
  rw [(Tells.putEvent s n e).1]
@[simp] theorem putEvent_hoEvents (s : State) (n : Nat) (e : Event) : (s.putEvent n e).hoEvents = s.hoEvents := by
  rw [(Tells.putEvent s n e).1]
@[simp] theorem putEvent_tagStall (s : State) (n : Nat) (e : Event) : (s.putEvent n e).tagStall = s.tagStall := by
  rw [(Tells.putEvent s n e).1]
@[simp] theorem putEvent_ports (s : State) (n : Nat) (e : Event) : (s.putEvent n e).ports = s.ports := by
  rw [(Tells.putEvent s n e).1]
@[simp] theorem putEvent_gptpRun (s : State) (n : Nat) (e : Event) : (s.putEvent n e).gptpRun = s.gptpRun := by
  rw [(Tells.putEvent s n e).1]
@[simp] theorem putEvent_poseLast (s : State) (n : Nat) (e : Event) : (s.putEvent n e).poseLast = s.poseLast := by
  rw [(Tells.putEvent s n e).1]
@[simp] theorem putEvent_jade (s : State) (n : Nat) (e : Event) : (s.putEvent n e).jade = s.jade := by
  rw [(Tells.putEvent s n e).1]
@[simp] theorem putEvent_mem (s : State) (n : Nat) (e : Event) : (s.putEvent n e).mem = s.mem := by
  rw [(Tells.putEvent s n e).1]
@[simp] theorem putEvent_poison (s : State) (n : Nat) (e : Event) : (s.putEvent n e).poison = s.poison := by
  rw [(Tells.putEvent s n e).1]
@[simp] theorem putEvent_ceLines (s : State) (n : Nat) (e : Event) : (s.putEvent n e).ceLines = s.ceLines := by
  rw [(Tells.putEvent s n e).1]
@[simp] theorem putEvent_ueLines (s : State) (n : Nat) (e : Event) : (s.putEvent n e).ueLines = s.ueLines := by
  rw [(Tells.putEvent s n e).1]
@[simp] theorem putEvent_wbQueue (s : State) (n : Nat) (e : Event) : (s.putEvent n e).wbQueue = s.wbQueue := by
  rw [(Tells.putEvent s n e).1]
@[simp] theorem putEvent_plog (s : State) (n : Nat) (e : Event) : (s.putEvent n e).plog = s.plog := by
  rw [(Tells.putEvent s n e).1]
@[simp] theorem putEvent_retrainRun (s : State) (n : Nat) (e : Event) : (s.putEvent n e).retrainRun = s.retrainRun := by
  rw [(Tells.putEvent s n e).1]
@[simp] theorem putEvent_retrainDue (s : State) (n : Nat) (e : Event) : (s.putEvent n e).retrainDue = s.retrainDue := by
  rw [(Tells.putEvent s n e).1]
@[simp] theorem putEvent_scrubTold (s : State) (n : Nat) (e : Event) : (s.putEvent n e).scrubTold = s.scrubTold := by
  rw [(Tells.putEvent s n e).1]
@[simp] theorem putEvent_searches (s : State) (n : Nat) (e : Event) : (s.putEvent n e).searches = s.searches := by
  rw [(Tells.putEvent s n e).1]
@[simp] theorem putEvent_workList (s : State) (n : Nat) (e : Event) : (s.putEvent n e).workList = s.workList := by
  rw [(Tells.putEvent s n e).1]
@[simp] theorem putEvent_facets (s : State) (n : Nat) (e : Event) : (s.putEvent n e).facets = s.facets := by
  rw [(Tells.putEvent s n e).1]
@[simp] theorem putEvent_rlzRows (s : State) (n : Nat) (e : Event) : (s.putEvent n e).rlzRows = s.rlzRows := by
  rw [(Tells.putEvent s n e).1]
@[simp] theorem putEvent_runs (s : State) (n : Nat) (e : Event) : (s.putEvent n e).runs = s.runs := by
  rw [(Tells.putEvent s n e).1]
@[simp] theorem putEvent_steps (s : State) (n : Nat) (e : Event) : (s.putEvent n e).steps = s.steps := by
  rw [(Tells.putEvent s n e).1]
@[simp] theorem putEvent_records (s : State) (n : Nat) (e : Event) : (s.putEvent n e).records = s.records := by
  rw [(Tells.putEvent s n e).1]
@[simp] theorem putEvent_migTold (s : State) (n : Nat) (e : Event) : (s.putEvent n e).migTold = s.migTold := by
  rw [(Tells.putEvent s n e).1]
@[simp] theorem putEvent_migs (s : State) (n : Nat) (e : Event) : (s.putEvent n e).migs = s.migs := by
  rw [(Tells.putEvent s n e).1]
@[simp] theorem putEvent_lostSlots (s : State) (n : Nat) (e : Event) : (s.putEvent n e).lostSlots = s.lostSlots := by
  rw [(Tells.putEvent s n e).1]
@[simp] theorem putEvent_hqs (s : State) (n : Nat) (e : Event) : (s.putEvent n e).hqs = s.hqs := by
  rw [(Tells.putEvent s n e).1]
@[simp] theorem putEvent_expDropped (s : State) (n : Nat) (e : Event) : (s.putEvent n e).expDropped = s.expDropped := by
  rw [(Tells.putEvent s n e).1]
@[simp] theorem putEvent_links (s : State) (n : Nat) (e : Event) : (s.putEvent n e).links = s.links := by
  rw [(Tells.putEvent s n e).1]
@[simp] theorem putEvent_node (s : State) (n : Nat) (e : Event) : (s.putEvent n e).node = s.node := by
  rw [(Tells.putEvent s n e).1]
@[simp] theorem putEvent_amber (s : State) (n : Nat) (e : Event) : (s.putEvent n e).amber = s.amber := by
  rw [(Tells.putEvent s n e).1]
@[simp] theorem putEvent_arbs (s : State) (n : Nat) (e : Event) : (s.putEvent n e).arbs = s.arbs := by
  rw [(Tells.putEvent s n e).1]

@[simp] theorem pfEvent_pending (s : State) (c : Nat) (x : Option Nat) (a : Nat) : (s.pfEvent c x a).pending = s.pending := by
  rw [(Tells.pfEvent s c x a).1]
@[simp] theorem pfEvent_ticks (s : State) (c : Nat) (x : Option Nat) (a : Nat) : (s.pfEvent c x a).ticks = s.ticks := by
  rw [(Tells.pfEvent s c x a).1]
@[simp] theorem pfEvent_staged (s : State) (c : Nat) (x : Option Nat) (a : Nat) : (s.pfEvent c x a).staged = s.staged := by
  rw [(Tells.pfEvent s c x a).1]
@[simp] theorem pfEvent_armed (s : State) (c : Nat) (x : Option Nat) (a : Nat) : (s.pfEvent c x a).armed = s.armed := by
  rw [(Tells.pfEvent s c x a).1]
@[simp] theorem pfEvent_hiHold (s : State) (c : Nat) (x : Option Nat) (a : Nat) : (s.pfEvent c x a).hiHold = s.hiHold := by
  rw [(Tells.pfEvent s c x a).1]
@[simp] theorem pfEvent_power (s : State) (c : Nat) (x : Option Nat) (a : Nat) : (s.pfEvent c x a).power = s.power := by
  rw [(Tells.pfEvent s c x a).1]
@[simp] theorem pfEvent_boot (s : State) (c : Nat) (x : Option Nat) (a : Nat) : (s.pfEvent c x a).boot = s.boot := by
  rw [(Tells.pfEvent s c x a).1]
@[simp] theorem pfEvent_pcie (s : State) (c : Nat) (x : Option Nat) (a : Nat) : (s.pfEvent c x a).pcie = s.pcie := by
  rw [(Tells.pfEvent s c x a).1]
@[simp] theorem pfEvent_dbg (s : State) (c : Nat) (x : Option Nat) (a : Nat) : (s.pfEvent c x a).dbg = s.dbg := by
  rw [(Tells.pfEvent s c x a).1]
@[simp] theorem pfEvent_quartz (s : State) (c : Nat) (x : Option Nat) (a : Nat) : (s.pfEvent c x a).quartz = s.quartz := by
  rw [(Tells.pfEvent s c x a).1]
theorem pfEvent_dom (s : State) (c : Nat) (x : Option Nat) (a : Nat) {m : Nat} (h : m ∉ ringDomains) : (s.pfEvent c x a).dom m = s.dom m :=
  (Tells.pfEvent s c x a).dom h
@[simp] theorem pfEvent_topaz (s : State) (c : Nat) (x : Option Nat) (a : Nat) : (s.pfEvent c x a).topaz = s.topaz := by
  rw [(Tells.pfEvent s c x a).1]
@[simp] theorem pfEvent_ops (s : State) (c : Nat) (x : Option Nat) (a : Nat) : (s.pfEvent c x a).ops = s.ops := by
  rw [(Tells.pfEvent s c x a).1]
@[simp] theorem pfEvent_opSeq (s : State) (c : Nat) (x : Option Nat) (a : Nat) : (s.pfEvent c x a).opSeq = s.opSeq := by
  rw [(Tells.pfEvent s c x a).1]
@[simp] theorem pfEvent_fences (s : State) (c : Nat) (x : Option Nat) (a : Nat) : (s.pfEvent c x a).fences = s.fences := by
  rw [(Tells.pfEvent s c x a).1]
@[simp] theorem pfEvent_qps (s : State) (c : Nat) (x : Option Nat) (a : Nat) : (s.pfEvent c x a).qps = s.qps := by
  rw [(Tells.pfEvent s c x a).1]
@[simp] theorem pfEvent_handoffs (s : State) (c : Nat) (x : Option Nat) (a : Nat) : (s.pfEvent c x a).handoffs = s.handoffs := by
  rw [(Tells.pfEvent s c x a).1]
@[simp] theorem pfEvent_hoEvents (s : State) (c : Nat) (x : Option Nat) (a : Nat) : (s.pfEvent c x a).hoEvents = s.hoEvents := by
  rw [(Tells.pfEvent s c x a).1]
@[simp] theorem pfEvent_tagStall (s : State) (c : Nat) (x : Option Nat) (a : Nat) : (s.pfEvent c x a).tagStall = s.tagStall := by
  rw [(Tells.pfEvent s c x a).1]
@[simp] theorem pfEvent_ports (s : State) (c : Nat) (x : Option Nat) (a : Nat) : (s.pfEvent c x a).ports = s.ports := by
  rw [(Tells.pfEvent s c x a).1]
@[simp] theorem pfEvent_gptpRun (s : State) (c : Nat) (x : Option Nat) (a : Nat) : (s.pfEvent c x a).gptpRun = s.gptpRun := by
  rw [(Tells.pfEvent s c x a).1]
@[simp] theorem pfEvent_poseLast (s : State) (c : Nat) (x : Option Nat) (a : Nat) : (s.pfEvent c x a).poseLast = s.poseLast := by
  rw [(Tells.pfEvent s c x a).1]
@[simp] theorem pfEvent_jade (s : State) (c : Nat) (x : Option Nat) (a : Nat) : (s.pfEvent c x a).jade = s.jade := by
  rw [(Tells.pfEvent s c x a).1]
@[simp] theorem pfEvent_mem (s : State) (c : Nat) (x : Option Nat) (a : Nat) : (s.pfEvent c x a).mem = s.mem := by
  rw [(Tells.pfEvent s c x a).1]
@[simp] theorem pfEvent_poison (s : State) (c : Nat) (x : Option Nat) (a : Nat) : (s.pfEvent c x a).poison = s.poison := by
  rw [(Tells.pfEvent s c x a).1]
@[simp] theorem pfEvent_ceLines (s : State) (c : Nat) (x : Option Nat) (a : Nat) : (s.pfEvent c x a).ceLines = s.ceLines := by
  rw [(Tells.pfEvent s c x a).1]
@[simp] theorem pfEvent_ueLines (s : State) (c : Nat) (x : Option Nat) (a : Nat) : (s.pfEvent c x a).ueLines = s.ueLines := by
  rw [(Tells.pfEvent s c x a).1]
@[simp] theorem pfEvent_wbQueue (s : State) (c : Nat) (x : Option Nat) (a : Nat) : (s.pfEvent c x a).wbQueue = s.wbQueue := by
  rw [(Tells.pfEvent s c x a).1]
@[simp] theorem pfEvent_plog (s : State) (c : Nat) (x : Option Nat) (a : Nat) : (s.pfEvent c x a).plog = s.plog := by
  rw [(Tells.pfEvent s c x a).1]
@[simp] theorem pfEvent_retrainRun (s : State) (c : Nat) (x : Option Nat) (a : Nat) : (s.pfEvent c x a).retrainRun = s.retrainRun := by
  rw [(Tells.pfEvent s c x a).1]
@[simp] theorem pfEvent_retrainDue (s : State) (c : Nat) (x : Option Nat) (a : Nat) : (s.pfEvent c x a).retrainDue = s.retrainDue := by
  rw [(Tells.pfEvent s c x a).1]
@[simp] theorem pfEvent_scrubTold (s : State) (c : Nat) (x : Option Nat) (a : Nat) : (s.pfEvent c x a).scrubTold = s.scrubTold := by
  rw [(Tells.pfEvent s c x a).1]
@[simp] theorem pfEvent_searches (s : State) (c : Nat) (x : Option Nat) (a : Nat) : (s.pfEvent c x a).searches = s.searches := by
  rw [(Tells.pfEvent s c x a).1]
@[simp] theorem pfEvent_workList (s : State) (c : Nat) (x : Option Nat) (a : Nat) : (s.pfEvent c x a).workList = s.workList := by
  rw [(Tells.pfEvent s c x a).1]
@[simp] theorem pfEvent_facets (s : State) (c : Nat) (x : Option Nat) (a : Nat) : (s.pfEvent c x a).facets = s.facets := by
  rw [(Tells.pfEvent s c x a).1]
@[simp] theorem pfEvent_rlzRows (s : State) (c : Nat) (x : Option Nat) (a : Nat) : (s.pfEvent c x a).rlzRows = s.rlzRows := by
  rw [(Tells.pfEvent s c x a).1]
@[simp] theorem pfEvent_runs (s : State) (c : Nat) (x : Option Nat) (a : Nat) : (s.pfEvent c x a).runs = s.runs := by
  rw [(Tells.pfEvent s c x a).1]
@[simp] theorem pfEvent_steps (s : State) (c : Nat) (x : Option Nat) (a : Nat) : (s.pfEvent c x a).steps = s.steps := by
  rw [(Tells.pfEvent s c x a).1]
@[simp] theorem pfEvent_records (s : State) (c : Nat) (x : Option Nat) (a : Nat) : (s.pfEvent c x a).records = s.records := by
  rw [(Tells.pfEvent s c x a).1]
@[simp] theorem pfEvent_migTold (s : State) (c : Nat) (x : Option Nat) (a : Nat) : (s.pfEvent c x a).migTold = s.migTold := by
  rw [(Tells.pfEvent s c x a).1]
@[simp] theorem pfEvent_migs (s : State) (c : Nat) (x : Option Nat) (a : Nat) : (s.pfEvent c x a).migs = s.migs := by
  rw [(Tells.pfEvent s c x a).1]
@[simp] theorem pfEvent_lostSlots (s : State) (c : Nat) (x : Option Nat) (a : Nat) : (s.pfEvent c x a).lostSlots = s.lostSlots := by
  rw [(Tells.pfEvent s c x a).1]
@[simp] theorem pfEvent_hqs (s : State) (c : Nat) (x : Option Nat) (a : Nat) : (s.pfEvent c x a).hqs = s.hqs := by
  rw [(Tells.pfEvent s c x a).1]
@[simp] theorem pfEvent_expDropped (s : State) (c : Nat) (x : Option Nat) (a : Nat) : (s.pfEvent c x a).expDropped = s.expDropped := by
  rw [(Tells.pfEvent s c x a).1]
@[simp] theorem pfEvent_links (s : State) (c : Nat) (x : Option Nat) (a : Nat) : (s.pfEvent c x a).links = s.links := by
  rw [(Tells.pfEvent s c x a).1]
@[simp] theorem pfEvent_node (s : State) (c : Nat) (x : Option Nat) (a : Nat) : (s.pfEvent c x a).node = s.node := by
  rw [(Tells.pfEvent s c x a).1]
@[simp] theorem pfEvent_amber (s : State) (c : Nat) (x : Option Nat) (a : Nat) : (s.pfEvent c x a).amber = s.amber := by
  rw [(Tells.pfEvent s c x a).1]
@[simp] theorem pfEvent_arbs (s : State) (c : Nat) (x : Option Nat) (a : Nat) : (s.pfEvent c x a).arbs = s.arbs := by
  rw [(Tells.pfEvent s c x a).1]

end State

end Sys2Proof.Machine
end

