-- ==== Sys2Proof/Laws/Memory.lean ====
section
/-!
SUPPORT. Package memory: what a read finds after a write, what a write leaves alone, and that every operation
that writes memory keeps its canonical form.
-/
namespace Sys2Proof.Machine

/-! ## Bytes -/

theorem SMap.get?_filter_key {α : Type} (m : SMap α) (p : Nat → Bool) (k : Nat) :
    SMap.get? (m.filter fun c => p c.1 : SMap α) k = if p k then SMap.get? m k else none := by
  induction m with
  | nil => simp
  | cons e m ih =>
    obtain ⟨i, v⟩ := e
    by_cases h : p i
    · rw [List.filter_cons_of_pos (by simpa using h)]
      by_cases hk : i = k
      · subst hk; simp [SMap.get?, h]
      · simp [SMap.get?, hk, ih]
    · rw [List.filter_cons_of_neg (by simpa using h), ih]
      by_cases hk : i = k
      · subst hk; simp [h]
      · simp [SMap.get?, hk]

theorem within_iff (a b n : Nat) : within a b n = true ↔ b ≤ a ∧ a < b + n := by simp [within]

/-- After bytes are stored, an address within them reads its byte and every other reads as before. -/
theorem get_putBytes (m : SMap Byte) (a : Nat) (bs : Bytes) (k : Nat) :
    SMap.get (putBytes m a bs) k 0 = if a ≤ k ∧ k < a + bs.length then bs.getD (k - a) 0 else SMap.get m k 0 := by
  induction bs generalizing m a with
  | nil => rw [if_neg (by simp)]; rfl
  | cons b bs ih =>
    simp only [putBytes, ih, List.length_cons]
    by_cases h1 : a + 1 ≤ k ∧ k < a + 1 + bs.length
    · rw [if_pos h1, if_pos (by omega), show k - a = (k - (a + 1)) + 1 by omega]; simp
    · rw [if_neg h1]
      by_cases h2 : k = a
      · subst h2; simp
      · rw [if_neg (by omega), SMap.get_put_ne _ _ _ _ h2]

/-- After a range is made zero, it reads zero and every other address as before. -/
theorem get_zeroBytes (m : SMap Byte) (a n k : Nat) :
    SMap.get (zeroBytes m a n) k 0 = if a ≤ k ∧ k < a + n then 0 else SMap.get m k 0 := by
  unfold zeroBytes SMap.get
  rw [SMap.get?_filter_key m (fun i => !within i a n) k]
  by_cases h : a ≤ k ∧ k < a + n
  · rw [if_pos h, if_neg (by simp [(within_iff k a n).2 h])]; rfl
  · rw [if_neg h, if_pos]
    rw [← within_iff] at h
    simpa using h

theorem wf_putBytes (m : SMap Byte) (a : Nat) (bs : Bytes) (h : Memory.wf m) : Memory.wf (putBytes m a bs) := by
  induction bs generalizing m a with
  | nil => exact h
  | cons b bs ih => exact ih _ _ (SMap.wf_put 0 m a b h)

theorem wf_zeroBytes (m : SMap Byte) (a n : Nat) (h : Memory.wf m) : Memory.wf (zeroBytes m a n) :=
  SMap.wf_filter 0 m _ h

theorem wf_reindex (f : Nat → Nat) (m : SMap Byte) : Memory.wf (reindex f 0 m) := by
  have key : ∀ (l acc : SMap Byte), Memory.wf acc →
      Memory.wf (l.foldl (fun acc e => SMap.put acc (f e.1) e.2 0) acc) := by
    intro l
    induction l with
    | nil => exact fun _ h => h
    | cons e l ih => exact fun acc h => ih _ (SMap.wf_put 0 acc _ _ h)
  exact key m [] rfl

theorem wf_reset : Memory.wf State.reset.mem := rfl

namespace State

/-! ## Reads leave the bytes as they are -/

@[simp] theorem logPoison_mem (s : State) (l a b c : Nat) : (s.logPoison l a b c).mem = s.mem := by
  simp [logPoison]

@[simp] theorem checkThresh_mem (s : State) (c : Nat) : (s.checkThresh c).mem = s.mem := by
  unfold checkThresh; dsimp only; split <;> simp

@[simp] theorem countCe_mem (s : State) (c : Nat) : (s.countCe c).mem = s.mem := by
  unfold countCe; dsimp only; split <;> simp

@[simp] theorem queueWb_mem (s : State) (l : Nat) : (s.queueWb l).mem = s.mem := by
  unfold queueWb; dsimp only; split <;> rfl

@[simp] theorem corrected_mem (s : State) (k : ReadKind) (l : Nat) : (s.corrected k l).mem = s.mem := by
  unfold corrected; dsimp only; split
  · simp
  · split
    · rfl
    · split
      · split <;> simp
      · split <;> simp

@[simp] theorem stepRegs_mem (s : State) (t : Nat) : (s.stepRegs t).mem = s.mem := by simp [stepRegs]

@[simp] theorem closeStep_mem (s : State) (t : Nat) : (s.closeStep t).mem = s.mem := by simp [closeStep]

@[simp] theorem settleBusy_mem (s : State) (t : Nat) : (s.settleBusy t).mem = s.mem := by simp [settleBusy]

/-! Sending a frame changes no byte of memory. -/

@[simp] theorem putFrame_mem (s : State) (p q : Nat) (f : SpanFrame) : (s.putFrame p q f).mem = s.mem := by
  unfold putFrame; dsimp only; split <;> simp

@[simp] theorem pump_mem (s : State) (p n : Nat) : (s.pump p n).mem = s.mem := by
  induction n generalizing s with
  | zero => rfl
  | succ n ih =>
    unfold pump; dsimp only; split
    · rfl
    · split
      · rfl
      · split
        · rfl
        · simp [ih]

@[simp] theorem sendFrame_mem (s : State) (p : Nat) (f : SpanFrame) : (s.sendFrame p f).mem = s.mem := by
  simp [sendFrame]

@[simp] theorem sendTo_mem (s : State) (m q g : Nat) (b : FrameBody) : (s.sendTo m q g b).mem = s.mem := by
  unfold sendTo sendOn; split <;> simp

@[simp] theorem spreadFrom_mem (s old : State) (t : Nat) : (s.spreadFrom old t).mem = s.mem := by
  have key : ∀ (ms : List Nat) (b : FrameBody) (u : State), (ms.foldl (fun u m => u.sendTo m 0 0 b) u).mem = u.mem := by
    intro ms b
    induction ms with
    | nil => exact fun _ => rfl
    | cons m ms ih => intro u; rw [List.foldl_cons, ih, sendTo_mem]
  unfold spreadFrom; dsimp only; split
  · rfl
  · exact key _ _ _

@[simp] theorem discardStep_mem (s : State) (t u : Nat) : (s.discardStep t u).mem = s.mem := by
  unfold discardStep; dsimp only; split <;> simp

@[simp] theorem spoilStaging_mem (s : State) (c t : Nat) : (s.spoilStaging c t).mem = s.mem := by
  unfold spoilStaging; split
  · simp
  · split <;> simp

@[simp] theorem wantSearch_mem (s : State) (k : ReadKind) (l c : Nat) : (s.wantSearch k l c).mem = s.mem := by
  unfold wantSearch; split <;> rfl

@[simp] theorem markPoison_mem (s : State) (l : Nat) : (s.markPoison l).mem = s.mem := rfl
@[simp] theorem freshLine_mem (s : State) (l : Nat) : (s.freshLine l).mem = s.mem := rfl

@[simp] theorem uncorrected_mem (s : State) (k : ReadKind) (l : Nat) : (s.uncorrected k l).mem = s.mem := by
  unfold uncorrected; dsimp only; split
  · simp
  · simp only [spoilStaging_mem, wantSearch_mem, event_mem]
    split <;> simp

@[simp] theorem touch_mem (s : State) (k : ReadKind) (l : Nat) : (s.touch k l).mem = s.mem := by
  unfold touch; split
  · rfl
  · split
    · simp
    · split <;> simp

theorem touchList_mem (k : ReadKind) (ls : List Nat) (s : State) :
    (ls.foldl (fun t l => t.touch k l) s).mem = s.mem := by
  induction ls generalizing s with
  | nil => rfl
  | cons l ls ih => simp [ih]

/-- A read of memory changes no byte of it. -/
@[simp] theorem touchAll_mem (s : State) (a n : Nat) : (s.touchAll a n).mem = s.mem := touchList_mem _ _ _

@[simp] theorem read_mem (s : State) (a n : Nat) : (s.read a n).2.2.mem = s.mem := touchAll_mem s a n

/-- A read gives the bytes as they stand. -/
theorem read_bytes (s : State) (a n : Nat) : (s.read a n).1 = s.peek a n := by
  simp [read, peek, byteAt]

/-! ## Writes -/

/-- A write within one line leaves every byte outside that line as it is, and, unless it rewrites a poisoned
line, every byte outside the bytes written. -/
theorem writeLine_frame (s : State) (w : WriteKind) (a : Nat) (data : Bytes) (k : Nat)
    (h : k < a ∨ a + data.length ≤ k) (hw : w = .plain ∨ k / 64 ≠ a / 64) :
    (s.writeLine w a data).1.byteAt k = s.byteAt k := by
  have put (m : SMap Byte) : SMap.get (putBytes m a data) k 0 = SMap.get m k 0 := by
    rw [get_putBytes, if_neg (by omega)]
  unfold writeLine
  dsimp only
  split
  · split <;> simp [byteAt]
  · split
    · exact put s.mem
    · split
      · cases w with
        | plain => simp [byteAt]
        | rewrite =>
          simp only [byteAt, put, get_zeroBytes, touch_mem]
          rw [if_neg]
          rcases hw with hw | hw
          · cases hw
          · omega
      · simp only [byteAt, freshLine_mem, touch_mem]; exact put s.mem

theorem wf_writeLine (s : State) (w : WriteKind) (a : Nat) (data : Bytes) (h : Memory.wf s.mem) :
    Memory.wf (s.writeLine w a data).1.mem := by
  unfold writeLine
  dsimp only
  split
  · split <;> simpa using h
  · split
    · exact wf_putBytes _ _ _ h
    · split
      · cases w with
        | plain => simpa using h
        | rewrite => exact wf_putBytes _ _ _ (wf_zeroBytes _ _ _ (by simpa using h))
      · exact wf_putBytes _ _ _ (by simpa using h)

/-- Every write keeps memory in its canonical form. -/
theorem wf_writeAs (s : State) (w : WriteKind) (a : Nat) (data : Bytes) (h : Memory.wf s.mem) :
    Memory.wf (s.writeAs w a data).1.mem := by
  unfold writeAs
  have key : ∀ (ls : List Nat) (r : State × Bool), Memory.wf r.1.mem →
      Memory.wf (ls.foldl (fun r l =>
        let p := linePart a data l
        let t := r.1.writeLine w p.1 p.2
        (t.1, r.2 || t.2)) r).1.mem := by
    intro ls
    induction ls with
    | nil => exact fun _ h => h
    | cons l ls ih => exact fun r hr => ih _ (wf_writeLine _ _ _ _ hr)
  exact key _ _ h

theorem wf_write (s : State) (a : Nat) (data : Bytes) (h : Memory.wf s.mem) : Memory.wf (s.write a data).1.mem :=
  wf_writeAs s .plain a data h

theorem wf_writeOver (s : State) (a : Nat) (data : Bytes) (h : Memory.wf s.mem) :
    Memory.wf (s.writeOver a data).mem := wf_writeAs s .rewrite a data h

theorem wf_zeroRange (s : State) (a n : Nat) (h : Memory.wf s.mem) : Memory.wf (s.zeroRange a n).mem :=
  wf_zeroBytes _ _ _ h

theorem wf_coldRow (s : State) (a : Nat) (h : Memory.wf s.mem) : Memory.wf (s.coldRow a).mem :=
  wf_putBytes _ _ _ h

theorem wf_renumber (s : State) (b : Nat) (h : Memory.wf s.mem) : Memory.wf (s.renumber b).mem := by
  unfold renumber; dsimp only; split
  · exact h
  · exact wf_reindex _ _

@[simp] theorem traceEnds_mem (s : State) : s.traceEnds.mem = s.mem := by
  unfold traceEnds; split <;> rfl

theorem wf_moduleReset (s : State) (c : Nat) (h : Memory.wf s.mem) : Memory.wf (s.moduleReset c).mem := by
  unfold moduleReset
  simp only [setReg_mem]
  split
  · exact SMap.wf_filter 0 _ _ (wf_renumber _ 0 (by simpa using h))
  · rfl

/-- The bytes of a run that fall in one line lie within the run and within the line. -/
theorem linePart_bounds (a : Nat) (data : Bytes) (l : Nat) (h : l ∈ linesOf a data.length) :
    a ≤ (linePart a data l).1 ∧ (linePart a data l).1 / 64 = l ∧
    (linePart a data l).1 + (linePart a data l).2.length ≤ a + data.length ∧
    (linePart a data l).1 + (linePart a data l).2.length ≤ 64 * l + 64 := by
  unfold linesOf at h
  split at h
  · simp at h
  · obtain ⟨i, hi, rfl⟩ := List.mem_map.1 h
    rw [List.mem_range] at hi
    simp only [linePart, List.length_take, List.length_drop]
    refine ⟨by omega, by omega, by omega, by omega⟩

/-- A write of a run of bytes leaves every byte outside the run as it is, if no poisoned line is rewritten. -/
theorem writeAs_frame (s : State) (a : Nat) (data : Bytes) (k : Nat) (h : k < a ∨ a + data.length ≤ k) :
    (s.writeAs .plain a data).1.byteAt k = s.byteAt k := by
  unfold writeAs
  have key : ∀ (ls : List Nat) (r : State × Bool), (∀ l ∈ ls, l ∈ linesOf a data.length) →
      (ls.foldl (fun r l =>
        let p := linePart a data l
        let t := r.1.writeLine .plain p.1 p.2
        (t.1, r.2 || t.2)) r).1.byteAt k = r.1.byteAt k := by
    intro ls
    induction ls with
    | nil => exact fun _ _ => rfl
    | cons l ls ih =>
      intro r hl
      have b := linePart_bounds a data l (hl l List.mem_cons_self)
      rw [List.foldl_cons, ih _ fun x hx => hl x (List.mem_cons_of_mem _ hx)]
      exact writeLine_frame _ _ _ _ _ (by omega) (.inl rfl)
  exact key _ _ fun _ h => h

theorem write_frame (s : State) (a : Nat) (data : Bytes) (k : Nat) (h : k < a ∨ a + data.length ≤ k) :
    (s.write a data).1.byteAt k = s.byteAt k := writeAs_frame s a data k h

theorem zeroRange_byteAt (s : State) (a n k : Nat) :
    (s.zeroRange a n).byteAt k = if a ≤ k ∧ k < a + n then 0 else s.byteAt k := get_zeroBytes _ _ _ _

end State

end Sys2Proof.Machine
end

