-- ==== Sys2Proof/Laws/Queue.lean ====
section
/-!
SUPPORT. What a command answers, as to the queue of commands and to stops.
-/
namespace Sys2Proof.Machine
open Host (Outcome)

/-- An outcome that leaves the queue `q` as it is, if it is a next state. -/
def KeepsQueue (q : List Instr) (o : Outcome State Fault Refusal) : Prop := ∀ t, o = .next t → t.pending = q

theorem keeps_self (s : State) : KeepsQueue s.pending (.next s) := by
  intro t h; cases h; rfl

theorem keeps_answer (s t : State) : KeepsQueue s.pending (answer s t) := by
  intro u h; cases h; rfl

theorem keeps_fault (q : List Instr) (f : Fault) : KeepsQueue q (.fault f) := by
  intro t h; cases h

theorem keeps_stepIf (g : Bool) (s t : State) : KeepsQueue s.pending (stepIf g t s) := by
  unfold stepIf; split
  · exact keeps_answer s t
  · exact keeps_self s

theorem keeps_unitStep (i n : Nat) (g : Bool) (s t : State) : KeepsQueue s.pending (unitStep i n g t s) := by
  unfold unitStep; split
  · exact keeps_stepIf g s t
  · exact keeps_fault _ _

end Sys2Proof.Machine
end

