-- ==== Sys2Proof/Laws/Sound.lean ====
section
/-!
SUPPORT. Memory that is sound (`State.sound`): a read gives the bytes as they stand and changes nothing; a write
stores its bytes, meets no poison, and leaves memory sound.
-/
namespace Sys2Proof.Machine
namespace State

variable {s : State}

theorem sound_isPoison (h : s.sound) (l : Nat) : s.isPoison l = false := by simp [isPoison, h.1, SMap.get, SMap.get?]

theorem sound_lineFailed (h : s.sound) (l : Nat) : s.lineFailed l = false := by simp [lineFailed, h.2.2.2 (channelOf l) (Nat.mod_lt _ (by decide))]

/-- A read reaches no error. -/
theorem touch_sound (h : s.sound) (k : ReadKind) (l : Nat) : s.touch k l = s := by
  unfold touch
  simp [sound_isPoison h, sound_lineFailed h, h.2.1, h.2.2.1, SMap.get, SMap.get?]

theorem touchList_sound (h : s.sound) (k : ReadKind) (ls : List Nat) : ls.foldl (fun t l => t.touch k l) s = s := by
  induction ls with
  | nil => rfl
  | cons l ls ih => simp [touch_sound h, ih]

theorem touchAll_sound (h : s.sound) (a n : Nat) : s.touchAll a n = s := touchList_sound h _ _

theorem read_sound (h : s.sound) (a n : Nat) : s.read a n = (s.peek a n, false, s) := by
  simp [read, touchAll_sound h, poisonIn, sound_isPoison h]

/-- An operator's read. -/
theorem rd_sound {m : Mx} (h : m.s.sound) (a n : Nat) : m.rd a n = (m.s.peek a n, m) := by
  simp [Mx.rd, read_sound h]

theorem plant_nil (s : State) : s.plant [] = s := rfl

/-- What a write within one line does. -/
theorem writeLine_sound (h : s.sound) (w : WriteKind) (a : Nat) (data : Bytes) :
    s.writeLine w a data =
      ({ s with mem := putBytes s.mem a data,
                wbQueue := (s.freshLine (a / 64)).wbQueue }, false) := by
  have f : s.freshLine (a / 64) = { s with wbQueue := (s.freshLine (a / 64)).wbQueue } := by
    simp [freshLine, h.1, h.2.1, h.2.2.1, SMap.put, SMap.del]
  unfold writeLine
  simp only [sound_lineFailed h, touch_sound h, sound_isPoison h, Bool.false_eq_true, if_false]
  split <;> rw [f]

/-- Memory written within sound memory is sound. -/
theorem sound_of_mem (h : s.sound) (m : SMap Byte) (wb : SMap (List Nat)) :
    ({ s with mem := m, wbQueue := wb } : State).sound := h

/-- A byte of a run that falls in line `l` is the run's byte there. -/
theorem linePart_getD (a : Nat) (data : Bytes) (l k : Nat)
    (hk : (linePart a data l).1 ≤ k ∧ k < (linePart a data l).1 + (linePart a data l).2.length) :
    (linePart a data l).2.getD (k - (linePart a data l).1) 0 = data.getD (k - a) 0 := by
  simp only [linePart, List.length_take, List.length_drop] at hk ⊢
  rw [List.getD_eq_getElem?_getD, List.getD_eq_getElem?_getD, List.getElem?_take, if_pos (by omega), List.getElem?_drop]
  congr 2; omega

theorem linePart_mem (a : Nat) (data : Bytes) (l k : Nat) :
    ((linePart a data l).1 ≤ k ∧ k < (linePart a data l).1 + (linePart a data l).2.length) ↔
      k / 64 = l ∧ a ≤ k ∧ k < a + data.length := by
  simp only [linePart, List.length_take, List.length_drop]
  omega

/-- A write: the bytes it stores, no poison met, and of the rest only write-backs that it makes needless. -/
theorem writeAs_sound (h : s.sound) (w : WriteKind) (a : Nat) (data : Bytes) :
    ∃ m wb, s.writeAs w a data = ({ s with mem := m, wbQueue := wb }, false) ∧
      ∀ k, SMap.get m k 0 = if a ≤ k ∧ k < a + data.length then data.getD (k - a) 0 else s.byteAt k := by
  have key : ∀ (ls : List Nat) (t : State), t.sound → ∃ m wb, ls.foldl (fun r l =>
        let p := linePart a data l
        let t := r.1.writeLine w p.1 p.2
        (t.1, r.2 || t.2)) (t, false) = ({ t with mem := m, wbQueue := wb }, false) ∧
      ∀ k, SMap.get m k 0 = if k / 64 ∈ ls ∧ a ≤ k ∧ k < a + data.length then data.getD (k - a) 0 else t.byteAt k := by
    intro ls
    induction ls with
    | nil => intro t _; exact ⟨t.mem, t.wbQueue, rfl, fun k => by simp [byteAt]⟩
    | cons l ls ih =>
      intro t ht
      rw [List.foldl_cons]
      simp only [writeLine_sound ht, Bool.or_false]
      obtain ⟨m, wb, e, hm⟩ := ih _ (sound_of_mem ht (putBytes t.mem (linePart a data l).1 (linePart a data l).2)
        (t.freshLine ((linePart a data l).1 / 64)).wbQueue)
      refine ⟨m, wb, e, fun k => ?_⟩
      rw [hm k]
      by_cases hk : k / 64 ∈ ls ∧ a ≤ k ∧ k < a + data.length
      · rw [if_pos hk, if_pos ⟨List.mem_cons_of_mem _ hk.1, hk.2⟩]
      · rw [if_neg hk]
        simp only [byteAt]
        rw [get_putBytes]
        by_cases hl : k / 64 = l ∧ a ≤ k ∧ k < a + data.length
        · rw [if_pos ((linePart_mem a data l k).2 hl), if_pos ⟨by simp [hl.1], hl.2⟩]
          exact linePart_getD a data l k ((linePart_mem a data l k).2 hl)
        · rw [if_neg fun x => hl ((linePart_mem a data l k).1 x), if_neg]
          rintro ⟨h1, h2⟩
          rcases List.mem_cons.1 h1 with h1 | h1
          · exact hl ⟨h1, h2⟩
          · exact hk ⟨h1, h2⟩
  obtain ⟨m, wb, e, hm⟩ := key (linesOf a data.length) s h
  refine ⟨m, wb, e, fun k => ?_⟩
  rw [hm k]
  by_cases hk : a ≤ k ∧ k < a + data.length
  · rw [if_pos hk, if_pos]
    refine ⟨?_, hk⟩
    unfold linesOf
    rw [if_neg (by omega)]
    exact List.mem_map.2 ⟨k / 64 - a / 64, List.mem_range.2 (by omega), by omega⟩
  · rw [if_neg hk, if_neg fun x => hk x.2]

/-- An operator's write. -/
theorem wr_sound {m : Mx} (h : m.s.sound) (a : Nat) (data : Bytes) :
    ∃ p wb, m.wr a data = ⟨{ m.s with mem := p, wbQueue := wb }, m.bad⟩ ∧
      ∀ k, SMap.get p k 0 = if a ≤ k ∧ k < a + data.length then data.getD (k - a) 0 else m.s.byteAt k := by
  obtain ⟨p, wb, e, hp⟩ := writeAs_sound h .plain a data
  exact ⟨p, wb, by simp [Mx.wr, write, e], hp⟩

end State
end Sys2Proof.Machine
end

