-- ==== Sys2Proof/Tests/Slice0.lean ====
section
/-!
SUPPORT. Small checks of this model: ill-formed commands, examples of the spec worked through one step at a time, and for each
statement a state and operands that meet its hypotheses (`witness_…`, clause by clause).
-/
namespace Sys2Proof.Tests
open Sys2Proof Sys2Proof.Machine
open Host (Outcome)

set_option Elab.async false

/-! ## Small states -/

/-- A state with register fields set: (field, displacement, value). -/
def regsSet (l : List (Fld × Nat × Nat)) (s : State) : State := l.foldl (fun t x => t.setReg x.1 x.2.1 x.2.2) s

/-- Started, at stage 0xF, with the host link up and VFs enabled. -/
def up (l : List (Fld × Nat × Nat)) : State :=
  regsSet ((GBL_BOOT_STATUS.STAGE, 0, 0xF) :: l) { State.reset with pcie := ⟨true, true, 0, true, false⟩ }

/-- In stage `k` of a cold start. -/
def stageAt (k : Nat) : State := regsSet [(GBL_BOOT_STATUS.STAGE, 0, k)] State.reset

/-- No power. -/
def dark : State := { State.reset with power := ⟨false, false, false, true, .none, false, false, [0, 0, 0]⟩ }

/-- A submission entry: opcode, no fences, and fields (offset, bytes, value). -/
def entry (op : Nat) (l : List (Nat × Nat × Nat)) : Bytes :=
  ((0, 2, op) :: (8, 2, 0xFFFF) :: (10, 2, 0xFFFF) :: l).foldl
    (fun b x => b.take x.1 ++ leBytes x.2.1 x.2.2 ++ b.drop (x.1 + x.2.1)) (List.replicate 64 0)

/-- An operation of instance 0 on one entry. -/
def opOf (b : Bytes) (ph : OpPhase := .started) : Op := ⟨0, 0, [parseSqe b], 0, 0, ph, 0, 0, 0, false, false, none, false, 0, []⟩

/-- A state with that operation under tag 5. -/
def busy (b : Bytes) (s : State) (ph : OpPhase := .started) : State := { s with ops := [(5, opOf b ph)] }

/-- Nothing from outside. -/
def io0 : OpIo := ⟨[], true, [], []⟩

/-- The outcome is a next state with this property. -/
def nextIs (o : Outcome State Fault Refusal) (p : State → Bool) : Bool := match o with
  | .next t => p t
  | _ => false

/-- A domain in one state. -/
def domOf (s : State) (n : Nat) (st : DState) (ph : PdPhase) : State := s.setDom n { s.dom n with st := st, phase := ph }

/-- `Runs` of the operation that `busy` places. -/
theorem runs_busy (b : Bytes) (s : State) (code : Nat) (h : s.running = true) (c : (parseSqe b).opcode = code)
    (m : (busy b s).ovrBad (parseSqe b) = false) (w : s.memWaits = false := by decide +kernel) :
    Runs (busy b s) 5 code (opOf b) (parseSqe b) :=
  ⟨h, rfl, rfl, rfl, rfl, c, by simp [State.ovrRefused, m], by
    have : (busy b s).memWaits = s.memWaits := rfl
    simp [this, w]⟩

/-! ## Commands that name no unit of the part -/

theorem test_illFormed_instance : (Instr.registerWrite 20 0 0 []).wf = false := by decide
theorem test_illFormed_requester : (Instr.lowWordRead 20 ⟨0, 0, 4, 0⟩).wf = false := by decide
theorem test_illFormed_core : (Instr.coreFault 4).wf = false := by decide
theorem test_illFormed_domain : (Instr.domainIdle 244).wf = false := by decide
theorem test_illFormed_floor : (Instr.floorWrite 0 4).wf = false := by decide
theorem test_illFormed_segment : (Instr.packetArrival 0 203 ⟨0, none⟩).wf = false ∧
    (Instr.packetArrival 0 220 ⟨0, none⟩).wf = false := by decide
theorem test_illFormed_sensorPort : (Instr.portSilent 10).wf = false := by decide
theorem test_illFormed_podlPort : (Instr.podlFault 8).wf = false := by decide
theorem test_illFormed_priority : (Instr.grantRequest .debug 8).wf = false := by decide
theorem test_illFormed_item : (Instr.grantRequest (.facet 64) 0).wf = false ∧ (Instr.grantRequest (.core 0) 0).wf = false := by decide
theorem test_illFormed_channel : (Instr.ceWriteback 8).wf = false := by decide
theorem test_illFormed_output : (Instr.stopOvercurrent 2).wf = false := by decide
theorem test_illFormed_spanPort : (Instr.spanRetrain 4).wf = false := by decide
theorem test_illFormed_ring : (Instr.eventsLost 16).wf = false := by decide
theorem test_illFormed_queuePair : (Instr.qpEnable 64).wf = false ∧ (Instr.qpPrioWrite 0 8).wf = false := by decide
theorem test_illFormed_window : (Instr.instKick 0 16 0).wf = false ∧ (Instr.instanceResetWrite 16 0).wf = false := by decide
theorem test_illFormed_vector : (Instr.msixUnmask 0 128).wf = false ∧ (Instr.msixUnmask 1 8).wf = false := by decide
theorem test_illFormed_function : (Instr.modeStagedApply 13).wf = false := by decide
theorem test_illFormed_mailbox : (Instr.jspGo 0 32).wf = false ∧ (Instr.jspDataWrite 0 0 16 0).wf = false := by decide
theorem test_illFormed_master : (Instr.jspGo 0x14 0).wf = false := by decide
theorem test_illFormed_hashTable : (Instr.brlTableEnable 32).wf = false := by decide
theorem test_illFormed_facet : (Instr.tileComplete 64 io0).wf = false := by decide
theorem test_illFormed_hardwareQueue : (Instr.hqPop 4 0).wf = false := by decide
theorem test_illFormed_module : (Instr.memberLost 4).wf = false := by decide
theorem test_illFormed_arbiter : (Instr.arbiterGrant (.segment 203) ⟨[], [], 0⟩).wf = false ∧
    (Instr.arbiterGrant .workList ⟨[⟨0, .qp 64, 0, false⟩], [], 0⟩).wf = false := by decide
theorem test_illFormed_faults : exec (.eventsLost 16) State.reset = .fault .noSuchUnit := rfl


/-! ## Witnesses: power, resets, start-up -/

theorem witness_PowerSupply : State.reset.power.on = true ∧ dark.power.on = false ∧
    (dark.power.closed = true ∧ dark.power.hold = .none ∧ dark.power.charged = false ∧ dark.power.qualified = false) ∧
    (let s : State := { dark with power := { dark.power with qualified := true } }
     s.power.on = false ∧ s.power.charged = false ∧ s.power.qualified = true) ∧
    (let s : State := { dark with power := { dark.power with charged := true } }
     s.power.on = false ∧ s.power.hold = .none ∧ s.power.charged = true) ∧
    ({ dark with power := { dark.power with closed := false } } : State).power.closed = false ∧
    ({ dark with power := { dark.power with hold := .sec1 } } : State).power.hold ≠ .none ∧
    ({ dark with power := { dark.power with hold := .ms10 } } : State).power.hold ≠ .none := by decide

/-- The module draws more than it is charged for, `n` comparisons after the last that did not. -/
def drawing (n : Nat) (told : Bool) : State :=
  let s := up [(GBL_INPUT.PIN_DW, 0, 5000)]
  { s with topaz := { s.topaz with drawRun := n, drawTold := told } }

theorem witness_ThermalAndSupply : 2 ≤ (up []).reg GBL_BOOT_STATUS.STAGE ∧ (1200 : Int) ≤ max (max 1200 0) (max 0 0) ∧
    (max (max 1199 0) (max 0 0) : Int) < 1200 ∧ (up []).reg GBL_THERMAL.STEP < thermalStep 1199 ∧
    thermalStep 0 ≤ (up []).reg GBL_THERMAL.STEP ∧ (stageAt 1).reg GBL_BOOT_STATUS.STAGE < 2 ∧
    ({ stageAt 1 with power := { State.reset.power with awake := true } } : State).power.awake = true ∧
    (up []).alertLow = false ∧ (up [(GBL_PWR_EVENTS.PODL, 0, 1)]).alertLow = true ∧
    (∀ k ∈ [1, 3], let s := { up [(GBL_THERMAL.STEP, 0, k)] with power := ⟨true, true, true, true, .none, false, false, [9, 9, 1]⟩ }
      s.reg GBL_THERMAL.STEP = k ∧ s.power.cool.getD (k - 1) 0 ≠ 0) ∧
    (let s := drawing 9 false
     s.charged * 1375 < s.reg GBL_INPUT.PIN_DW * 1000 ∧ 10 ≤ s.topaz.drawRun + 1 ∧ s.topaz.drawTold = false) ∧
    (let s := drawing 8 false; s.charged * 1375 < s.reg GBL_INPUT.PIN_DW * 1000 ∧ s.topaz.drawRun + 1 < 10) ∧
    (drawing 10 true).topaz.drawTold = true ∧
    ¬(let s := up []; s.charged * 1375 < s.reg GBL_INPUT.PIN_DW * 1000) ∧
    dark.power.on = false := by and_intros <;> decide +kernel

theorem witness_ModuleResets : (up []).starting = false ∧ 0xA5C30002 / 2 ^ 16 % 2 ^ 16 = 0xA5C3 ∧ bit 0xA5C30002 1 = true ∧
    (up []).power.on = true ∧ (stageAt 4).starting = true ∧
    ({ stageAt 4 with boot := { (stageAt 4).boot with warm := true } } : State).boot.warm = true ∧
    (let s : State := { up [] with boot := { (up []).boot with memInit := true } }
     (s.boot.memInit && !s.regB GBL_RESET_CTRL.CLEAR_ON_MRESET) = true ∧ s.self = 0) ∧
    (let s : State := { up [(GBL_RESET_CTRL.CLEAR_ON_MRESET, 0, 1)] with boot := { (up []).boot with memInit := true } }
     (s.boot.memInit && !s.regB GBL_RESET_CTRL.CLEAR_ON_MRESET) = false) ∧
    (up []).ready = true ∧ bit 0xA5C30001 0 = true ∧ bit 0xA5C30001 1 = false ∧
    (up []).regB GBL_RESET_CTRL.WDOG_EN = true ∧
    (∀ r ∈ [true, false], let s : State := { up [] with boot := { (up []).boot with quiesce := true, warm := true, recover := r } }
      s.power.on = true ∧ s.boot.quiesce = true ∧ s.boot.recover = r) := by and_intros <;> decide +kernel

def image (sig : Bool) : ImageInfo := ⟨true, 1, 1, 1, 100, true, false, sig⟩
/-- A report of two images and of the channels that failed training. -/
def report (fail : List Nat) : StageReport := ⟨image true, image false, fail⟩

theorem witness_StartUp : (∀ k ∈ [1, 2, 3, 4, 5, 6, 7, 8], (stageAt k).reg GBL_BOOT_STATUS.STAGE = k ∧ (stageAt k).power.on = true ∧
      (stageAt k).boot.quiesce = false ∧ (stageAt k).boot.warm = false ∧ (stageAt k).boot.skipInit = false ∧
      (stageAt k).reg GBL_BOOT_STATUS.SLOT ≤ 1) ∧
    (stageAt 3).boot.firstSlot = none ∧ (stageAt 2).pcie.perst = false ∧
    (let s : State := { stageAt 2 with pcie := ⟨true, false, 0, false, false⟩ }
     s.reg GBL_BOOT_STATUS.STAGE = 2 ∧ s.pcie.perst = true) ∧
    (∀ r ∈ (stageAt 5).boot.rejected, r.1 ≠ 1 - (stageAt 5).reg GBL_BOOT_STATUS.SLOT) ∧
    (let s : State := { stageAt 5 with boot := { (stageAt 5).boot with rejected := [(1, 3)] } }
     s.reg GBL_BOOT_STATUS.STAGE = 5 ∧ ∃ r ∈ s.boot.rejected, r.1 = 1 - s.reg GBL_BOOT_STATUS.SLOT) ∧
    (report [7]).trainFail = 7 :: [] ∧ (report []).trainFail = [] ∧
    (stageAt 8).steps = [] ∧ (stageAt 8).migs = [] ∧ (stageAt 8).settleTables.boot.warm = false ∧
    ((stageAt 1).boot.overrun = false ∧ (stageAt 1).reg GBL_BOOT_STATUS.STAGE ≠ 0xF) ∧
    (let s : State := { stageAt 8 with boot := { (stageAt 8).boot with overrun := true } }
     s.boot.overrun = true ∧ s.reg GBL_BOOT_STATUS.STAGE ≠ 0xF) ∧
    (let s : State := { stageAt 4 with boot := { (stageAt 4).boot with warm := true } }
     s.boot.warm = true ∧ s.reg GBL_BOOT_STATUS.STAGE = 4 ∧ s.boot.overrun = false) := by and_intros <;> decide +kernel

theorem witness_StartUp_image : imageFault { image true with svn := (stageAt 5).minSvn } (stageAt 5).minSvn = none ∧
    imageFault { image false with svn := (stageAt 5).minSvn } (stageAt 5).minSvn = some 3 := by
  simp [imageFault, image]

theorem witness_HostLink : dark.power.on = false ∧ State.reset.power.on = true ∧ (up []).pcie.up = true ∧
    (up []).pcie.perst = true ∧ (up []).pcie.vfEnable = true ∧ (up []).pcie.setup = false ∧
    (up []).reg GBL_BOOT_STATUS.STAGE = 0xF ∧ (up []).regB GBL_BOOT_STATUS.RECOVERY = false ∧
    (let s : State := { stageAt 4 with pcie := ⟨true, true, 0, false, false⟩ }
     s.pcie.up = true ∧ s.reg GBL_BOOT_STATUS.STAGE ≠ 0xF ∧ s.boot.warm = false) ∧
    (let s : State := { stageAt 4 with pcie := ⟨true, true, 0, false, false⟩, boot := { State.reset.boot with warm := true } }
     s.pcie.up = true ∧ s.boot.warm = true) ∧
    (stageAt 2).reg GBL_BOOT_STATUS.STAGE < 3 ∧ (stageAt 2).pcie.perst = false ∧ (stageAt 2).boot.warm = false ∧
    3 ≤ (stageAt 3).reg GBL_BOOT_STATUS.STAGE ∧ (stageAt 3).pcie.perst = false ∧
    (up [(QTZ_STATUS.DEPTH, 0, 1)]).mayEnter 1 = true ∧ (up [(QTZ_STATUS.DEPTH, 0, 2)]).mayEnter 3 = true ∧
    ({ up [] with pcie := ⟨true, true, 1, true, false⟩ } : State).pcie.aspm ≠ 0 := by and_intros <;> decide +kernel

theorem witness_InstanceResets : (up []).regB INST_STATUS.RESET_BUSY (winD 3) = false ∧ (up []).ready = true ∧
    (up []).linked 3 = true ∧ (up []).running = true ∧ (up []).linked 0 = true ∧ (up []).linked 15 = true ∧
    (up []).pcie.vfEnable = true ∧ (up []).pcie.perst = true ∧
    (up [(INST_STATUS.RESET_BUSY, winD 3, 1)]).regB INST_STATUS.RESET_BUSY (winD 3) = true ∧
    (up [(INST_STATUS.RESET_BUSY, winD 3, 1)]).remoteLeft 3 = false := by and_intros <;> decide +kernel

/-- An operation that runs, on which nothing must first be brought to its end. -/
theorem witness_InstanceResets_letGo : (busy (entry 3 []) (up [])).op? 5 = some (opOf (entry 3 [])) ∧
    (opOf (entry 3 [])).inst = 0 ∧ ∀ v : State, v.letGo (opOf (entry 3 [])) = v :=
  ⟨by decide +kernel, by decide +kernel, fun v => by simp [State.letGo, opOf, Op.sqe?]⟩

theorem witness_Debug : (up []).ready = true ∧ (up []).debugOk 1 = false ∧ (up []).power.on = true ∧
    (up []).reg LPS_STATUS.DBG_LEVEL = 0 ∧
    ∀ k ∈ [1, 2, 3], (up [(LPS_STATUS.DBG_LEVEL, 0, k)]).ready = true ∧
      (up [(LPS_STATUS.DBG_LEVEL, 0, k)]).reg LPS_STATUS.DBG_LEVEL = k := by and_intros <;> decide +kernel

theorem witness_Time : (up []).power.on = true ∧ (up []).quartz.stepPend = 0 ∧
    ({ up [] with quartz := ⟨0, 0, 0, 5, 0⟩ } : State).quartz.stepPend ≠ 0 ∧ (up []).running = true := by and_intros <;> decide +kernel
/-! ## Witnesses: domains, the budget, the guard -/

/-- Domain 110 in one state and phase. -/
def dm (st : DState) (ph : PdPhase) : State := domOf (up []) 110 st ph
/-- Domain 110 off, with a wake under way. -/
def wk (a : Nat) (to_ : DState) : State := (up []).setDom 110 { (up []).dom 110 with st := .off, attempt := a, wakeTo := to_, wakePend := true }

/-- Domain `n` changed. -/
def chg (s : State) (n : Nat) (f : Domain → Domain) : State := s.setDom n (f (s.dom n))

theorem witness_DomainGoesDown : (up []).power.on = true ∧
    (let s := dm .on .none; (s.dom 110).st = .on ∧ s.computes 110 = false ∧ (s.effFloor 110).code < 3 ∧ s.peridotMay 110 1 = true ∧
      s.charged ≤ s.budget) ∧
    (let s := domOf (up [(QTZ_STATUS.DEPTH, 0, 1)]) 235 .on .none; s.peridotMay 235 1 = true ∧ (s.effFloor 235).code < 3) ∧
    (let s := domOf (up [(TPZ_CAP.CAP, 0, 1)]) 110 .on .none
     s.computes 110 = false ∧ s.budget < s.charged ∧ (s.effFloor 110).code < 3) ∧
    (let s := dm .idle .none; (s.dom 110).parked = [] ∧ (s.effFloor 110).code < 2 ∧ (s.dom 110).holdoff ≤ s.ticks ∧
      s.heldFacet 110 = false ∧ s.peridotMay 110 2 = true ∧ s.effFloor 110 = .off) ∧
    (let s := domOf (up [(QTZ_DOM.RETAIN_HOLD, domD 110, 0)]) 110 .idle .none
     s.effFloor 110 = .off ∧ s.reg QTZ_DOM.RETAIN_HOLD (domD 110) = 0 ∧ (s.dom 110).holdoff ≤ s.ticks) ∧
    (let s := dm .retain .none; s.effFloor 110 = .off ∧ (s.dom 110).retainHold ≠ 0xFF ∧ (s.dom 110).wakePend = false ∧
      (s.dom 110).parked = [] ∧ (s.dom 110).holdoff ≤ s.ticks) ∧
    ((dm .on .drain).dom 110).phase = .drain ∧
    (let s := chg (dm .retain .drain) 110 fun d => { d with fromRetain := true }
     (s.dom 110).phase = .drain ∧ (s.dom 110).fromRetain = true) ∧
    (∀ to_ ∈ [DState.off, .retain], ∀ w ∈ [true, false],
      let s := chg (dm .on .rails) 110 fun d => { d with target := to_, wakePend := w }
      (s.dom 110).phase = .rails ∧ (s.dom 110).target = to_ ∧ (s.dom 110).wakePend = w) := by and_intros <;> decide +kernel

theorem witness_Wakes : itemOf 239 = none ∧ itemOf 110 ≠ none ∧
    0 < ((chg (up []) 2 fun d => { d with holds := [.on] }).dom 2).holds.length ∧
    (let s := domOf (up []) 239 .off .none; s.wakeAllowed 239 .hint = true ∧ (s.dom 239).attempt = 0 ∧
      (s.dom 239).grantWait = false ∧ (s.dom 239).phase = .none ∧ (s.dom 239).failed = false) ∧
    (let s := domOf (up []) 110 .retain .none; s.wakeAllowed 110 .hint = true ∧ (s.dom 110).attempt = 0 ∧
      (s.dom 110).grantWait = false) ∧
    (let s := domOf (up []) 2 .idle .none; s.wakeAllowed 2 .hint = true ∧ (s.dom 2).phase = .none) ∧
    (up []).running = true ∧
    -- a packet: both up; the domain down with its parking empty; the segment down
    (let s := domOf (up []) 204 .idle .none; (s.dom 204).up = true ∧ (s.dom 204).failed = false ∧ (s.dom 204).phase = .none ∧
      ((s.setDom 204 { s.dom 204 with st := .on }).dom 2).st = .on) ∧
    (let s := domOf (domOf (up []) 219 .on .none) 110 .off .none; (s.dom 219).up = true ∧
      ((s.setDom 219 { s.dom 219 with st := .on }).dom 110).st = .off ∧
      (s.dom 110).parked = [] ∧ (s.dom 110).stalled = []) ∧
    (let s := domOf (up []) 219 .retain .none; (s.dom 219).up = false ∧ (s.dom 219).failed = false ∧ (s.dom 219).phase = .none) ∧
    (up [(GNT_P_CTRL.CABLE_DETECT, portD 9, 1)]).regB GNT_P_CTRL.CABLE_DETECT (portD 9) = true ∧
    (up [(QTZ_STATUS.DEPTH, 0, 2)]).reg QTZ_STATUS.DEPTH = 2 ∧
    -- the end of a wake: to ON (a facet's core with its memory up), to RETAIN with and without more, and a failure
    (∀ a ∈ [1, 2], ((wk a .on).dom 110).attempt = a ∧ ((wk a .on).dom 110).wakeTo ≠ .retain ∧ ((wk a .on).dom 110).atSender = []) ∧
    (let s := chg (domOf (up []) 104 .idle .none) 40 fun d => { d with attempt := 1, wakeTo := .on }
     (s.dom 40).attempt = 1 ∧ (s.dom 104).up = true) ∧
    (let d := (wk 2 .retain).dom 110; d.attempt = 2 ∧ d.wakeTo = .retain ∧ d.lift = false ∧ d.parked = [] ∧ d.atSender = []) ∧
    (let d := (chg (wk 1 .retain) 110 fun d => { d with lift := true }).dom 110
     d.attempt = 1 ∧ d.wakeTo = .retain ∧ d.lift = true) ∧
    neverOff 110 = false ∧ neverOff 240 = true ∧ ((wk 3 .on).dom 110).attempt = 3 := by and_intros <;> decide +kernel

/-- The budget input lost. -/
def los : State := up [(TPZ_STATUS.LOS, 0, 1)]

theorem witness_BudgetInput : periodValid 100000 50000 = true ∧ periodValid 100000 99999 = false ∧
    (up [(TPZ_STATUS.LOS, 0, 0)]).regB TPZ_STATUS.LOS = false ∧ dutyBudget 0 < (up [(TPZ_STATUS.SIGNALLED, 0, 60)]).reg TPZ_STATUS.SIGNALLED ∧
    (up []).reg TPZ_STATUS.SIGNALLED < dutyBudget 900 ∧ (up []).topaz.rise.length + 1 < (up []).risePeriods ∧
    (let s := up [(TPZ_CTRL.RISE_PERIODS, 0, 1)]; s.risePeriods ≤ s.topaz.rise.length + 1) ∧
    los.regB TPZ_STATUS.LOS = true ∧ los.topaz.recover.length + 1 < los.risePeriods ∧
    (let s := up [(TPZ_STATUS.LOS, 0, 1), (TPZ_CTRL.RISE_PERIODS, 0, 1)]
     s.regB TPZ_STATUS.LOS = true ∧ s.risePeriods ≤ s.topaz.recover.length + 1) ∧
    (up [(TPZ_STATUS.LOS, 0, 0)]).topaz.badRun + 1 < 3 ∧
    (let s := { up [(TPZ_STATUS.LOS, 0, 0)] with topaz := { (up []).topaz with badRun := 2 } }
     3 ≤ s.topaz.badRun + 1 ∧ s.regB TPZ_STATUS.LOS = false) ∧
    (let s := { up [] with topaz := { (up []).topaz with badRun := 2, raising := some 10, items := [.zirconExtra 7] } }
     3 ≤ s.topaz.badRun + 1 ∧ s.topaz.raising = some 10 ∧
     s.topaz.items.contains (.zirconExtra 7) = true) := by
  and_intros <;> decide +kernel

def setBudgetEntry : Bytes := entry 0x10 [(32, 2, 60), (34, 1, 1), (35, 1, 5)]

/-- The domains of an item that are down and not on their way up. -/
def downOf (s : State) (i : Item) : List Nat :=
  (domainsOf i).filter fun n => !(s.dom n).up && (s.dom n).phase == .none && !(s.dom n).wakePend && !(s.dom n).failed

theorem witness_BudgetGrants : (Item.facet 3).real = true ∧ (up []).topaz.queue.any (·.item == .facet 3) = false ∧
    downOf (up []) (.facet 3) ≠ [] ∧
    (let s := (up []).setPort 0 { (up []).port 0 with bound := true }; s.inFloor (.podl 0) = true ∧ downOf s (.podl 0) = []) ∧
    (let s := up [(TPZ_STATUS.SIGNALLED, 0, 200), (TPZ_CAP.CAP, 0, 200)]
     downOf s (.podl 7) = [] ∧ s.inFloor (.podl 7) = false ∧ s.topaz.items.contains (.podl 7) = false ∧ s.topaz.queue = [] ∧
     s.charged + s.added (.podl 7) ≤ s.budget) ∧
    (let s := up [(TPZ_CAP.CAP, 0, 1)]
     downOf s (.podl 7) = [] ∧ s.inFloor (.podl 7) = false ∧ s.budget < s.charged + s.added (.podl 7)) ∧
    (let s := { up [] with topaz := { (up []).topaz with queue := [⟨.podl 0, 2, 0⟩], reqSeq := 1 } }
     s.topaz.queue ≠ [] ∧ s.topaz.queue.any (·.item == .podl 7) = false) ∧
    (up []).ready = true ∧ (up []).setBudgetOk (parseSqe setBudgetEntry) = true ∧
    (parseSqe setBudgetEntry).fld 34 1 = 1 ∧ (parseSqe (entry 0x10 [(32, 2, 60)])).fld 34 1 = 0 ∧
    (up []).setBudgetOk (parseSqe (entry 0x10 [(32, 2, 60)])) = true ∧
    ((up []).topaz.raising = none ∧ (up []).reg TPZ_STATUS.FCLK_CODE ≤ 10 ∧
      (up []).chargedAt ((up []).reg TPZ_STATUS.FCLK_CODE) ≤ (up []).budget) := by and_intros <;> decide +kernel

theorem witness_BudgetGrants_setBudget :
    Runs (busy setBudgetEntry (up [])) 5 0x0010 (opOf setBudgetEntry) (parseSqe setBudgetEntry) :=
  runs_busy _ _ _ (by decide +kernel) (by decide +kernel) (by decide +kernel)

/-- The guard in one state, armed, with both outputs on in RUN. -/
def guardIn (k : Nat) (l : List (Fld × Nat × Nat)) : State :=
  up ([(JDE_STATUS.STATE, 0, k), (JDE_CTRL.ARM, 0, 1), (JDE_STATUS.OUT_A, 0, b2n (k == 2)), (JDE_STATUS.OUT_B, 0, b2n (k == 2))] ++ l)

theorem witness_GuardLatch : (guardIn 2 []).jState = 2 ∧ (guardIn 2 []).regB (outFld 0) = true ∧ (guardIn 2 []).regB (outFld 1) = true ∧
    (let s := guardIn 2 [(JDE_REQ_PORTS.MASK, 0, 0x200)]; bit (s.reg JDE_REQ_PORTS.MASK) 9 = true ∧ s.portHeard 9 = false) ∧
    (guardIn 1 []).jState ≠ 2 ∧ (guardIn 1 [(JDE_STATUS.OUT_A, 0, 1)]).regB (outFld 0) = true ∧
    (guardIn 3 []).regB JDE_CTRL.ARM = true ∧ (guardIn 1 []).jade.needGo = false ∧
    (guardIn 1 []).regB JDE_RESTART.SRC = false ∧ (guardIn 3 [(JDE_RESTART.SRC, 0, 1)]).regB JDE_RESTART.SRC = true ∧
    (guardIn 4 []).jState = 4 ∧ (guardIn 1 []).guardRuns = true ∧
    -- the first and the last condition that can fail, alone
    (guardIn 1 []).turnOn.getD 0 false = false := by and_intros <;> decide +kernel

def zeros (n : Nat) : Bytes := List.replicate n 0
/-- A velocity table of 16 equal steps. -/
def vtabOf (speed set : Nat) : Bytes := (List.replicate 16 (leBytes 4 (speed + 65536 * set))).flatten
def guardReady : State :=
  let s := guardIn 1 [(GBL_SUPPLY.STOPVS_OK, 0, 1), (JDE_REQ_PORTS.MASK, 0, 0)]
  { s with jade := { s.jade with vtab := vtabOf 1000 2, sets := [(2, zeros 64)] } }

/-- The last point was hit a moment ago. -/
def guardHit : State := { guardReady with jade := { guardReady.jade with lastHit := 1 } }

theorem witness_GuardLatch_turnOn : guardReady.turnOn.all id = true ∧ guardReady.ready = true ∧
    (guardReady.stepFor (guardReady.reg JDE_SPEED.SPEED_MMS) 0).isSome = true ∧
    guardHit.turnOn.getD 5 false = false ∧ (∀ j < 5, guardHit.turnOn.getD j false = true) ∧
    -- a guard in a warm reset
    (let s := { guardReady with regs := SMap.put guardReady.regs (GBL_BOOT_STATUS.STAGE.key 0) 4 0 }
     s.guardRuns = true ∧ s.ready = false ∧ s.jState = 1) := by and_intros <;> decide +kernel

/-- A fresh velocity of 900 mm/s that has held for a second, in step 15. -/
def guardSlow : State :=
  let s := regsSet [(JDE_STATUS.VEL_STALE, 0, 0), (JDE_STATUS.STEP, 0, 15)] guardReady
  { s with ticks := 4000000, jade := { s.jade with speeds := [(3999999, some 900), (1, some 900)] } }

theorem witness_GuardFields : (guardIn 1 [(JDE_CTRL.ARM, 0, 0)]).regB JDE_CTRL.ARM = false ∧ (guardIn 1 []).jState ≠ 2 ∧
    (up []).ready = true ∧ (guardIn 1 [(JDE_STATUS.VEL_STALE, 0, 0)]).regB JDE_STATUS.VEL_STALE = false ∧
    (∀ x ∈ [0, 1], let s := { guardIn 2 [(JDE_STATUS.VEL_STALE, 0, 0), (JDE_CTRL.STALE_STOP, 0, x)] with ticks := 4000000 }
     s.guardRuns = true ∧ s.regB JDE_STATUS.VEL_STALE = false ∧ s.jState = 2 ∧ s.regB JDE_CTRL.STALE_STOP = (x == 1) ∧
     s.jade.velAt + msTicks (orIf0 (s.reg JDE_VEL.VEL_TMO_MS) 50) ≤ s.ticks + 1) ∧
    (let s := guardSlow; s.guardRuns = true ∧ s.vLoaded = true ∧ s.regB JDE_STATUS.VEL_STALE = false ∧ 0 < s.reg JDE_STATUS.STEP ∧
      s.reg JDE_SEL.HYST_MMS ≤ (s.vEntry 0).1 ∧
      s.stayedBelow ((s.vEntry 0).1 - s.reg JDE_SEL.HYST_MMS) (msTicks (s.reg JDE_SEL.DOWN_MS)) = true) ∧
    (let s := guardIn 2 [(JDE_TEST.EN, 0, 1)]; s.jade.pulse = none ∧ (s.testPeriod 0).regB JDE_TEST.EN = true ∧
      (s.testPeriod 1).regB JDE_TEST.EN = true ∧ s.reg LPS_STATUS.DBG_LEVEL ≠ 3) ∧
    (∀ o ∈ [0, 1], let s : State := { guardIn 2 [] with jade := { (guardIn 2 []).jade with pulse := some o } }
      s.jState = 2 ∧ s.jade.pulse = some o ∧ (s.testPeriod 1).regs = s.regs ∧ (s.testPeriod 0).regs = s.regs) ∧
    (guardIn 3 []).readsBack 0 = false ∧
    (let s : State := { guardIn 3 [] with ticks := 400, jade := { (guardIn 3 []).jade with changeA := 1 } }
     s.jState ≠ 2 ∧ s.guardRuns = true ∧ s.readsBack 0 = true) ∧
    -- feedback: the first sample that differs, and the second
    (∀ n ∈ [0, 1], let s : State := { guardIn 2 [(JDE_FB.EN_A, 0, 1)] with ticks := 4000000, jade := { (guardIn 2 []).jade with badA := n } }
      s.fbCompared (s.regB JDE_FB.EN_A) s.jade.changeA = true ∧ s.regB JDE_STATUS.OUT_A = true ∧ s.regB JDE_FB.POL_A = false ∧
      s.jade.badA + 1 = n + 1) := by and_intros <;> decide +kernel

def guardVtab : Bytes := vtabOf 1000 2
def guardLoadEntry : Bytes := entry 0x110 [(32, 1, 1), (36, 4, 64), (40, 4, crc32 guardVtab)]

theorem witness_GuardFields_load :
    Runs (busy guardLoadEntry guardReady) 5 0x0110 (opOf guardLoadEntry) (parseSqe guardLoadEntry) ∧
    (let s := busy guardLoadEntry guardReady; let e := parseSqe guardLoadEntry
     s.regB JDE_CTRL.LOAD_LOCK = false ∧ e.fld 32 1 ≤ 2 ∧ guardIndexOk (e.fld 32 1) (e.fld 33 1) = true ∧
     e.fld 48 8 % 64 = 0 ∧ e.rsv [(34, 2), (44, 4), (56, 8)] = true ∧ guardVtab.length = e.fld 36 4 ∧
     crc32 guardVtab = e.fld 40 4 ∧ s.guardBlockOk 1 guardVtab = true) :=
  ⟨runs_busy _ _ _ (by decide +kernel) (by decide +kernel) (by decide +kernel), by and_intros <;> decide +kernel⟩

/-! ## Witnesses: sensor ports -/

/-- Port 7 is bound, and another port's PoDL takes what is left of the 768 BU. -/
def podlFull : State :=
  ((up [(GNT_P_CTRL.PODL_EN, portD 7, 1), (GNT_P_STATUS.PODL_ON, portD 0, 1)]).setPort 7 { (up []).port 7 with bound := true }).setPort 0
    { (up []).port 0 with bound := true, podlMw := 80000 }

theorem witness_PortCables :
    (let s := up [(GNT_P_CTRL.PODL_EN, portD 7, 1), (GNT_P_PODL_LIMIT.MW, portD 7, 7000)]
     s.regB GNT_P_CTRL.PODL_EN (portD 7) = true ∧ s.regB GNT_P_STATUS.PODL_ON (portD 7) = false ∧
     s.regB GNT_P_STATUS.PODL_FAULT (portD 7) = false ∧ s.reg GNT_P_STATUS.STATE (portD 7) ≠ 6 ∧
     7000 ≤ min 7000 (s.reg GNT_P_PODL_LIMIT.MW (portD 7)) ∧ min 7000 (s.reg GNT_P_PODL_LIMIT.MW (portD 7)) < 7001 ∧
     (s.port 7).bound = false) ∧
    ((podlFull.port 7).bound = true ∧ podlFull.regB GNT_P_CTRL.PODL_EN (portD 7) = true ∧
     podlFull.regB GNT_P_STATUS.PODL_ON (portD 7) = false ∧ 768 < podlFull.floorBU + podlCharge 7000) ∧
    (let s := up [(GNT_P_STATUS.PODL_ON, portD 7, 1)]
     s.regB GNT_P_STATUS.PODL_ON (portD 7) = true ∧ s.topaz.items.contains (.podl 7) = false) ∧
    (∀ n ∈ [1, 3],
      let s := (up [(GNT_P_CTRL.PODL_EN, portD 7, 1), (GNT_P_STATUS.PODL_FAULT, portD 7, 1)]).setPort 7 { (up []).port 7 with podlFails := n }
      s.regB GNT_P_CTRL.PODL_EN (portD 7) = true ∧ s.regB GNT_P_STATUS.PODL_FAULT (portD 7) = true ∧
      s.regB GNT_P_STATUS.PODL_ON (portD 7) = false ∧ s.reg GNT_P_STATUS.STATE (portD 7) ≠ 6 ∧ (s.port 7).podlFails = n) ∧
    (let s := up []; s.running = true ∧ (s.port 9).bound = false ∧ s.regB GNT_P_CABLE.BUSY (portD 9) = false ∧ s.portLink 9 = false ∧
     s.topaz.items.contains (.podl 9) = false) ∧
    (((up []).setPort 9 { (up []).port 9 with bound := true }).port 9).bound = true ∧
    (let s := up [(GNT_P_CABLE.BUSY, portD 9, 1)]; s.regB GNT_P_CABLE.BUSY (portD 9) = true ∧ s.anyHeld heldCable [9] = false) := by
  and_intros <;> decide +kernel

/-- A port in one state, with its link up or down, on a started module. -/
def portIs (p : Nat) (link : Bool) (l : List (Fld × Nat × Nat)) (f : Port → Port) : State :=
  let s := up ((GNT_P_STATUS.LINK, portD p, b2n link) :: l)
  s.setPort p (f (s.port p))

/-- After a link has come up on port 0. -/
def linkedUp (f : Port → Port) : State :=
  (((portIs 0 false [] f).setReg GNT_P_STATUS.LINK (portD 0) 1).meetFloor 4).meetFloor 14

theorem witness_PortDiscovery : (portIs 9 false [] id).portLink 9 = false ∧ (portIs 9 false [(GNT_P_CTRL.RATE, portD 9, 1)] id).rateCode 9 ≠ 0 ∧
    (portIs 0 false [] id).portLink 0 = false ∧ (portIs 0 false [] id).reg GNT_P_STATUS.STATE (portD 0) ≠ 6 ∧
    ((linkedUp id).port 0).bound = false ∧
    (∀ d ∈ [true, false], let q := (linkedUp fun q => { q with bound := true, detached := d }).port 0
      q.bound = true ∧ q.detached = d ∧ q.auto = false) ∧
    (let q := (linkedUp fun q => { q with bound := true, detached := true, auto := true }).port 0; q.detached = true ∧ q.auto = true) ∧
    (portIs 0 true [] id).portLink 0 = true ∧ (portIs 0 true [] id).regB GNT_GPTP_CTRL.EN = false ∧
    (let s := portIs 0 true [] fun q => { q with bound := true }; (s.port 0).bound = true ∧ s.portLink 0 = true) ∧
    (let s := portIs 0 false [] fun q => { q with bound := true }
     (s.port 0).bound = true ∧ (s.port 0).detached = false ∧ s.portLink 0 = false) ∧
    (portIs 0 true [(GNT_CTRL.LLDP_TX_EN, 0, 1)] id).regB GNT_CTRL.LLDP_TX_EN = true ∧
    (let s := portIs 0 true [] fun q => { q with discovering := true }
     (s.port 0).bound = false ∧ (s.port 0).discovering = true ∧ 32 ≤ s.reg GNT_P_CTRL.DEFAULT_DESC (portD 0) ∧ (s.port 0).f1 = 0) ∧
    (let s := portIs 0 true [(GNT_P_CTRL.DEFAULT_DESC, portD 0, 31)] fun q => { q with discovering := true }
     s.reg GNT_P_CTRL.DEFAULT_DESC (portD 0) < 32 ∧ (s.desc 31).valid = false) ∧
    (let s := portIs 0 true [(GNT_P_CTRL.DEFAULT_DESC, portD 0, 31), (GNT_DESC7.VALID, 32 * 31, 1)] fun q => { q with discovering := true }
     s.reg GNT_P_CTRL.DEFAULT_DESC (portD 0) < 32 ∧ (s.desc 31).valid = true ∧ s.matchLldp [0xFE, 4, 0, 0, 0, 0] = some 31) := by
  and_intros <;> decide +kernel
theorem witness_UnboundFrames : (portIs 9 true [] id).portLink 9 = true ∧ ((portIs 9 true [] id).port 9).bound = false ∧
    (portIs 9 true [] id).regB GNT_P_CTRL.MAC_FILTER (portD 9) = false ∧
    (portIs 9 true [(GNT_P_CTRL.MAC_FILTER, portD 9, 1)] id).regB GNT_P_CTRL.MAC_FILTER (portD 9) = true ∧
    (let f := zeros 12 ++ [8, 0, 0x45, 0, 0, 0, 0, 0, 0x20, 0]; (parseFrame f).frag = true ∧ f.length ≤ 9216) ∧
    (parseFrame (zeros 64)).frag = false ∧ (parseFrame (zeros 64)).udp = none ∧ (zeros 9216).length ≤ 9216 ∧ 9216 < (zeros 9217).length ∧
    (let s := portIs 9 true [(GNT_POSE_CTRL.EN, 0, 1), (GNT_POSE_CTRL.PORT, 0, 9)] id
     s.regB GNT_POSE_CTRL.EN = true ∧ s.reg GNT_POSE_CTRL.PORT = 9 ∧ s.poseLast = none) ∧
    (let b := [1, 0, 1] ++ zeros 61; b.length = 64 ∧ fieldLE b 0 2 = 1 ∧ bit (fieldLE b 2 2) 0 = true) ∧
    ¬(0 : Nat) < fieldLE ([1, 0, 1] ++ zeros 61) 8 8 := by
  and_intros <;> decide +kernel

/-- A frame for another station. -/
theorem witness_UnboundFrames_other : ∃ f : Bytes, f.length = 64 ∧ f.take 6 ≠ portMac 9 ∧ f.take 6 ≠ lldpGroup ∧
    f.take 6 ≠ List.replicate 6 0xFF := by
  by_cases h : (zeros 64).take 6 = portMac 9
  · refine ⟨List.replicate 64 1, by decide, ?_, by decide, by decide⟩
    rw [← h]; decide
  · exact ⟨zeros 64, by decide, h, by decide, by decide⟩

/-- Descriptor 3: 20-byte records after a header of 4 bytes on any UDP port. -/
def descL (rule : Nat) : List (Fld × Nat × Nat) :=
  [(GNT_DESC.WORD, 32 * 3 + 8, 4 + 65536 * 20), (GNT_DESC.WORD, 32 * 3 + 24, rule), (GNT_DESC7.MAX_KPPS, 32 * 3, 100), (GNT_DESC7.VALID, 32 * 3, 1)]

/-- A bound port 2 in a sweep whose open slice is slice 0, with descriptor 3 in force. -/
def stream (per j now : Nat) : State :=
  let s := portIs 2 true ((GNT_P_STATUS.DESC, portD 2, 3) :: descL 0) fun q =>
    { q with bound := true, pipeline := 7, sliceUs := 250, slots := 4, perSweep := per, slotPts := 2, sweepOn := true,
             ts := 0, j := j, open_ := some ⟨j, 0, true, 0, 0, 0, 0, 0, true, false, 0xFFFF⟩ }
  let s := (domOf (domOf (domOf s 6 .on .none) 16 .on .none) 31 .on .none)
  { s with quartz := { s.quartz with dtime := now } }

theorem witness_BoundFrames :
    (let s := stream 0 0 0; let d := s.desc 3
     s.reg GNT_P_STATUS.DESC (portD 2) = 3 ∧ s.portLink 2 = true ∧ s.regB GNT_P_CTRL.MAC_FILTER (portD 2) = false ∧
     s.regB GNT_POSE_CTRL.EN = false ∧ d.dport = 0 ∧ d.usable = true ∧ d.hdrLen = 4 ∧ d.stride = 20 ∧ s.ingests 2 = true ∧
     d.rule ≠ 2) ∧
    (let f := zeros 12 ++ [8, 0, 0x45, 0, 0, 0, 0, 0, 0, 0, 0, 17] ++ zeros 10 ++ [0, 0, 0, 7, 0, 32] ++ zeros 30
     parseFrame f = ⟨none, false, some (7, zeros 24)⟩ ∧ (24 - 4) % 20 = 0 ∧ f.length ≤ 9216) ∧
    (let s := stream 0 0 0; ∃ sl, (s.port 2).open_ = some sl ∧ sl.slot = true ∧ sl.stalled = false ∧ sl.points < (s.port 2).slotPts ∧
      (s.port 2).recentPts s.uptime < 100 ∧ (sl.start : Int) ≤ 0) ∧
    ((stream 4 0 1250000).port 2).bound = true ∧ ((stream 4 0 1250000).port 2).sweepOn = true ∧
    ((stream 0 0 1250000).port 2).perSweep = 0 ∧
    ((stream 4 0 1250000).port 2).timed 0 = true ∧
    ((stream 4 0 1250000).port 2).ts + (0 + 1) * ((stream 4 0 0).port 2).lenNs + 1000000 ≤ 1250000 ∧
    ((stream 4 3 2000000).port 2).timed 0 = true ∧ ((stream 4 3 2000000).port 2).perSweep ≤ 3 + 1 ∧
    ((stream 4 3 2000000).port 2).ts + (3 + 1) * ((stream 4 3 0).port 2).lenNs + 4 * ((stream 4 3 0).port 2).lenNs ≤ 2000000 := by
  and_intros <;> decide +kernel

theorem witness_BoundFrames_sound : (stream 0 0 0).sound := by unfold State.sound; decide +kernel

/-- gPTP runs on port 2. -/
def gptpOn (l : List (Fld × Nat × Nat)) : State :=
  portIs 2 true ([(GNT_GPTP_CTRL.EN, 0, 1), (GNT_GPTP_CTRL.PORT, 0, 2), (GNT_GPTP_STATUS.PORT, 0, 2)] ++ l) id

theorem witness_Gptp : (gptpOn []).regB GNT_GPTP_CTRL.EN = true ∧ (gptpOn []).gptpBoundary = gptpOn [] ∧
    (gptpOn []).regB GNT_GPTP_CTRL.SRC = false ∧ (gptpOn []).portLink ((gptpOn []).reg GNT_GPTP_STATUS.PORT) = true ∧
    (gptpOn [(GNT_GPTP_CTRL.SRC, 0, 1)]).gptpBoundary = gptpOn [(GNT_GPTP_CTRL.SRC, 0, 1)] ∧
    (gptpOn [(GNT_GPTP_CTRL.SRC, 0, 1)]).regB GNT_GPTP_CTRL.SRC = true ∧
    1000 * (gptpOn [(GNT_GPTP_CTRL.STEP_THRESH_US, 0, 1)]).reg GNT_GPTP_CTRL.STEP_THRESH_US < (1001 : Int).natAbs ∧
    (1000 : Int).natAbs ≤ 1000 * (gptpOn [(GNT_GPTP_CTRL.STEP_THRESH_US, 0, 1)]).reg GNT_GPTP_CTRL.STEP_THRESH_US ∧
    7 ≤ ({ gptpOn [] with gptpRun := 7 } : State).gptpRun ∧
    (gptpOn [(GNT_GPTP_CTRL.ALT_PORT, 0, 0xF)]).reg GNT_GPTP_CTRL.ALT_PORT = 0xF ∧
    (let s := gptpOn [(GNT_GPTP_CTRL.ALT_PORT, 0, 9)]
     s.reg GNT_GPTP_CTRL.ALT_PORT ≠ 0xF ∧ s.reg GNT_GPTP_CTRL.ALT_PORT ≠ s.reg GNT_GPTP_STATUS.PORT) := by and_intros <;> decide +kernel

def bindEntry : Bytes := entry 0x0101 [(32, 1, 2), (34, 1, 3), (35, 1, 0xFF), (36, 2, 40), (38, 2, 2000), (44, 2, 200), (46, 2, 50),
  (48, 4, 4608), (56, 8, 0x1000000000)]
def unbindEntry : Bytes := entry 0x0101 [(32, 1, 2), (33, 1, 1)]
def consumeEntry : Bytes := entry 0x0102 [(32, 1, 2), (40, 8, 1)]
def bindState : State := portIs 2 true (descL 0) id

theorem witness_PortOperators :
    (let s := busy bindEntry bindState; let e := parseSqe bindEntry
     bit (e.fld 33 1) 0 = false ∧ s.bindError (opOf bindEntry) e = none ∧ s.bindPipe e = some 0) ∧
    (let s := busy unbindEntry (stream 0 0 0); let e := parseSqe unbindEntry
     bit (e.fld 33 1) 0 = true ∧ (s.port 2).bound = true ∧ (s.port 2).binder = (opOf unbindEntry).inst ∧
     (opOf unbindEntry).inst = s.reg GNT_P_CTRL.OWNER (portD 2) ∧ e.fld 33 1 < 8 ∧ e.rsv [(54, 2)] = true) ∧
    (let s := busy consumeEntry (up [(GNT_P_SEQ.SEQ, portD 2, 1)]); let e := parseSqe consumeEntry
     (opOf consumeEntry).inst = s.reg GNT_P_CTRL.OWNER (portD 2) ∧ e.rsv [(33, 7), (48, 16)] = true ∧
     e.fld 40 8 ≤ s.reg GNT_P_SEQ.SEQ (portD 2) ∧ s.reg GNT_P_HEAD.HEAD (portD 2) < 2 ^ 64) := by and_intros <;> decide +kernel

theorem witness_PortOperators_runs : Runs (busy bindEntry bindState) 5 0x0101 (opOf bindEntry) (parseSqe bindEntry) ∧
    Runs (busy unbindEntry (stream 0 0 0)) 5 0x0101 (opOf unbindEntry) (parseSqe unbindEntry) ∧
    Runs (busy consumeEntry (up [])) 5 0x0102 (opOf consumeEntry) (parseSqe consumeEntry) :=
  ⟨runs_busy _ _ _ (by decide +kernel) (by decide +kernel) (by decide +kernel),
   runs_busy _ _ _ (by decide +kernel) (by decide +kernel) (by decide +kernel),
   runs_busy _ _ _ (by decide +kernel) (by decide +kernel) (by decide +kernel)⟩

/-! ## Witnesses: Peridot -/

/-- Instance 0 enabled, with queue pair 0 live, its ring of 64 entries at 0x10000. -/
def queueOn (l : List (Fld × Nat × Nat)) : State :=
  up ([(INST_CTRL.EN, winD 0, 1), (QP_CTRL.EN, qpD 0, 1), (QP_STATUS.STATE, qpD 0, 1), (QP_SIZES.SQ_LOG2, qpD 0, 6),
    (QP_SIZES.CQ_LOG2, qpD 0, 6)] ++ l)
def unmasked (s : State) : State := s.setMsix 0 0 ⟨0, 0, false, true⟩

theorem witness_EventDelivery : (queueOn []).canDma 0 = true ∧ (queueOn []).regB INST_CTRL.EN (winD 0) = true ∧
    (queueOn []).evtUsed 0 ≠ (queueOn []).evtSize 0 ∧ ((queueOn []).inst 0).lostSince = 0 ∧
    ((unmasked (queueOn [])).msixEntry 0 0).masked = false ∧ ((queueOn []).msixEntry 0 0).masked = true ∧
    (let s := (queueOn []).setInst 0 { (queueOn []).inst 0 with evtTail := 64, lostSince := 3 }
     s.evtUsed 0 = s.evtSize 0 ∧ s.reg INST_EVT_LOST.COUNT (winD 0) + 1 < 2 ^ 32 - 1) ∧
    (queueOn [(AMB_CTRL.SAT_EVT_EN, 0, 0)]).regB AMB_CTRL.SAT_EVT_EN = false ∧ (queueOn []).running = true ∧
    ringWakes 0x0603 = false ∧ ringWakes 0x0101 = false ∧ ringWakes 0x0207 = true ∧
    (let s := (queueOn []).setInst 0 { (queueOn []).inst 0 with lostSince := 3 }
     (s.inst 0).lostSince ≠ 0 ∧ s.evtUsed 0 ≠ s.evtSize 0) ∧
    (let s := (queueOn [(QP_COAL.TIME_US, qpD 0, 1)]).setQp 0 { qpReset with intrCount := 1 }
     s.qpInst 0 < 16 ∧ (s.qp 0).intrCount ≠ 0 ∧ s.reg QP_COAL.TIME_US (qpD 0) ≠ 0) ∧
    127 < vectors 0 ∧ (queueOn []).linked 15 = true := by and_intros <;> decide +kernel

theorem witness_Submissions : (up []).running = true ∧ (up []).reg QTZ_STATUS.DEPTH = 0 ∧ (up []).urgentStands = false ∧
    (∀ u ∈ [true, false], let s := (queueOn []).setQp 0 { qpReset with urgent := u }
      s.reg QTZ_STATUS.DEPTH = 0 ∧ s.urgentStands = u) ∧
    (up [(QTZ_STATUS.DEPTH, 0, 1)]).reg QTZ_STATUS.DEPTH = 1 ∧ (up [(QTZ_STATUS.DEPTH, 0, 2)]).reg QTZ_STATUS.DEPTH ≠ 0 ∧
    (queueOn [(QP_STATUS.FLUSH_BUSY, qpD 0, 1)]).regB QP_STATUS.FLUSH_BUSY (qpD 0) = true ∧
    (up [(QTZ_STATUS.DEPTH, 0, 1)]).reg PDT_IDLE_HOLD.MS ≠ 0xFFFF ∧ (up []).linked 15 = true ∧ (up []).canDma 15 = true ∧
    (let s := queueOn []; s.qpLive 0 = true ∧ s.qpInst 0 = 0 ∧ s.regB QP_STATUS.FLUSH_BUSY (qpD 0) = false ∧
      s.reg QP_STATUS.EPOCH (qpD 0) = fieldLE (leBytes 4 64 ++ zeros 4) 4 2 ∧
      laterThan 32 64 (s.reg QP_SQ_HEAD.HEAD (qpD 0)) = true ∧ wrapDist 32 64 (s.reg QP_SQ_HEAD.HEAD (qpD 0)) ≤ s.sqSize 0 ∧
      s.sqSize 0 < wrapDist 32 65 (s.reg QP_SQ_HEAD.HEAD (qpD 0)) ∧ laterThan 32 65 (s.reg QP_SQ_HEAD.HEAD (qpD 0)) = true) ∧
    (up []).qpLive 63 = false ∧ (queueOn []).qpInst 0 ≠ 1 ∧
    (queueOn [(QP_STATUS.EPOCH, qpD 0, 1)]).reg QP_STATUS.EPOCH (qpD 0) ≠ 0 := by and_intros <;> decide +kernel

/-- A fence of instance 0 with a value. -/
def fenceAt (n v : Nat) (err : Bool) (s : State) : State := { s with fences := [(n, ⟨v, err⟩)] }

/-- The same with one entry that may be fetched. -/
def fetchOn : State := (queueOn [(QP_TAG_QUOTA.QUOTA, qpD 0, 64)]).setQp 0 { qpReset with tail := 1 }
def nopEntry (wait value signal : Nat) : Bytes := entry 1 [(8, 2, wait), (16, 8, value), (10, 2, signal), (24, 8, 1)]

theorem witness_EntryFetched : fetchOn.qpInst 0 < 16 ∧ fetchOn.mayFetch 0 = true ∧ fetchOn.tagFor (fetchOn.qpInst 0) = true ∧
    fetchOn.tagLeft 0 = true ∧ fetchOn.op? 32767 = none ∧ fetchOn.backlog 0 ≠ 0 ∧ (parseSqe (nopEntry 0xFFFF 0 0xFFFF)).chain = false ∧
    fetchOn.checkSqe 0 (parseSqe (entry 0xFFFF [])) = some ERR_OPCODE ∧
    fetchOn.checkSqe 0 (parseSqe (nopEntry 0xFFFF 0 0xFFFF)) = none ∧
    (parseSqe (nopEntry 0xFFFF 0 0xFFFF)).waitFence = noFence ∧ (parseSqe (nopEntry 100 1 0xFFFF)).waitFence = 100 := by
  and_intros <;> decide +kernel

theorem witness_EntryFetched_fence : let s := fenceAt 100 1 false fetchOn
    s.checkSqe 0 (parseSqe (nopEntry 100 1 0xFFFF)) = none ∧ (s.fence 100).error = false ∧ 1 ≤ (s.fence 100).value ∧
    (s.fence 100).value < 2 ∧ ((fenceAt 100 1 true fetchOn).fence 100).error = true ∧
    (parseSqe (nopEntry 100 1 0xFFFF)).ignoreErr = false := by and_intros <;> decide +kernel
def withMem (a : Nat) (b : Bytes) (s : State) : State := { s with mem := putBytes s.mem a b }

/-- An operation that waits on one fence and signals another. -/
def waitOp (w g : Nat) : Op := { opOf (nopEntry w 1 g) .waiting with seq := w }
/-- Tags 5 and 6, each waiting on the fence that the other signals. -/
def circled : State := { up [(OPL_CTRL.DL_EN, 0, 1)] with ticks := 40000, ops := [(5, waitOp 100 101), (6, waitOp 101 100)] }
/-- Tag 5 waits on what tag 6, which runs, signals. -/
def pursued : State :=
  { up [(OPL_CTRL.DL_EN, 0, 1)] with ticks := 40000, ops := [(5, waitOp 100 0xFFFF), (6, opOf (nopEntry 0xFFFF 0 100))] }

theorem witness_Arbitration :
    -- a lock that is held, an arbiter that no one asks, and one that a queue pair, an operation and Garnet ask
    (let s := { busy (entry 1 []) (up []) with arbs := [(arbKey (.berylLock 31), ⟨[.op 5], []⟩)] }
     s.inTick 249 = true ∧ ((s.atGclk 249).arbRound (.berylLock 31) [⟨1, .firmware, 0, false⟩] []).holders = [.op 5] ∧
     ((s.atGclk 249).arbRound (.berylLock 31) [⟨1, .firmware, 0, false⟩] [.op 5]).holders = []) ∧
    ((up []).atGclk 0).arbRound .workList [] [] = ⟨[], []⟩ ∧
    (let s := busy (entry 1 []) (up []); let r : List ArbReq := [⟨0, .op 5, 100, false⟩, ⟨1, .ingest, 0, true⟩, ⟨2, .qp 63, 0, false⟩]
     (r.all fun r => r.owner.unit.1 < r.owner.unit.2) = true ∧ (Arbiter.pipeline 7).unit.1 < (Arbiter.pipeline 7).unit.2 ∧
     ((s.atGclk 0).arbRound (.pipeline 7) r []).holders = [] ∧ ((s.atGclk 0).arbRound (.pipeline 7) r []).queue.length = 3) ∧
    (let s := circled; let v := s.setOp 5 { waitOp 100 101 with walkAt := s.ticks }
     s.op? 5 = some (waitOp 100 101) ∧ s.running = true ∧ s.regB OPL_CTRL.DL_EN = true ∧ s.walkDue (waitOp 100 101) = true ∧
     s.walkFirst (waitOp 100 101) = true ∧ v.walk [5] 5 64 = .circle [5, 6] ∧ v.victim [5, 6] = some (6, waitOp 101 100) ∧
     v.op? 6 = some (waitOp 101 100) ∧ (waitOp 101 100).sqe?.map (·.waitFence) = some 101) ∧
    (let s := pursued
     s.op? 5 = some (waitOp 100 0xFFFF) ∧ s.walkDue (waitOp 100 0xFFFF) = true ∧ s.walkFirst (waitOp 100 0xFFFF) = true ∧
     (s.setOp 5 { waitOp 100 0xFFFF with walkAt := s.ticks }).walk [5] 5 64 = .nothing) := by and_intros <;> decide +kernel

/-- Operations 5 to 70 wait, each on what the next one signals, and the last on what none does. -/
def longChain : State :=
  { up [(OPL_CTRL.DL_EN, 0, 1)] with
    ticks := 40000, ops := (List.range 66).map fun i => (5 + i, waitOp (100 + i) (99 + i)) }

theorem witness_Arbitration_limit : longChain.op? 5 = some (waitOp 100 99) ∧
    longChain.walkDue (waitOp 100 99) = true ∧ longChain.walkFirst (waitOp 100 99) = true ∧
    (longChain.setOp 5 { waitOp 100 99 with walkAt := longChain.ticks }).walk [5] 5 64 = .limit := by
  and_intros <;> decide +kernel

theorem witness_FencesAndControl :
    (let s := { fenceAt 100 5 false (up [(OPL_FENCE_SEL.INDEX, 0, 100), (OPL_FENCE_ARG_LO.ARG, 0, 4)]) with
       ops := [(5, opOf (nopEntry 100 6 0xFFFF) .waiting)] }
     s.reg OPL_FENCE_SEL.INDEX ≠ noFence ∧ s.isSliceFence 100 = false ∧ bit 2 1 = true ∧ bit 2 2 = false ∧ bit 2 3 = false ∧
     bit 4 2 = true ∧ bit 8 3 = true ∧ bit 6 1 = true ∧ bit 6 2 = true ∧
     s.reg64 OPL_FENCE_ARG_LO.ARG OPL_FENCE_ARG_HI.ARG < (s.fence 100).value) ∧
    (let s := fenceAt 100 4 false (up [(OPL_FENCE_SEL.INDEX, 0, 100), (OPL_FENCE_ARG_LO.ARG, 0, 4)])
     (s.fence 100).value ≤ s.reg64 OPL_FENCE_ARG_LO.ARG OPL_FENCE_ARG_HI.ARG) ∧
    (parseSqe (entry 1 [])).rsv [(32, 32)] = true ∧ (parseSqe (entry 3 [])).rsv [(32, 32)] = true ∧
    (parseSqe (entry 2 [(32, 1, 2)])).fld 32 1 < 3 ∧ (parseSqe (entry 2 [(32, 1, 2)])).rsv [(33, 31)] = true ∧
    (parseSqe (entry 2 [(10, 2, 100)])).signalFence ≠ noFence ∧ (up []).isSliceFence 100 = false := by
  and_intros <;> decide +kernel

theorem witness_FencesAndControl_runs :
    Runs (busy (entry 1 []) (up [])) 5 1 (opOf (entry 1 [])) (parseSqe (entry 1 [])) ∧
    Runs (busy (entry 2 []) (up [])) 5 2 (opOf (entry 2 [])) (parseSqe (entry 2 [])) ∧
    Runs (busy (entry 3 []) (up [])) 5 3 (opOf (entry 3 [])) (parseSqe (entry 3 [])) := by
  unfold Runs; and_intros <;> decide +kernel

def modeEntry : Bytes := entry 0x11 [(32, 1, 12), (33, 1, 1), (34, 1, 15)]
/-- A handoff of function 2 that instance 3 answers. -/
def handed (ok : Bool) : State :=
  { up [(HO_CTRL.EN, winD 3, 1), (HO_RPL_TAIL.TAIL, winD 3, 1)] with
    ops := [(5, opOf modeEntry .handoff)], handoffs := if ok then [⟨3, 9, 2, some 5, [], 0, 0, 0⟩] else [] }

theorem witness_HostAssistance :
    Runs (busy modeEntry (up [])) 5 0x0011 (opOf modeEntry) (parseSqe modeEntry) ∧ (opOf modeEntry).inst = 0 ∧
    (let e := parseSqe modeEntry; e.fld 32 1 ≤ 12 ∧ e.fld 33 1 ≤ 1 ∧ e.fld 34 1 < 16 ∧ e.rsv [(35, 29)] = true) ∧
    (up [(HO_CTRL.EN, winD 15, 1)]).regB HO_CTRL.EN (winD 15) = true ∧ (up []).itemOpen 12 = false ∧
    ((up []).ports.any fun p => p.2.bound) = false ∧
    (let s := (up []).setPort 9 { (up []).port 9 with bound := true }; (s.ports.any fun p => p.2.bound) = true ∧ s.itemOpen 0 = false) ∧
    (let s := (handed true); s.itemOpen 2 = true ∧ s.canDma 3 = true ∧ s.regB HO_CTRL.EN (winD 3) = true ∧
     s.reg HO_RPL_TAIL.TAIL (winD 3) ≠ s.reg HO_RPL_HEAD.HEAD (winD 3) ∧
     (s.handoffs.find? fun h => h.inst == 3 && h.id == 9) = some ⟨3, 9, 2, some 5, [], 0, 0, 0⟩) ∧
    (∀ k ∈ [0, 1, 2], let b := leBytes 4 9 ++ leBytes 4 k ++ zeros 24
      fieldLE b 0 4 = 9 ∧ fieldLE b 4 1 = k ∧ fieldLE b 8 8 = 0 ∧ ([] : Bytes).length = fieldLE b 16 4) ∧
    (handed false).handoffs = [] ∧
    (let s := { up [] with staged := [(MODE_F.MODE.key 8, 1), (MODE_F.HANDLER.key 8, 15)] }
     SMap.get? s.staged (MODE_F.MODE.key (4 * 2)) = some 1 ∧ SMap.get? s.staged (MODE_F.HANDLER.key (4 * 2)) = some 15 ∧
     s.itemOpen 2 = false) := by unfold Runs; and_intros <;> decide +kernel

/-- Channel 31 between instance 0 and core 0x20. -/
def chan (l : List (Fld × Nat × Nat)) : State :=
  up ([(JSP_BIND.MASTER_A, chanD 31, 0), (JSP_BIND.MASTER_B, chanD 31, 0x20)] ++ l)

theorem witness_JasperChannels : isMaster 0x20 = true ∧ (chan []).jspReach 31 0x20 = true ∧ (chan []).chanBound 31 0x20 = true ∧
    (chan []).regB JSP_CTRL.FULL (chanD 31) = false ∧ (chan []).otherEnd 31 0x20 < 16 ∧
    (chan [(JSP_CTRL.FULL, chanD 31, 1)]).regB JSP_CTRL.FULL (chanD 31) = true ∧
    (let s := chan [(JSP_CTRL.CLAIMED, chanD 31, 1), (JSP_CTRL.SRC, chanD 31, 0x20)]
     s.regB JSP_CTRL.CLAIMED (chanD 31) = true ∧ s.reg JSP_CTRL.SRC (chanD 31) = 0x20) ∧
    0 ≠ (chan [(JSP_CTRL.SRC, chanD 31, 0x20)]).reg JSP_CTRL.SRC (chanD 31) ∧ (up []).chanBound 31 0 = false ∧
    (chan []).boundTo 31 0x20 = true ∧ (chan []).boundTo 31 0 = true ∧ (chan []).jspReach 31 0 = true ∧ isMaster 0 = true ∧
    (chan [(JSP_CTRL.CLAIMED, chanD 31, 1)]).reg JSP_CTRL.SRC (chanD 31) ≠ 0x20 ∧
    (chan [(JSP_BIND.MASTER_A, chanD 31, 1)]).boundTo 31 0 = false ∧ (chan [(JSP_BIND.MASTER_A, chanD 31, 1)]).jspReach 31 0 = true ∧
    16 ≤ (chan [(JSP_CTRL.SRC, chanD 31, 0x20)]).reg JSP_CTRL.SRC (chanD 31) ∧
    16 ≤ (chan []).otherEnd 31 0 := by
  and_intros <;> decide +kernel

/-! ## Witnesses: poses, voxels, hash tables -/

/-- A pose entry at a time. -/
def pose (t : Nat) : Bytes := leBytes 8 1 ++ leBytes 8 t ++ zeros 48
/-- Three poses in the ring, at 10, 20 and 30 ms. -/
def posed : State :=
  let s := up [(GNT_POSE_WR.COUNT, 0, 3)]
  withMem (s.localAddr (s.poseOff 0)) (pose 10000000 ++ pose 20000000 ++ pose 30000000) s

def motionEntry : Bytes := entry 0x103 [(32, 1, 2), (33, 1, 1), (56, 8, 0x20000)]
/-- Slice `n` of port 2 at a time, closed with one point; the parameter block of its compensation at 0x20000 gives how long a
pose is waited for and how far apart two poses may lie. -/
def sliceOf (n t waitMs : Nat) (gapMs : BitVec 8) : State :=
  let s := posed.setPort 2 { posed.port 2 with
    bound := true, sliceUs := 250, slots := 4, slotPts := 2, ringBase := 0x100000, closed := n + 1, perSweep := 4 }
  let s := withMem (s.hdrAt (s.port 2) n) (leBytes 8 n ++ leBytes 8 t ++ leBytes 8 t ++ leBytes 4 1 ++ zeros 36) s
  withMem (s.localAddr 0x20000) (zeros 48 ++ leBytes 8 0x40000 ++ leBytes 4 1 ++ leBytes 4 waitMs ++ [100, gapMs] ++ zeros 62) s
/-- Slice 0, between two poses. -/
def closedSlice : State := sliceOf 0 25000000 0 100
/-- Slice 1, whose sweep's first slice is no longer in the ring. -/
def lostSlice : State := withMem ((sliceOf 1 25000000 0 100).hdrAt ((sliceOf 1 0 0 100).port 2) 0) (leBytes 8 4) (sliceOf 1 25000000 0 100)
/-- What MOTION_COMP finds for a slice: 0 a transform, 1 a stale pose, 2 a lost reference, 3 a wait. -/
def foundKind (s : State) (entry : Bytes) : Nat :=
  let e := parseSqe entry
  let q := s.port 2
  let param := s.peek (s.localAddr 0x20000) 128
  match ((mx s).hwXform q e ⟨fieldLE param 60 4 != 0, fieldLE param 64 1, fieldLE param 65 1, bit (e.fld 33 1) 2⟩ param
    (s.peek (s.hdrAt q (e.fld 40 8)) 64)).1 with
  | .xform _ _ => 0
  | .stale _ => 1
  | .lost => 2
  | .wait => 3
def sweepEntry : Bytes := entry 0x103 [(32, 1, 2), (33, 1, 2), (40, 8, 1), (56, 8, 0x20000)]

theorem witness_MotionAndVoxels_found : foundKind closedSlice motionEntry = 0 ∧ foundKind (sliceOf 0 25000000 0 0) motionEntry = 1 ∧
    foundKind (sliceOf 0 35000000 1 100) motionEntry = 3 ∧
    (let s := busy sweepEntry lostSlice; let e := parseSqe sweepEntry
     foundKind lostSlice sweepEntry = 2 ∧ s.motionErr e = none ∧ bit (e.fld 33 1) 1 = true ∧ (s.port 2).perSweep ≠ 0 ∧
     hdrIs (s.peek (s.hdrAt (s.port 2) 1) 64) 1 = true) := by and_intros <;> decide +kernel

theorem witness_MotionAndVoxels :
    (let s := posed; let es := s.poseEntries.map fun k => s.peek (s.localAddr (s.poseOff k)) 64
     es = [pose 30000000, pose 20000000, pose 10000000] ∧ (∀ b ∈ es, 9999999 < poseTime b) ∧
     poseTime (pose 30000000) ≤ 30000000 ∧ poseTime (pose 20000000) ≤ 25000000 ∧ 25000000 < poseTime (pose 30000000)) ∧
    (up []).poseEntries = [] ∧
    (let s := busy motionEntry closedSlice; let e := parseSqe motionEntry; let q := s.port 2
     s.ovrRefused (opOf motionEntry) e = false ∧ s.memWaits = false ∧ s.motionIssuer (opOf motionEntry) e = true ∧ s.motionErr e = none ∧
     s.paramErr (s.peek (s.localAddr (e.fld 56 8)) 128) = none ∧ q.bound = true ∧
     hdrIs (s.peek (s.hdrAt q (e.fld 40 8)) 64) (e.fld 40 8) = true ∧
     bit (hdrFlags (s.peek (s.hdrAt q (e.fld 40 8)) 64)) 4 = false ∧ (s.sliceMode e).1 = false ∧ (bit (e.fld 33 1) 1 = false) ∧
     (opOf motionEntry (.held heldPose [])).phase = .held heldPose []) := by and_intros <;> decide +kernel

theorem witness_MotionAndVoxels_sound : posed.sound ∧ (busy motionEntry closedSlice).sound := by
  unfold State.sound; and_intros <;> decide +kernel

def voxelEntry : Bytes := entry 0x104 [(32, 1, 31), (33, 1, 0), (34, 1, 1), (36, 4, 10000), (40, 4, 1), (44, 4, 1), (48, 8, 0x20000), (56, 8, 0x40000)]
/-- Hash table 31 is set up, and one source of one point stands at 0x20000. -/
def hashed (l : List (Fld × Nat × Nat)) : State :=
  let s := up ([(BRL_T_CTRL.EN, brlD 31, 1), (BRL_T_CTRL.LOG2_SLOTS, brlD 31, 10)] ++ l)
  withMem (s.localAddr 0x20000) (leBytes 8 0x30000 ++ leBytes 4 1 ++ zeros 4) s

theorem witness_MotionAndVoxels_voxelise :
    let s := busy voxelEntry (hashed []); let e := parseSqe voxelEntry
    Runs s 5 0x0104 (opOf voxelEntry) e ∧ s.sound ∧ s.voxeliseErr e = none ∧ s.brlReady (e.fld 32 1) false = true ∧
    s.brlZeroing [e.fld 32 1] = false ∧ s.inHw (opOf voxelEntry) e 2 ∧
    s.sourcesOk (sourceList (s.peek (s.localAddr (e.fld 48 8)) (16 * e.fld 40 4)) (e.fld 40 4)) = true := by
  unfold Runs State.sound State.inHw; and_intros <;> decide +kernel
theorem witness_HashTables :
    (let s := hashed []; let k := mkKey 1 0 0; let a := s.brlAt 31 + 64 * homeBucket 10 k
     let slot := leBytes 8 k ++ leBytes 4 7 ++ leBytes 2 1
     ((mx s).search 31 k (homeBucket 10 k) (s.brlProbe 31)).1 = .empty a ∧
     ((mx (withMem a slot s)).search 31 k (homeBucket 10 k) (s.brlProbe 31)).1 = .row 7) ∧
    (hashed []).brlCount 31 < 7 * 2 ^ (hashed []).brlLog 31 / 8 ∧
    7 * 2 ^ (hashed []).brlLog 31 / 8 ≤ (hashed [(BRL_T_COUNT.COUNT, brlD 31, 896)]).brlCount 31 ∧
    (hashed []).brlEpoch 31 < 0xFFFF ∧ (hashed []).regB BRL_T_CTRL.LOST (brlD 31) = false ∧
    0xFFFF ≤ (hashed [(BRL_T_CTRL.EPOCH, brlD 31, 0xFFFF)]).brlEpoch 31 ∧
    (up []).regB BRL_T_CTRL.EN (brlD 0) = false ∧ (up []).brlFits 0 = true ∧
    (up [(BRL_T_CTRL.LOC, brlD 0, 1), (BRL_T_CTRL.LOG2_SLOTS, brlD 0, 22)]).brlFits 0 = false ∧
    (hashed [(BRL_T_CTRL.ZEROING, brlD 31, 1)]).regB BRL_T_CTRL.ZEROING (brlD 31) = true := by and_intros <;> decide +kernel

def queryEntry : Bytes := entry 0x202 [(32, 1, 31), (36, 4, 2), (40, 8, 0x20000), (48, 8, 0x40000)]
def buildEntry : Bytes := entry 0x201 [(32, 1, 31), (33, 1, 1), (36, 4, 2), (40, 8, 0x20000), (48, 8, 0x40000)]
def downEntry : Bytes := entry 0x205 [(32, 1, 31), (33, 1, 30), (34, 1, 4), (35, 1, 1), (48, 8, 0x40000)]
def nearEntry : Bytes := entry 0x204 [(32, 1, 31), (33, 1, 64), (34, 1, 8), (36, 4, 1), (40, 8, 0x20000), (48, 8, 0x40000)]
def ruleEntry : Bytes := entry 0x203 [(32, 1, 31), (33, 1, 31), (34, 1, 3), (35, 1, 1), (36, 1, 1), (38, 2, 4096), (40, 8, 0x40000), (48, 4, 64)]
def twoTables : State := hashed [(BRL_T_CTRL.EN, brlD 30, 1)]

theorem witness_HashOperations_query : let s := busy queryEntry twoTables; let e := parseSqe queryEntry
    s.sound ∧ Runs s 5 0x0202 (opOf queryEntry) e ∧ e.fld 48 8 ≠ 0 ∧ e.rsv [(33, 3), (56, 8)] = true ∧
    s.here [(e.fld 40 8, 8 * 2), (e.fld 48 8, 4 * 2)] ∧ s.brlReady 31 false = true ∧ s.brlZeroing [31] = false := by
  unfold Runs State.sound State.here; and_intros <;> decide +kernel

theorem witness_HashOperations_build : let s := busy buildEntry twoTables; let e := parseSqe buildEntry
    Runs s 5 0x0201 (opOf buildEntry) e ∧ e.fld 33 1 < 2 ∧ e.rsv [(34, 2), (56, 8)] = true ∧
    s.here ((e.fld 40 8, 8 * 2) :: optRange (e.fld 48 8) (4 * 2)) ∧ s.inHw (opOf buildEntry) e 3 := by
  unfold Runs State.here State.inHw; and_intros <;> decide +kernel

theorem witness_HashOperations_downsample : let s := busy downEntry twoTables; let e := parseSqe downEntry
    Runs s 5 0x0205 (opOf downEntry) e ∧ 1 ≤ e.fld 34 1 ∧ e.fld 34 1 ≤ 4 ∧ e.fld 35 1 < 2 ∧ e.rsv [(36, 12), (56, 8)] = true ∧
    s.here (optRange (e.fld 48 8) (4 * s.brlCount 31)) ∧ s.brlReady 30 false = true ∧ s.brlReady 31 false = true ∧
    s.brlZeroing [31, 30] = false ∧ s.inHw (opOf downEntry) e 2 ∧ s.brlCount 31 = 0 := by
  unfold Runs State.here State.inHw; and_intros <;> decide +kernel

/-- Without an output, the rows of DOWNSAMPLE lie nowhere. -/
theorem witness_HashOperations_downsample_modules : (parseSqe (entry 0x205 [(32, 1, 31), (33, 1, 30), (34, 1, 1)])).fld 48 8 = 0 ∧
    ∀ n k, modulesAt (optRange 0 n) = modulesAt (optRange 0 k) := ⟨by decide +kernel, fun _ _ => rfl⟩

theorem witness_HashOperations_near : let s := busy nearEntry twoTables; let e := parseSqe nearEntry
    Runs s 5 0x0204 (opOf nearEntry) e ∧ e.fld 33 1 = 64 ∧ e.fld 34 1 = 8 ∧ e.rsv [(35, 1), (56, 8)] = true ∧
    s.here [(e.fld 40 8, 8 * 1), (e.fld 48 8, 4 * 64 * 1)] := by
  unfold Runs State.here; and_intros <;> decide +kernel

theorem witness_HashOperations_rulebook : let s := busy ruleEntry twoTables; let e := parseSqe ruleEntry
    Runs s 5 0x0203 (opOf ruleEntry) e ∧ e.fld 34 1 ∈ [1, 3, 5] ∧ e.fld 35 1 ∈ [1, 2] ∧ e.fld 36 1 < 2 ∧ e.fld 38 2 = 4096 ∧
    e.fld 40 8 % 64 = 0 ∧ e.rsv [(37, 1), (52, 12)] = true ∧ s.here [(e.fld 40 8, e.fld 48 4)] ∧ s.inHw (opOf ruleEntry) e 4 ∧
    (⟨0, 0, 3, 1, true, 4096, 0⟩ : RbShape).size ≤ 64 ∧ 64 < (⟨1, 1, 3, 1, true, 4096, 1⟩ : RbShape).size := by
  unfold Runs State.here State.inHw; and_intros <;> decide +kernel

/-! ## Witnesses: facets -/

def tensor (base rows ch ty : Nat) : Bytes := leBytes 8 base ++ leBytes 4 rows ++ leBytes 2 ch ++ leBytes 1 ty ++ zeros 17
/-- A parameter block: IN, OUT, output channels and 40 bytes more. -/
def block (ch ty och oty cout : Nat) (more : Bytes) : Bytes :=
  tensor 0x50000 1 ch ty ++ tensor 0x51000 1 och oty ++ leBytes 8 0x60000 ++ zeros 14 ++ leBytes 2 cout ++ more ++ zeros (40 - more.length)
/-- A facet operator's operation; its block stands at 0x30000, its AUX at 0x40000. -/
def facetEntry (op sub aux : Nat) : Bytes := entry op [(33, 1, sub), (40, 8, aux), (48, 8, 0x30000)]
def facetBusy (op sub aux : Nat) (p auxBytes : Bytes) : State :=
  busy (facetEntry op sub aux) (withMem 0x40000 auxBytes (withMem 0x30000 p (domOf (domOf (up []) 45 .on .none) 109 .on .none)))
/-- A rulebook of one output row without pairs. -/
def ruleOne : Bytes := leBytes 4 1 ++ zeros 4 ++ [1] ++ zeros 3 ++ leBytes 2 1 ++ zeros 2 ++ leBytes 4 1 ++ zeros 4 ++ zeros 8 ++
  leBytes 8 128 ++ leBytes 8 64 ++ zeros 20 ++ [1]

/-- What every facet operator's clause assumes. -/
def FacetReady (op sub aux : Nat) (p x : Bytes) : Prop :=
  let s := facetBusy op sub aux p x; let e := parseSqe (facetEntry op sub aux); let o := opOf (facetEntry op sub aux)
  Runs s 5 op o e ∧ s.sound ∧ o.reply = none ∧ o.prog = [] ∧ (5 ∈ functionsOf e → s.inHw o e 5) ∧ s.inHw o e 6 ∧
  s.peek (s.lin (e.fld 48 8)) 128 = p ∧ s.rangesErr [(e.fld 48 8, 128)] = none ∧ blockOk e p = true ∧ s.rlzRows = []

def macBlock : Bytes := block 16 0 32 3 32 []
def sameBlock : Bytes := block 16 4 16 4 0 []
def groupBlock : Bytes := block 16 0 32 3 32 (zeros 8 ++ [1])
def attnBlock : Bytes := block 48 1 16 1 0 ([16, 0, 0, 0, 1, 0, 0, 0] ++ leBytes 8 0x70000)
def aux01 : Bytes := leBytes 4 0 ++ leBytes 4 1

theorem witness_FacetOperators_spconv : FacetReady 0x301 0 0x40000 macBlock ruleOne ∧
    (let s := facetBusy 0x301 0 0x40000 macBlock ruleOne; let e := parseSqe (facetEntry 0x301 0 0x40000)
     facetFields e (e.fld 33 1 == 0) true true true = true ∧ s.spconvErr e macBlock = none ∧
     tileList (List.range (s.rbOf e).count) (blocks macBlock) ≠ []) := by
  unfold FacetReady Runs State.sound State.inHw; and_intros <;> decide +kernel
theorem witness_FacetOperators_gemm : FacetReady 0x302 0 0 macBlock [] ∧
    (let s := facetBusy 0x302 0 0 macBlock []; let e := parseSqe (facetEntry 0x302 0 0)
     facetFields e (e.fld 33 1 == 0) false true false = true ∧ s.gemmErr macBlock = none) := by
  unfold FacetReady Runs State.sound State.inHw; and_intros <;> decide +kernel
theorem witness_FacetOperators_grouped : FacetReady 0x303 0xFF 0x40000 groupBlock aux01 ∧
    (let s := facetBusy 0x303 0xFF 0x40000 groupBlock aux01; let e := parseSqe (facetEntry 0x303 0xFF 0x40000)
     facetFields e (e.fld 33 1 < 16 || e.fld 33 1 == 0xFF) true true false = true ∧ s.groupedErr e groupBlock = none ∧
     (∀ m ∈ s.farModules e, m = s.self)) ∧
    ∀ x, (facetBusy 0x303 0xFF 0x40000 groupBlock aux01).tileIsLocal (parseSqe (facetEntry 0x303 0xFF 0x40000))
      ((facetBusy 0x303 0xFF 0x40000 groupBlock aux01).groupList (parseSqe (facetEntry 0x303 0xFF 0x40000)) groupBlock) x = true := by
  refine ⟨?_, ?_, fun x => ?_⟩
  · unfold FacetReady Runs State.sound State.inHw; and_intros <;> decide +kernel
  · and_intros <;> decide +kernel
  · have h : (parseSqe (facetEntry 0x303 0xFF 0x40000)).fld 33 1 = 0xFF := by decide +kernel
    simp [State.tileIsLocal, h]
theorem witness_FacetOperators_elementwise : FacetReady 0x304 4 0 sameBlock [] ∧
    (let s := facetBusy 0x304 4 0 sameBlock []; let e := parseSqe (facetEntry 0x304 4 0)
     facetFields e (e.fld 33 1 ≤ 5) false false false = true ∧ s.elementErr e sameBlock = none) := by
  unfold FacetReady Runs State.sound State.inHw; and_intros <;> decide +kernel
theorem witness_FacetOperators_norm : FacetReady 0x305 1 0 sameBlock [] ∧
    (let s := facetBusy 0x305 1 0 sameBlock []; let e := parseSqe (facetEntry 0x305 1 0)
     facetFields e (e.fld 33 1 ≤ 1) false false false = true ∧ s.normErr sameBlock = none) := by
  unfold FacetReady Runs State.sound State.inHw; and_intros <;> decide +kernel
theorem witness_FacetOperators_pool : FacetReady 0x306 1 0x40000 sameBlock ruleOne ∧
    (let s := facetBusy 0x306 1 0x40000 sameBlock ruleOne; let e := parseSqe (facetEntry 0x306 1 0x40000)
     facetFields e (e.fld 33 1 ≤ 1) true false false = true ∧ s.poolErr e sameBlock = none) := by
  unfold FacetReady Runs State.sound State.inHw; and_intros <;> decide +kernel
theorem witness_FacetOperators_attn : FacetReady 0x307 1 0x40000 attnBlock aux01 ∧
    (let s := facetBusy 0x307 1 0x40000 attnBlock aux01; let e := parseSqe (facetEntry 0x307 1 0x40000)
     facetFields e (1 ≤ e.fld 33 1 && e.fld 33 1 ≤ 16) true false false = true ∧ s.attnErr e attnBlock = none) := by
  unfold FacetReady Runs State.sound State.inHw; and_intros <;> decide +kernel
theorem witness_FacetOperators_softmax : FacetReady 0x308 0 0 sameBlock [] ∧
    (let s := facetBusy 0x308 0 0 sameBlock []; let e := parseSqe (facetEntry 0x308 0 0)
     facetFields e (e.fld 33 1 == 0) false false false = true ∧ s.softmaxErr sameBlock = none) := by
  unfold FacetReady Runs State.sound State.inHw; and_intros <;> decide +kernel
/-- An input of no rows has no tile. -/
theorem witness_FacetOperators_empty : tileList (List.range (ceilDiv 0 64)) 1 = [] := by decide

/-- The state a command answers. -/
def nextOf (o : Outcome State Fault Refusal) (s : State) : State := match o with
  | .next t => t
  | _ => s

/-- GEMM started on the one facet that is up. -/
def tiled (total : Nat) : State :=
  let s := facetBusy 0x302 0 0 macBlock []
  let s := s.setOp 5 { opOf (facetEntry 0x302 0 0) with phase := .held heldTiles [] }
  (s.setRun 5 ⟨macBlock, [], 100, none, total, 0, 0, false, none, false⟩).setFacet 5 ⟨some ⟨5, 0, 0, 0, none⟩, none, none⟩

theorem witness_TileComplete : ∀ n ∈ [1, 2], let s := tiled n; let e := parseSqe (facetEntry 0x302 0 0); let t : Tile := ⟨5, 0, 0, 0, none⟩
    let x := (mx (s.feedFacet 5)).tile 5 (s.run 5) e t
    s.running = true ∧ s.facetUp 5 = true ∧ s.facetFailed 5 = false ∧ 5 ∉ s.topaz.held ∧ (s.facet 5).cur = some t ∧
    s.tileOp t = some e ∧ (∀ m ∈ s.farModules e, m = s.self) ∧ (s.run 5).badWeight = none ∧ (pOut (s.run 5).param).rlz = false ∧
    x.m.bad = false ∧ x.badW = false ∧ (∀ r ∈ x.rows, ∀ v ∈ r.2, v ≠ none) ∧ ((s.run 5).ran + 1 = (s.run 5).total ↔ n = 1) := by
  decide +kernel

theorem witness_TileComplete_sound :
    ((mx ((tiled 1).feedFacet 5)).tile 5 ((tiled 1).run 5) (parseSqe (facetEntry 0x302 0 0)) ⟨5, 0, 0, 0, none⟩).m.s.sound := by
  unfold State.sound; and_intros <;> decide +kernel

theorem witness_VectorsAndFormats :
    (facetBusy 0x304 4 0 sameBlock []).sound ∧ (pIn sameBlock).rlz = false ∧ pScale (zeros 72 ++ leBytes 8 0x60000 ++ zeros 48) ≠ 0 ∧
    (let p := block 16 4 16 4 0 (tensor 0x52000 1 16 4); (pIn2 p).rlz = false ∧ (pIn2 p).rows = (pIn p).rows ∧ (pIn2 p).ch = (pIn p).ch) ∧
    (∀ k, k ≤ [(2 ^ 31 - 1 : Int), -1].length → -(2 ^ 31) ≤ ([(2 ^ 31 - 1 : Int), -1].take k).sum ∧ ([(2 ^ 31 - 1 : Int), -1].take k).sum < 2 ^ 31) ∧
    (2 ^ 31 : Int) ≤ ([(2 ^ 31 - 1 : Int), 1].take 2).sum ∧ (∀ x ∈ [0, 255], x < 256 ^ 1) := by
  unfold State.sound
  refine ⟨by and_intros <;> decide +kernel, by decide +kernel, by decide +kernel, by and_intros <;> decide +kernel, ?_, by decide, by decide⟩
  intro k h
  have : k = 0 ∨ k = 1 ∨ k = 2 := by simp at h; omega
  rcases this with rfl | rfl | rfl <;> decide
/-! ## Witnesses: tables and experts -/

/-- Table 5 of 8 rows and 16 columns, its one version at 0x100000, on this module. -/
def tableL : List (Fld × Nat × Nat) :=
  [(TD_CTRL.EN, tdD 5, 1), (TD_CTRL.OPTIM, tdD 5, 1), (TD_CTRL.MODULES, tdD 5, 1), (TD_CTRL.VERSIONS_VALID, tdD 5, 3),
   (TD_ROWS_M1.ROWS_M1, tdD 5, 7), (TD_DIM.DIM, tdD 5, 16), (TD_CAP.CAP, tdD 5, 8), (TD_CAP.CAP, tdD 5 + 4, 8), (TD_SEG_BASE_LO.ADDR, tdD 5, 0x100000), (TD_SEG_BASE_LO.ADDR, tdD 5 + 8, 0x200000),
   (TD_STAGE_ROWS.ROWS, tdD 5, 4)]
def tabled (l : List (Fld × Nat × Nat)) (b : Bytes) (block : Bytes) : State :=
  busy b (withMem 0x20000 block (up (tableL ++ l)))

theorem tableHere_of {s : State} {o : Op} {e : Sqe} {t : Nat} {v : Option Nat} (h : s.tableIssuer o e = true ∧
    s.regB TD_CTRL.EN (tdD t) = true ∧ s.tMods t = [s.self] ∧ (s.tPlace t = 2 → s.self = 0)) (hv : v = none ∨ v = some 0xFF) :
    s.tableHere o e t v := by
  refine ⟨h.1, h.2.1, h.2.2.1, h.2.2.2, fun w hw => ?_⟩
  rcases hv with hv | hv <;> simp [hv] at hw
  exact .inl hw.symm

/-- Bags of a pooled lookup: one index in one bag. -/
def lookupEntry : Bytes := entry 0x401 [(32, 1, 5), (33, 1, 1), (34, 1, 2), (35, 1, 0xFF), (36, 4, 1), (40, 4, 1), (48, 8, 0x20000)]
def lookupBlock : Bytes := leBytes 8 0x30000 ++ leBytes 8 0x31000 ++ zeros 8 ++ leBytes 8 0x32000 ++ leBytes 8 0x33000 ++ zeros 24
def prefetchEntry : Bytes := entry 0x406 [(32, 1, 5), (35, 1, 0xFF), (36, 4, 1), (48, 8, 0x30000), (56, 8, 0x40000)]

theorem witness_TableLookups : let s := withMem 0x31000 (leBytes 4 0 ++ leBytes 4 1) (tabled [] lookupEntry lookupBlock)
    let e := parseSqe lookupEntry; let p := s.peek (s.lin (e.fld 48 8)) 64
    s.sound ∧ Runs s 5 0x0401 (opOf lookupEntry) e ∧ lookupOk e = true ∧ s.rangesErr [(e.fld 48 8, 64)] = none ∧
    allZero (byteSlice p 40 24) = true ∧ s.rangesErr (s.lookupRanges e p) = none ∧ offsOk [0, 1] 1 = true ∧
    s.tDim 5 = 16 := by unfold Runs State.sound; and_intros <;> decide +kernel
theorem witness_TableLookups_here : (tabled [] lookupEntry lookupBlock).tableHere (opOf lookupEntry) (parseSqe lookupEntry) 5 (some 0xFF) :=
  tableHere_of (by decide +kernel) (.inr rfl)
theorem witness_TableLookups_prefetch : let s := tabled [] prefetchEntry []; let e := parseSqe prefetchEntry
    Runs s 5 0x0406 (opOf prefetchEntry) e ∧ e.rsv [(33, 2), (40, 8)] = true ∧
    s.rangesErr [(e.fld 48 8, 4 * 1), (e.fld 56 8, 64 + 4 * 16 * 1 + 64 * ceilDiv 1 512)] = none := by
  unfold Runs; and_intros <;> decide +kernel

def updateEntry (mode : Nat) : Bytes := entry 0x402 [(32, 1, 5), (33, 1, mode), (35, 1, 0xFF), (36, 4, 12), (40, 4, 1), (48, 8, 0x20000)]
def updateBlock : Bytes := leBytes 8 0x30000 ++ zeros 16 ++ leBytes 8 0x32000 ++ zeros 32
/-- Step 12 of table 5 is open. -/
def stepOpen (mode : Nat) : State :=
  { tabled [(TD_CTRL.STEP_OPEN, tdD 5, 1), (TD_STEP.STEP, tdD 5, 12)] (updateEntry mode) updateBlock with steps := [(5, ⟨0, [0], [], 0, [], 0, false⟩)] }

theorem witness_TableUpdates : ∀ mode ∈ [0, 1, 2], let s := tabled [] (updateEntry mode) updateBlock; let e := parseSqe (updateEntry mode)
    let p := s.peek (s.lin (e.fld 48 8)) 64
    s.updateErr e = none ∧ e.fld 33 1 = mode ∧ allZero (byteSlice p 32 8) = true ∧ allZero (byteSlice p 52 12) = true ∧
    s.rangesErr (s.stageRanges e p) = none ∧ s.stepFits e = true ∧ bit (e.fld 34 1) 1 = false ∧
    s.regB TD_CONTRIB.OVERFLOW (tdD 5) = false ∧ s.reg TD_CONTRIB.COUNT (tdD 5) + 1 ≤ 2 ^ 23 ∧ s.stageFits 5 0 [] = true ∧
    s.stageFits 5 0 (List.replicate 5 (0, [])) = false ∧ s.hasOptim 5 = true ∧
    (stepOpen mode).commitFits (opOf (updateEntry mode)) e = true ∧ (opOf (updateEntry mode)).prog = [] ∧
    eSlot (s.rawEntry 5 0 0 7) < s.tCap 5 (eClass (s.rawEntry 5 0 0 7)) ∧
    s.rangesErr [(fieldLE p 0 8, 4 * 1), (fieldLE p 24 8, 1 * roundUp (4 * s.tDim 5) 16)] = none := by decide +kernel
theorem witness_TableUpdates_runs : Runs (tabled [] (updateEntry 0) updateBlock) 5 0x0402 (opOf (updateEntry 0)) (parseSqe (updateEntry 0)) ∧
    Runs (tabled [] (updateEntry 2) updateBlock) 5 0x0402 (opOf (updateEntry 2)) (parseSqe (updateEntry 2)) ∧
    Runs (stepOpen 1) 5 0x0402 (opOf (updateEntry 1)) (parseSqe (updateEntry 1)) ∧ (stepOpen 1).sound ∧
    (stepOpen 1).inHw (opOf (updateEntry 1)) (parseSqe (updateEntry 1)) 8 := by
  unfold Runs State.sound State.inHw; and_intros <;> decide +kernel
/-- A COMMIT of table 5 whose new records are computed, `k` rows of them. -/
def committing (stage k : Nat) : State :=
  let e := updateEntry 1
  { tabled [(TD_CTRL.STEP_OPEN, tdD 5, 1), (TD_CTRL.BUSY, tdD 5, 1)] e updateBlock with
    ops := [(5, { opOf e with prog := [2] })],
    steps := [(5, ⟨0, [0], [], stage, List.replicate k (7, [some (0, List.replicate 16 0)]), 0, false⟩)] }
theorem witness_TableUpdates_continued : ∀ k ∈ [2, 3], ∀ n ∈ [1, 1025], let s := committing k n; let e := parseSqe (updateEntry 1)
    ∃ st ∈ (SMap.get? s.steps 5).toList, st.stage = k ∧ st.news.length = n ∧ s.memWaits = false ∧ s.tMods 5 = [s.self] ∧ e.fld 33 1 = 1 := by
  decide +kernel
theorem witness_TableUpdates_continued_runs :
    Runs (committing 3 1) 5 0x0402 { opOf (updateEntry 1) with prog := [2] } (parseSqe (updateEntry 1)) ∧ (committing 3 1).sound := by
  unfold Runs State.sound; and_intros <;> decide +kernel
theorem witness_TableUpdates_here (mode : Nat) (h : mode = 0 ∨ mode = 1 ∨ mode = 2) :
    (tabled [] (updateEntry mode) updateBlock).tableHere (opOf (updateEntry mode)) (parseSqe (updateEntry mode)) 5 (some 0xFF) := by
  rcases h with rfl | rfl | rfl <;> exact tableHere_of (by decide +kernel) (.inr rfl)
theorem witness_TableUpdates_enable : let s := up (tableL ++ [(TD_CTRL.EN, tdD 5, 0), (SPN_TD_SEL.TABLE, 0, 5), (TD_STAGE_ROWS.ROWS, tdD 5, 0)])
    s.reg SPN_TD_SEL.TABLE = 5 ∧ s.regB TD_CTRL.EN (tdD 5) = false ∧ s.tableSound 5 = true ∧ s.tMods 5 = [s.self] ∧
    (up []).tableSound 0 = false := by
  refine ⟨by decide +kernel, by decide +kernel, ?_, by decide +kernel, by decide +kernel⟩
  have h : (up (tableL ++ [(TD_CTRL.EN, tdD 5, 0), (SPN_TD_SEL.TABLE, 0, 5), (TD_STAGE_ROWS.ROWS, tdD 5, 0)])).stageArea 5 0 = (0, 0) := by
    have a : (up (tableL ++ [(TD_CTRL.EN, tdD 5, 0), (SPN_TD_SEL.TABLE, 0, 5), (TD_STAGE_ROWS.ROWS, tdD 5, 0)])).reg TD_STAGE_ROWS.ROWS (tdD 5) = 0 := by decide +kernel
    have b : (up (tableL ++ [(TD_CTRL.EN, tdD 5, 0), (SPN_TD_SEL.TABLE, 0, 5), (TD_STAGE_ROWS.ROWS, tdD 5, 0)])).reg64 TD_STAGE_BASE_LO.ADDR TD_STAGE_BASE_HI.ADDR (tdD 5) = 0 := by decide +kernel
    simp [State.stageArea, a, b]
  have m : (up (tableL ++ [(TD_CTRL.EN, tdD 5, 0), (SPN_TD_SEL.TABLE, 0, 5), (TD_STAGE_ROWS.ROWS, tdD 5, 0)])).tMods 5 = [0] := by decide +kernel
  simp only [State.tableSound, m, List.all_cons, List.all_nil, State.partFits, h]
  decide +kernel

def tableEntry (op sub : Nat) (l : List (Nat × Nat × Nat)) : Bytes := entry op ((32, 1, 5) :: (33, 1, sub) :: l)
def switchEntry (v : Nat) : Bytes := tableEntry 0x403 v []
def hotEntry : Bytes := tableEntry 0x405 1 [(36, 4, 1), (48, 8, 0x30000)]
def reclassEntry : Bytes := tableEntry 0x407 7 [(36, 2, 100), (38, 2, 10), (40, 2, 1)]
def moveEntry : Bytes := tableEntry 0x404 3 []
/-- A pooled table on modules 0 and 3 of an active span that this module heads. -/
def pooled (cap : Nat) : State :=
  tabled ([(TD_CTRL.PLACEMENT, tdD 5, 2), (TD_CTRL.MODULES, tdD 5, 9), (TD_CAP.CAP, tdD 5, cap), (TD_CTRL.SHARD_LOG2, tdD 5, 0),
    (SPAN_STATUS.STATE, 0, 2), (SPAN_MEMBER_STATUS.STATE, 4 * 3, 2)]) moveEntry []

theorem witness_TablePlacement : Runs (tabled [] (switchEntry 1) []) 5 0x0403 (opOf (switchEntry 1)) (parseSqe (switchEntry 1)) ∧
    (tabled [] (switchEntry 1) []).sound ∧ (parseSqe (switchEntry 1)).rsv [(34, 30)] = true ∧
    (tabled [] (switchEntry 1) []).tVersions 5 = [0, 1] ∧ (tabled [] (switchEntry 1) []).activeVer 5 = 0 ∧
    (tabled [] (switchEntry 1) []).regB TD_CTRL.BUSY (tdD 5) = false ∧ (tabled [] (switchEntry 1) []).readersOf 5 0 = false ∧
    (let s := { tabled [] (switchEntry 1) [] with ops := [(5, opOf (switchEntry 1)), (6, { opOf lookupEntry (.held heldRemote []) with prog := [5, 0] })] }
     s.readersOf 5 0 = true) ∧
    Runs (tabled [(TD_CTRL.HOTSET_EN, tdD 5, 1)] hotEntry []) 5 0x0405 (opOf hotEntry) (parseSqe hotEntry) ∧
    (let e := parseSqe hotEntry; e.fld 33 1 < 2 ∧ e.rsv [(34, 2), (40, 8), (56, 8)] = true ∧ (up []).rangesErr [(e.fld 48 8, 4 * 1)] = none) ∧
    (tabled [(TD_CTRL.HOTSET_EN, tdD 5, 1)] hotEntry []).regB TD_CTRL.HOTSET_EN (tdD 5) = true ∧
    Runs (tabled [] reclassEntry []) 5 0x0407 (opOf reclassEntry) (parseSqe reclassEntry) ∧
    (parseSqe reclassEntry).fld 33 1 < 8 ∧ (parseSqe reclassEntry).rsv [(34, 2), (45, 19)] = true ∧
    (tabled [] reclassEntry []).inHw (opOf reclassEntry) (parseSqe reclassEntry) 9 ∧
    eClass ((tabled [] reclassEntry []).rawEntry 5 0 0 0) = 0 ∧ eBad ((tabled [] reclassEntry []).rawEntry 5 0 0 0) = false ∧
    (tabled [] reclassEntry []).freeSlots 5 0 0 0 3 = [] ∧ (tabled [] reclassEntry []).freeSlots 5 0 0 0 1 ≠ [] := by
  unfold Runs State.sound State.inHw; and_intros <;> decide +kernel
theorem witness_TablePlacement_here : ∀ b, b = switchEntry 1 ∨ b = hotEntry ∨ b = reclassEntry →
    (tabled [] b []).tableHere (opOf b) (parseSqe b) 5 none := by
  rintro b (rfl | rfl | rfl) <;> exact tableHere_of (by decide +kernel) (.inl rfl)
theorem witness_TablePlacement_migrate : ∀ cap ∈ [4, 8], let s := pooled cap; let e := parseSqe moveEntry
    s.tableIssuer (opOf moveEntry) e = true ∧ s.regB TD_CTRL.EN (tdD 5) = true ∧ (∀ m ∈ s.tMods 5, s.activeModule m = true) ∧
    e.fld 33 1 < 4 ∧ e.rsv [(34, 2), (40, 24)] = true ∧ s.tPlace 5 = 2 ∧ s.migrating 5 = false ∧ s.switching 5 = false ∧
    (opOf moveEntry).prog = [] ∧ e.fld 36 4 < s.shards 5 ∧
    e.fld 33 1 ∈ s.tMods 5 ∧ s.shardHome 5 0 (e.fld 36 4) ≠ e.fld 33 1 ∧
    s.destFits 5 0 3 ((s.shardRowList 5 0).filter fun r => eHome (s.rawEntry 5 0 0 r) != 3 &&
      eSlot (s.rawEntry 5 0 0 r) < s.tCap 5 (eClass (s.rawEntry 5 0 0 r))) = (cap == 8) ∧
    eSlot (s.rawEntry 5 0 0 0) < s.tCap 5 (eClass (s.rawEntry 5 0 0 0)) ∧ s.freeSlots 5 0 0 3 0 ≠ [] := by decide +kernel

/-- A TABLE_MIGRATE whose rows are copied. -/
def migrating : State := { pooled 8 with
  ops := [(5, { opOf moveEntry with prog := [1] })], migs := [(5, ⟨0, 0, 3, 0, [(0, 0)], 1, false, false⟩)] }
theorem witness_TablePlacement_continued : Runs migrating 5 0x0404 { opOf moveEntry with prog := [1] } (parseSqe moveEntry) ∧
    migrating.memWaits = false ∧ SMap.get? migrating.migs 5 = some ⟨0, 0, 3, 0, [(0, 0)], 1, false, false⟩ ∧ migrating.sound ∧
    migrating.freeSlots 5 0 0 3 (eClass (migrating.rawEntry 5 0 0 1)) ≠ [] ∧
    eSlot (migrating.rawEntry 5 0 0 0) < migrating.tCap 5 (eClass (migrating.rawEntry 5 0 0 0)) := by
  unfold Runs State.sound; and_intros <;> decide +kernel

/-- Layer 2 of two experts, its queues 512 and 513 of this module, with a pool of `segs` segments. -/
def layered (segs : Nat) (l : List (Fld × Nat × Nat)) : State :=
  up ([(AGT_CTRL.EN, 0, 1), (LY_CTRL.EN, lyD 2, 1), (LY_CTRL.NUM_EXPERTS, lyD 2, 2), (LY_CAP.CAP, lyD 2, 2),
    (AGT_POOL_BASE_LO.ADDR, selD 0, 0x100000), (AGT_POOL_SEGS.SEGS, selD 0, segs), (AGT_HQ_SEL.HQ, 0, 512), (AGT_LAYER_SEL.LAYER, 0, 3)] ++ l)
def queued (n : Nat) (changed : Bool) : State :=
  (layered 4 []).setHq 0 512 ⟨if n = 0 then [] else [(0, List.replicate n 64)], 0, 0, changed, none⟩

theorem witness_Experts_queues : (queued 0 true).running = true ∧ (queued 0 true).activeModule 0 = true ∧
    ((queued 0 true).hq 0 512).changed = true ∧ (queued 0 false).hqItems 0 512 = [] ∧ (queued 1 false).hqItems 0 512 ≠ [] ∧
    (queued 1 false).sound ∧ (queued 1 false).hqItemOk 0 512 (zeros 64) = true ∧
    (let h := (queued 1 false).hq 0 512; h.head ≤ (h.segs.map (·.2.length)).sum ∧ h.depth + 1 = (queued 1 false).hqCap 0 512 ∧
      h.segs.getLast? = some (0, [64]) ∧ segRoom (0, [64]) 64 = true) ∧
    ((queued 0 false).hq 0 512).depth = 0 ∧ (queued 0 false).freeSegs 0 ≠ [] ∧
    (queued 2 false).hqCap 0 512 ≤ ((queued 2 false).hq 0 512).depth ∧ (layered 0 []).freeSegs 0 = [] ∧
    (layered 0 []).hqItemOk 0 512 (zeros 64) = true ∧ ((layered 0 []).hq 0 512).segs = [] ∧
    (queued 0 false).reg AGT_HQ_SEL.HQ = 512 ∧ (layered 4 [(AGT_HQ_SEL.HQ, 0, 511)]).reg AGT_HQ_SEL.HQ = 511 ∧
    (layered 4 []).lyEn 3 = false ∧ (layered 4 [(LY_HQ_BASE.BASE, lyD 3, 600)]).layerSound 3 = true ∧ (layered 4 []).layerSound 3 = false := by
  unfold State.sound; and_intros <;> decide +kernel

def layerEntry (op : Nat) (l : List (Nat × Nat × Nat)) : Bytes := entry op ([(32, 1, 2), (33, 1, 1), (36, 4, 1)] ++ l)
def routeEntry : Bytes := layerEntry 0x501 [(40, 8, 0x30000), (48, 8, 0x31000), (56, 4, 9)]
def scatterEntry : Bytes := layerEntry 0x502 [(40, 8, 0x30000), (48, 8, 0x31000), (56, 8, 0x20000)]
def combineEntry : Bytes := layerEntry 0x503 [(35, 1, 1), (40, 8, 0x30000), (48, 8, 0x31000), (56, 8, 0x20000)]
def statsEntry : Bytes := entry 0x504 [(32, 1, 2), (33, 1, 1), (48, 8, 0x31000)]
def combineBlock : Bytes := leBytes 8 0x32000 ++ zeros 16 ++ leBytes 2 2048 ++ zeros 38

theorem witness_Experts_route : let s := busy routeEntry (layered 4 []); let e := parseSqe routeEntry
    Runs s 5 0x0501 (opOf routeEntry) e ∧ s.layerIssuer (opOf routeEntry) e = true ∧ s.layerReady 2 = true ∧ s.routeErr e = none ∧
    s.inHw (opOf routeEntry) e 7 ∧ (∀ m ∈ modulesAt [(e.fld 40 8, 1), (e.fld 48 8, 1)], m = s.self) := by
  unfold Runs State.inHw; and_intros <;> decide +kernel

theorem witness_Experts_scatter : ∀ segs ∈ [0, 4], let s := withMem 0x20000 (leBytes 8 0x32000) (busy scatterEntry (layered segs []))
    let e := parseSqe scatterEntry; let p := s.peek (s.lin (e.fld 56 8)) 64
    let slots := slotsOf (s.peek (s.lin (e.fld 48 8)) 8) 1 1
    s.lyMods 2 = [s.self] ∧ s.scatterFields e (e.fld 34 1 < 2 && e.rsv [(35, 1)]) = none ∧ allZero (byteSlice p 20 44) = true ∧
    fieldLE p 8 8 = 0 ∧ s.rangesErr [(e.fld 40 8, 1 * s.lyItem 2), (e.fld 48 8, 8 * 1 * 1), (fieldLE p 0 8, 4 * (2 + 1))] = none ∧
    s.layerBusy 2 = false ∧ bit (e.fld 34 1) 0 = false ∧ s.lyPerm 2 = false ∧
    (s.segsNeeded 2 0 slots ≤ s.poolFree 0 ↔ segs = 4) := by decide +kernel
theorem witness_Experts_runs : Runs (withMem 0x20000 (leBytes 8 0x32000) (busy scatterEntry (layered 4 []))) 5 0x0502 (opOf scatterEntry) (parseSqe scatterEntry) ∧
    Runs (busy combineEntry (layered 4 [])) 5 0x0503 (opOf combineEntry) (parseSqe combineEntry) ∧
    Runs (busy statsEntry (layered 4 [])) 5 0x0504 (opOf statsEntry) (parseSqe statsEntry) := by
  unfold Runs; and_intros <;> decide +kernel

theorem witness_Experts_combine : let s := withMem 0x20000 combineBlock (busy combineEntry (layered 4 [])); let e := parseSqe combineEntry
    let p := s.peek (s.lin (e.fld 56 8)) 64
    s.scatterFields e (e.fld 34 1 < 4 && (e.fld 35 1 == 1 || e.fld 35 1 == 4)) = none ∧ allZero (byteSlice p 26 38) = true ∧
    fieldLE p 24 2 = 2048 ∧ fieldLE p 8 8 = 0 ∧
    s.rangesErr [(fieldLE p 0 8, 4 * (2 + 1)), (e.fld 40 8, leNat (s.peek (s.lin (fieldLE p 0 8) + 4 * 2) 4) * roundUp (2 * 2048) 16),
      (e.fld 48 8, 1 * roundUp (4 * fieldLE p 24 2) 16)] = none ∧ bit (e.fld 34 1) 1 = false ∧ s.nextExpert 2 0 = none ∧
    (queued 0 true).nextExpert 2 0 = some 0 ∧ (queued 1 false).nextExpert 2 0 = some 0 := by decide +kernel

/-- What a SCATTER of one slot for expert 1 has still to push, and a COMBINE that has still to empty queue 512. -/
def scatterLeft : ScatterRun := ⟨false, false, false, [1, 0, 0, 0], 9, 1, [0, 0], [⟨0, 0, 1, 0⟩]⟩
def combineLeft : CombineRun := ⟨false, 0, 2048, [0, 1, 1], []⟩
def leftOver (b : Bytes) (prog : List Nat) (s : State) : State := { s with ops := [(5, { opOf b with prog := prog })] }

theorem witness_Experts_continued : decodeScatter (encodeScatter scatterLeft) = scatterLeft ∧ decodeCombine (encodeCombine combineLeft) = combineLeft ∧
    encodeScatter scatterLeft ≠ [] ∧ encodeCombine combineLeft ≠ [] ∧
    (let s := leftOver scatterEntry (encodeScatter scatterLeft) (layered 4 []); let e := parseSqe scatterEntry
     Runs s 5 0x0502 { opOf scatterEntry with prog := encodeScatter scatterLeft } e ∧ s.memWaits = false ∧ s.layerReady 2 = true ∧
     s.layerIssuer { opOf scatterEntry with prog := encodeScatter scatterLeft } e = true ∧
     (∀ m ∈ s.lyMods 2, m = s.self ∧ s.activeModule m = true) ∧ s.rangesErr [(e.fld 40 8, 1 * s.lyItem 2)] = none ∧
     (let h := s.hq (s.expMod 2 1) (s.expHq 2 1); h.epoch = scatterLeft.epochs.getD 1 0 ∧ h.segs = [] ∧ h.head = 0) ∧
     ceilDiv 1 (s.itemsPerSeg 2) ≤ (s.freeSegs (s.expMod 2 1)).length) ∧
    (∀ c ∈ [true, false], let s := leftOver combineEntry (encodeCombine combineLeft) (queued 1 c); let e := parseSqe combineEntry
     Runs s 5 0x0503 { opOf combineEntry with prog := encodeCombine combineLeft } e ∧ s.nextExpert 2 0 = some 0 ∧
     (s.hq (s.expMod 2 0) (s.expHq 2 0)).changed = c ∧ s.nextExpert 2 1 = none) := by
  unfold Runs; and_intros <;> decide +kernel

theorem witness_Experts_stats : let s := busy statsEntry (layered 4 []); let e := parseSqe statsEntry
    e.fld 33 1 < 2 ∧ e.rsv [(34, 14), (56, 8)] = true ∧ s.here [(e.fld 48 8, 64 + 32 * 2)] := by
  unfold State.here; and_intros <;> decide +kernel
/-! ## Witnesses: the span -/

/-- Port 3 in one state, trained or training, of a module in one span state; its cable is in. -/
def linkIs (p st span role : Nat) : State :=
  let s := up [(SPAN_CTRL.EN, 0, 1), (SPAN_CTRL.ROLE, 0, role), (SPAN_P_STATUS.STATE, spD p, st), (SPAN_STATUS.STATE, 0, span)]
  let s := domOf (domOf s (220 + 2 * p) .on .none) (221 + 2 * p) .on .none
  { s with node := { s.node with spres := 2 ^ p } }
def hdr (seq src dst : Nat) : FrameHdr := ⟨0, 0, src, dst, 0, seq, 0, [0, 0, 0], 7⟩
def hello (corr : Nat) : Hello := ⟨1, 2, 3, 0, 3, 0, 0, 0, corr, []⟩

theorem witness_SpanLinks : (linkIs 3 1 0 0).ready = true ∧ (linkIs 3 1 0 0).reg SPAN_P_STATUS.STATE (spD 3) = 1 ∧
    (linkIs 3 1 0 0).mayTrain 3 = true ∧ ((linkIs 3 1 0 0).dom 226).up = true ∧ ((linkIs 3 1 0 0).dom 227).up = true ∧
    (linkIs 3 1 0 0).lanesFit 3 4 = true ∧ (linkIs 3 3 0 0).reg SPAN_P_STATUS.STATE (spD 3) = 3 ∧
    ((linkIs 3 3 0 0).link 3).queue = [] ∧ (linkIs 3 3 0 0).anyHeld heldCal [1, 3] = false ∧ (linkIs 3 3 0 0).isHead = false ∧
    (linkIs 3 2 0 0).portUp 3 = true ∧
    (let s := (linkIs 3 2 0 0).setLink 3 { linkReset with replay := [(0, ⟨hdr 4095 0 0, .leave⟩)], nakked := true }
     (s.link 3).replay ≠ [] ∧ (∀ x ∈ (s.link 3).replay, x.2.hdr.seq < 4096) ∧ (s.link 3).nakked = true) ∧
    (hdr 0 0 0).seq % 4096 = ((linkIs 3 2 0 0).link 3).rxSeq ∧ (hdr 1 0 0).seq % 4096 ≠ ((linkIs 3 2 0 0).link 3).rxSeq ∧
    laterThan 12 (hdr 1 0 0).seq 0 = true ∧ laterThan 12 (hdr 4095 0 0).seq 0 = false ∧ 4 ∈ [1, 2, 4] ∧
    (let s := (linkIs 3 3 0 0).setLink 3 { linkReset with replay := [(0, ⟨hdr 4095 0 0, .leave⟩)] }
     s.reg SPAN_P_STATUS.STATE (spD 3) = 3 ∧ (s.link 3).queue = [] ∧ (∀ x ∈ (s.link 3).replay, x.2.hdr.seq < 4096) ∧
     s.mayTrain 3 = true ∧ s.lanesFit 3 1 = true) ∧
    (∀ b ∈ [0, 1], let o := opOf (entry 0x20 []) (.held heldLanes [3, b, 0, 0])
     ({ linkIs 3 1 0 0 with ops := [(5, o)] } : State).op? 5 = some o ∧ o.phase = .held heldLanes [3, b, 0, 0]) := by and_intros <;> decide +kernel

/-- The state that takes a frame of a virtual channel at port 3. -/
def gotAt (s : State) (v : Nat) (h : FrameHdr) : State :=
  let l := s.link 3
  (s.setLink 3 { l with rxSeq := (l.rxSeq + 1) % 4096, nakked := false, owed := l.owed.modify v (· + 1) }).takeAck 3 h

/-- That state, its port's domains woken by a HELLO. -/
def wokenAt (s : State) (h : FrameHdr) : State := ((gotAt s 0 h).wakeOn 226 7).wakeOn 227 7
/-- A member with number 2. -/
def second : State := regsSet [(SPAN_STATUS.MODULE, 0, 2)] (linkIs 3 2 stActive roleMember)

theorem witness_SpanTraffic : (linkIs 3 2 stActive roleMember).regB SPAN_CTRL.EN = true ∧
    ((∀ p, p < 4 → (linkIs 3 0 0 0).portUp p = false) ∧ (linkIs 3 0 0 0).numbered = false) ∧
    ((gotAt (linkIs 3 2 0 0) 0 (hdr 0 1 0)).notePeer 3 (hello 0)).numbered = false ∧ (hello 0).corr = 0 ∧ (hello 1).corr ≠ 0 ∧
    (let s := linkIs 3 2 stActive roleMember; let h := hdr 0 0 s.self; let t := gotAt s 1 h
     h.dst = t.self ∧ t.epochOk h = true ∧ t.partHere (.read 0x20000 64) = true ∧ t.partHere (.read 0x2000000000 64) = false ∧ h.tag ≠ 0 ∧
     t.epochOk { h with epoch := 1 } = false ∧ (hdr 0 0 3).dst ≠ t.self) ∧
    -- a HELLO passed on: without a correspondent, and with one; and one for this module
    (second.ready = true ∧ second.portUp 3 = true ∧ (hdr 0 1 0).seq % 4096 = (second.link 3).rxSeq ∧
     let u := (wokenAt second (hdr 0 1 0)).notePeer 3 (hello 0)
     u.numbered = true ∧ (hdr 0 1 0).dst ≠ u.self ∧ (hdr 0 1 0).dst = 0 ∧ u.isHead = false ∧ (hdr 0 1 0).dst ≠ (wokenAt second (hdr 0 1 0)).self) ∧
    (hdr 0 1 2).dst = (wokenAt second (hdr 0 1 2)).self ∧ (hdr 0 1 2).dst = (gotAt second 0 (hdr 0 1 2)).self ∧
    ((wokenAt second (hdr 0 1 2)).notePeer 3 (hello 0)).self = 2 ∧
    (let s := { linkIs 3 2 stHead roleHead with ops := [(5, opOf [] (.held heldRemote [0, 0, 0, 1, 2]))] }
     (s.ops.map (·.1)).Pairwise (· < ·) ∧ ([1, 2].filter (· != 1) ≠ []) ∧ ([1].filter (· != 1) = [])) ∧
    (let s := regsSet [(SPAN_MEMBER_STATUS.STATE, 4 * 3, memJoining)] (linkIs 3 2 stHead roleHead)
     s.isHead = true ∧ s.memState 3 = memJoining) ∧
    (linkIs 3 2 stActive roleMember).isMember = true ∧
    (let s := { linkIs 3 2 stActive roleMember with node := { (up []).node with badRun := 2, goodRun := 7, acked := true } }
     2 ≤ s.node.badRun ∧ 7 ≤ s.node.goodRun ∧ s.node.acked = true ∧ (s.timeTol : Int) < (s.timeTol + 1 : Int).natAbs) := by
  and_intros <;> decide +kernel

/-- The head of a span of which module 3 is active, with an operation that waits for it. -/
def headed : State :=
  { regsSet [(SPAN_MEMBER_STATUS.STATE, 4 * 3, memActive), (SPAN_MEMBER_LO.SERIAL, memD 3, 1), (SPAN_MEMBER_STATUS.STATE, 4 * 2, memLost),
      (SPAN_MEMBER_LO.SERIAL, memD 2, 9)] (linkIs 3 2 stHead roleHead) with
    ops := [(5, opOf [] (.held heldRemote [0, 0, 0, 3]))] }

theorem witness_SpanMembership : headed.ready = true ∧ headed.running = true ∧ (headed.ops.map (·.1)).Pairwise (· < ·) ∧
    headed.reg SPAN_CTRL.ROLE = roleHead ∧ (linkIs 3 2 stActive roleMember).reg SPAN_CTRL.ROLE ≠ roleHead ∧ headed.memIn 3 = true ∧
    headed.reg SPAN_EPOCH.EPOCH < 2 ^ 32 ∧ (3 ∈ [0, 0, 0, 3].drop 3) ∧
    (let u := gotAt headed 0 (hdr 0 3 0); u.epochOk (hdr 0 3 0) = true ∧ (hdr 0 3 0).dst = u.self ∧ u.memIn 3 = true ∧ u.isHead = true) ∧
    (linkIs 3 2 stActive roleMember).inSpan = true ∧ (linkIs 3 2 stActive roleMember).spanState = stActive ∧
    (linkIs 3 2 stHold roleMember).spanState = stHold ∧ (linkIs 3 2 stHold roleMember).node.expired = false ∧
    (let s := linkIs 3 2 stJoining roleMember; s.spanState = stJoining ∧ s.node.acked = false ∧ s.regB SPAN_CTRL.EN = true ∧
      s.reg SPAN_CTRL.ROLE = roleMember ∧
      (gotAt s 0 (hdr 0 0 0)).numbered = false) ∧
    (linkIs 3 2 stQuarantine roleMember).spanState = stQuarantine ∧ headed.spanState ≠ stQuarantine := by and_intros <;> decide +kernel

theorem witness_SpanMembership_join : headed.isHead = true ∧ headed.listed 77 = none ∧ headed.listed 1 = some 3 ∧ headed.listed 9 = some 2 ∧
    headed.memState 3 = memActive ∧ headed.memState 2 ≠ memActive ∧ headed.memState 2 ≠ memJoining ∧ headed.modeStaged 12 = false ∧
    headed.anyHeld heldMode [12] = false ∧ headed.regB MODE_F.MODE 48 = false ∧
    (headed.handoffs.any fun x => x.func == 12 && x.args.headD 4 == 2) = false ∧ (hello 0).spanId = headed.reg SPAN_ID.ID := by
  and_intros <;> decide +kernel

def syncEntry (mods : Nat) : Bytes := entry 0x701 [(32, 1, mods), (33, 1, 1)]
def reduceEntry : Bytes := entry 0x702 [(32, 1, 0), (33, 1, 4), (34, 1, 9), (36, 4, 1), (40, 8, 0x20000), (48, 8, 0x30000)]
def spanBusy (b : Bytes) : State := busy b headed

theorem witness_SpanOperators : Runs (spanBusy (syncEntry 9)) 5 0x0701 (opOf (syncEntry 9)) (parseSqe (syncEntry 9)) ∧
    Runs (spanBusy (syncEntry 1)) 5 0x0701 (opOf (syncEntry 1)) (parseSqe (syncEntry 1)) ∧
    Runs (spanBusy (syncEntry 15)) 5 0x0701 (opOf (syncEntry 15)) (parseSqe (syncEntry 15)) ∧
    (parseSqe (syncEntry 15)).fld 32 1 < 16 ∧ (parseSqe (syncEntry 15)).fld 33 1 < 2 ∧ (parseSqe (syncEntry 15)).rsv [(34, 30)] = true ∧
    ((spanBusy (syncEntry 9)).ops.map (·.1)).Pairwise (· < ·) ∧ headed.activeModule 3 = true ∧ headed.activeModule 2 = false ∧
    (((List.range 4).filter fun m => bit 1 m && m != headed.self) = []) ∧ (((List.range 4).filter fun m => bit 9 m && m != headed.self) = [3]) ∧
    Runs (spanBusy reduceEntry) 5 0x0702 (opOf reduceEntry) (parseSqe reduceEntry) ∧ (spanBusy reduceEntry).sound ∧
    (spanBusy reduceEntry).reduceErr (parseSqe reduceEntry) = none := by
  unfold Runs State.sound; and_intros <;> decide +kernel

/-! ## Witnesses: memory, telemetry, tests, registers -/

def lineErr (ce ue poison : SMap Bool) : State := { up [] with ceLines := ce, ueLines := ue, poison := poison }

theorem witness_LineReads : (lineErr [] [] [(0, true)]).isPoison 0 = true ∧ (lineErr [(9, true)] [] []).isPoison 9 = false ∧
    SMap.get (lineErr [(9, true)] [] []).ceLines 9 false = true ∧ (lineErr [(9, true)] [] []).lineFailed 9 = false ∧
    SMap.get (lineErr [] [(9, true)] []).ueLines 9 false = true ∧ isShelf 9 = false ∧ isShelf (shelfBase / 64) = true ∧
    (up [(ZRC_CTRL.CE_WRITEBACK, 0, 1)]).regB ZRC_CTRL.CE_WRITEBACK = true ∧ (up [(ZRC_CTRL.CE_WRITEBACK, 0, 0)]).regB ZRC_CTRL.CE_WRITEBACK = false ∧
    (lineErr [] [(9, true)] []).lineAway 9 = false ∧ (lineErr [] [(moduleSpan / 64, true)] []).lineAway (moduleSpan / 64) = true ∧
    isShelf (moduleSpan / 64) = false ∧ SMap.get (lineErr [(moduleSpan / 64, true)] [] []).ceLines (moduleSpan / 64) false = true ∧
    (SMap.get (up []).wbQueue 7 []).length < 16 ∧ ((tabled [] [] []).ownerOf 0x40C0).1 = 1 := by and_intros <;> decide +kernel

/-- Channel 7 is up, with one line to write back. -/
def channelUp (l : List (Fld × Nat × Nat)) : State :=
  { domOf (up ([(ZRC_CTRL.SCRUB_EN, 0, 1)] ++ l)) 195 .on .none with wbQueue := [(7, [28])] }

theorem witness_ZirconWorks : (channelUp []).ready = true ∧ (channelUp []).searches = [] ∧ (channelUp []).sound ∧
    (let s := domOf (up []) 195 .retain .none; (s.dom (188 + 7)).up = false ∧ s.channelFailed 7 = false) ∧
    (let s := { up [] with retrainDue := [(7, (100, true, false))] }; SMap.get? s.retrainDue 7 = some (100, true, false)) ∧
    ((channelUp []).dom (188 + 7)).up = true ∧ (channelUp []).channelFailed 7 = false ∧ channelOf 28 = 7 ∧
    SMap.get (channelUp []).wbQueue 7 [] = [28] ∧ (channelUp []).regB ZRC_CTRL.SCRUB_EN = true ∧
    (channelUp []).reg ZRC_C_SCRUB_POS.LINES (0x20 * 7) + 64 < channelLines ∧
    (let s := channelUp [(ZRC_C_SCRUB_POS.LINES, 0x20 * 7, channelLines - 64)]; channelLines ≤ s.reg ZRC_C_SCRUB_POS.LINES (0x20 * 7) + 64) ∧
    SMap.get (channelUp []).scrubTold 7 false = false ∧ SMap.get ({ channelUp [] with scrubTold := [(7, true)] } : State).scrubTold 7 false = true ∧
    (let s := { tabled [] [] [] with searches := [0x40C0], poison := [(0x40C0, true)] }
     s.running = true ∧ s.coresFailed = false ∧ s.isPoison 0x40C0 = true ∧ (s.ownerOf 0x40C0).2.1 = 5 ∧ s.segmentOf 5 0x40C0 = some (0, 0) ∧
     s.inDir 5 0 0 0x40C0 = false) := by unfold State.sound; and_intros <;> decide +kernel

theorem witness_ZirconWorks_dir (a : Nat) (h : (tabled [] [] []).dirAt 5 0 0 ≤ a ∧ a < (tabled [] [] []).dirAt 5 0 0 + 8 * (tabled [] [] []).tRows 5) :
    let s := { tabled [] [] [] with searches := [0x40C0], poison := [(0x40C0, true)] }
    s.isPoison (a / 64) = false ∧ SMap.get s.ueLines (a / 64) false = false ∧ s.lineFailed (a / 64) = false := by
  have hd : (tabled [] [] []).dirAt 5 0 0 = 0x101000 := by decide +kernel
  have hr : (tabled [] [] []).tRows 5 = 8 := by decide +kernel
  rw [hd, hr] at h
  have : a / 64 = 0x4040 := by omega
  simp only [this]; and_intros <;> decide +kernel

def copyEntry (dir : Nat) : Bytes := entry 0x601 [(32, 1, dir), (40, 8, 0x20000), (48, 8, 0x30000), (56, 8, 64)]
def fillEntry (dir : Nat) : Bytes := entry 0x602 [(32, 1, dir), (36, 4, 7), (48, 8, 0x30000), (56, 8, 64)]
def scrubEntry : Bytes := entry 0x603 [(36, 4, 1), (40, 8, 0x20000), (48, 8, 128), (56, 8, 0x30000)]
def hintEntry : Bytes := entry 0x30 [(32, 1, 3), (41, 1, 1)]

theorem witness_Movers : ∀ dir ∈ [0, 1, 2], let s := busy (copyEntry dir) (up []); let e := parseSqe (copyEntry dir)
    e.rsv [(33, 7)] = true ∧ e.fld 40 8 % 16 = 0 ∧ e.fld 48 8 % 16 = 0 ∧ moveLenOk (e.fld 56 8) = true ∧ e.fld 32 1 = dir ∧
    s.lin (e.fld 40 8) + 64 ≤ s.lin (e.fld 48 8) ∧ s.rangesErr [(e.fld 40 8, 64), (e.fld 48 8, 64)] = none ∧
    (∀ m ∈ modulesAt [(e.fld 40 8, 64), (e.fld 48 8, 64)], m = s.self) ∧ s.poison = [] ∧ s.ceLines = [] ∧
    s.lin (e.fld 48 8) % 64 = 0 := by decide +kernel
theorem witness_Movers_runs : Runs (busy (copyEntry 0) (up [])) 5 0x0601 (opOf (copyEntry 0)) (parseSqe (copyEntry 0)) ∧
    Runs (busy (copyEntry 1) (up [])) 5 0x0601 (opOf (copyEntry 1)) (parseSqe (copyEntry 1)) ∧
    Runs (busy (copyEntry 2) (up [])) 5 0x0601 (opOf (copyEntry 2)) (parseSqe (copyEntry 2)) ∧
    Runs (busy (fillEntry 0) (up [])) 5 0x0602 (opOf (fillEntry 0)) (parseSqe (fillEntry 0)) ∧
    Runs (busy (fillEntry 1) (up [])) 5 0x0602 (opOf (fillEntry 1)) (parseSqe (fillEntry 1)) ∧
    (parseSqe (fillEntry 1)).rsv [(33, 3), (40, 8)] = true ∧ (up []).here [(0x30000, 64)] ∧ (busy (fillEntry 0) (up [])).sound ∧
    ({ up [] with poison := [(0x800, true)] } : State).isPoison (0x20000 / 64) = true := by
  unfold Runs State.here State.sound; and_intros <;> decide +kernel

theorem witness_RegionScrubsAndHints : (lineErr [] [] [(0x800, true)]).searches = [] ∧
    Runs (busy scrubEntry (lineErr [] [] [(0x800, true)])) 5 0x0603 (opOf scrubEntry) (parseSqe scrubEntry) ∧
    (let s := busy scrubEntry (lineErr [] [] [(0x800, true)]); let e := parseSqe scrubEntry
     e.fld 32 1 < 2 ∧ e.rsv [(33, 3)] = true ∧ e.fld 40 8 / moduleSpan = s.self ∧ e.fld 40 8 % moduleSpan + e.fld 48 8 ≤ localEnd ∧
     s.self < 4 ∧ s.here (optRange (e.fld 56 8) (8 * e.fld 36 4)) ∧ (linesOf 0x20000 128).filter s.isPoison = [0x800] ∧
     ∀ l ∈ linesOf (s.lin (e.fld 56 8)) 8, s.isPoison l = false) ∧
    Runs (busy hintEntry (domOf (up []) 0 .idle .none)) 5 0x0030 (opOf hintEntry) (parseSqe hintEntry) ∧
    (let s := busy hintEntry (domOf (up []) 0 .idle .none); let e := parseSqe hintEntry
     hintOk e = true ∧ hintDomains e = [0] ∧ s.hintSkips 0 = false ∧ s.belowTarget (DState.ofCode (e.fld 32 1)) 0 = true ∧
     s.upAtOnce 0 = true ∧ (s.dom 0).phase = .none) ∧
    (domOf (up []) 0 .on .none).belowTarget (DState.ofCode 3) 0 = false := by
  unfold Runs State.here; and_intros <;> decide +kernel

theorem witness_Samples : (up []).running = true ∧ (up []).canDma 0 = true ∧
    (up [(AMB_TEL_CTRL.EN, 0, 1)]).regB AMB_TEL_CTRL.EN = true ∧ (up [(AMB_TEL_CTRL.EN, 0, 1)]).telFull = false ∧
    (up [(AMB_TEL_TAIL.TAIL, 0, 64)]).telFull = true := by and_intros <;> decide +kernel

def testEntry (op scope idx : Nat) (l : List (Nat × Nat × Nat)) : Bytes := entry op ([(32, 1, scope), (33, 1, idx)] ++ l)

theorem witness_SelfTests : ∀ x ∈ [(0, 63), (1, 15), (2, 0), (3, 9), (4, 3)],
    let b := testEntry 0x20 x.1 x.2 (if x.1 = 2 then [(40, 8, 0x20000), (48, 8, 4096)] else [])
    let s := busy b (up [(SPAN_CTRL.EN, 0, 0), (GNT_P_CABLE.BUSY, portD 9, 1)]); let e := parseSqe b
    e.modl = s.self ∧ e.scope = x.1 ∧ e.index = x.2 ∧ s.selftestErr 5 e = none ∧ s.portUp 3 = false ∧
    s.facetFree 63 = true ∧ s.underTest 63 = false ∧ s.regB GNT_P_CABLE.BUSY (portD 9) = true := by decide +kernel

theorem witness_SelfTests_runs : Runs (busy (testEntry 0x20 1 15 []) (up [])) 5 0x0020 (opOf (testEntry 0x20 1 15 [])) (parseSqe (testEntry 0x20 1 15 [])) ∧
    Runs (busy (testEntry 0x21 0 7 []) (up [])) 5 0x0021 (opOf (testEntry 0x21 0 7 [])) (parseSqe (testEntry 0x21 0 7 [])) ∧
    (busy (testEntry 0x21 0 7 []) (up [])).calibrateErr (parseSqe (testEntry 0x21 0 7 [])) = none ∧
    (busy (testEntry 0x21 1 3 []) (linkIs 3 2 0 0)).calibrateErr (parseSqe (testEntry 0x21 1 3 [])) = none ∧ (linkIs 3 2 0 0).portUp 3 = true ∧
    (busy (testEntry 0x21 2 0 []) (up [])).calibrateErr (parseSqe (testEntry 0x21 2 0 [])) = none ∧
    (tiled 1).facetFree 5 = false ∧ (tiled 1).underTest 5 = false ∧
    (let s := up [(AMB_ST_CTRL.AUTO_EN, 0, 1)]; s.regB AMB_ST_CTRL.AUTO_EN = true ∧ s.autoFacet = some 0 ∧ s.facetFree 0 = true ∧
      s.hotOut 0 = false ∧ s.facetFailed 0 = false) := by unfold Runs; and_intros <;> decide +kernel

theorem witness_SelfTests_lanes : (let b := testEntry 0x20 4 3 []; let s := busy b (up []); let e := parseSqe b
      s.selftestErr 5 e = none ∧ e.scope = 4 ∧ s.reg SPAN_P_STATUS.STATE (spD 3) < 2 ∧ (s.testLanes 3 5).reg SPAN_P_STATUS.STATE (spD 3) ≠ 1) ∧
    (let b := testEntry 0x20 4 3 []; let s := busy b (linkIs 3 2 0 0); let e := parseSqe b
      s.selftestErr 5 e = none ∧ s.isHead = false ∧ (s.testLanes 3 5).reg SPAN_P_STATUS.STATE (spD 3) = 1) ∧
    (let b := testEntry 0x20 5 0 []; (busy b (up [])).selftestErr 5 (parseSqe b) = some ERR_DESCRIPTOR) ∧
    (let b := testEntry 0x21 3 0 []; (busy b (up [])).calibrateErr (parseSqe b) = some ERR_DESCRIPTOR) ∧
    (busy (testEntry 0x21 1 3 []) (up [])).portUp 3 = false ∧
    (let s := up [(AMB_ST_CTRL.AUTO_EN, 0, 1)]
     let s : State := { s with amber := { s.amber with tests := [(0, autoTag)] } }
     (s.amber.tests.any fun x => x.2 == autoTag) = true ∧ ∃ f ∈ s.autoFacet.toList, s.facetFree f = true ∧ s.hotOut f = false ∧
       s.facetFailed f = false) := by and_intros <;> decide +kernel

theorem witness_RegisterFields : QTZ_DTIME_RATE.RATE.acc = .rw ∧ JDE_TEST.EN.acc = .rws ∧ TD_DIM.DIM.acc = .rwd ∧
    JDE_STATUS.CFG_ERR.acc = .w1c ∧ SPN_STATUS.CFG_ERR.acc ≠ .ro ∧ JDE_STATUS.STATE.acc ∈ [.ro, .wo, .calc, .sat, .wrap, .mono, .thresh] ∧
    (up []).linked 0 = true ∧ (up []).answers 0x400 = .yes ∧ (up []).foreignHead 0x400 = false ∧ (up []).word? 0x400 ≠ none ∧
    (up []).answers 0x3FC = .yes ∧ (up []).word? 0x3FC = none ∧
    (∃ w ∈ ((up []).word? 0x400).toList, w.blk ≠ .jsp ∧ w.high = false ∧ w.blk ∉ [.qp, .gnt]) ∧
    (∃ w ∈ ((up []).word? JDE_TEST.EN.off).toList, w.blk ≠ .jsp ∧ w.high = false ∧ w.blk ∉ [.qp, .gnt] ∧ w.blk.cfgErr ≠ none) ∧
    (∃ w ∈ ((up []).word? (AMB_WAIT_NS.NS.off + 4)).toList, w.high = true) ∧
    (∀ k ∈ touchedWords 0x400 8, inJasper k = false) ∧ QP_CTRL.INSTANCE.acc = .rwd ∧ PDT_INST1.TAG_RESERVE.acc = .rwd ∧
    (up []).badValue QP_CTRL.INSTANCE (qpD 63) 3 = false ∧
    (up ((List.range 16).map fun q => (QP_CTRL.INSTANCE, qpD q, 3))).badValue QP_CTRL.INSTANCE (qpD 63) 3 = true := by
  and_intros <;> decide +kernel

theorem witness_LowWordReads : (up []).power.on = true ∧ (State.reset).answers 0x800 = .ones ∧ (up []).answers 0x3FC = .yes ∧
    (up []).answers 0x400 = .yes ∧ (up []).quartz.sub ≤ 249 ∧ (up []).linked 15 = true ∧ reqOff 16 0xFFFC = 0xFFFC ∧
    (∃ w ∈ ((up []).word? 0x400).toList, w.held = false ∧ w.latches = false ∧ w.blk ≠ .jsp) ∧
    (let o := AMB_WAIT_NS.NS.off; reqOff 0 o = o ∧ (up []).answers o = .yes ∧ (up []).answers (o + 4) = .yes ∧
     (∃ w ∈ ((up []).word? o).toList, w.held = false ∧ w.latches = true ∧ w.blk ≠ .jsp) ∧
     ∃ w ∈ ((up []).word? (o + 4)).toList, w.held = true ∧ w.blk ≠ .jsp) := by and_intros <;> decide +kernel

/-! ## Witnesses: the machine -/

theorem witness_StepTakesFront : ({ up [] with pending := [.gptpAnnounceTimeout, .qclkTick] } : State).pending = .gptpAnnounceTimeout :: [.qclkTick] ∧
    State.reset.pending = [] := ⟨rfl, rfl⟩
theorem witness_EveryCommandAnswers : (Instr.frameReceived 9 [] true true false).wf = true ∧ (Instr.frameReceived 10 [] true true false).wf = false := by decide
theorem witness_QueueInvariant : ({ up [] with pending := [.gptpAnnounceTimeout, .qclkTick] } : State).queueWf = true := by decide
theorem witness_QueueDrains : State.reset.queueWf = true ∧ ({ up [] with pending := [.qclkTick] } : State).queueWf = true := by decide
theorem witness_OperatorChecks :
    (let b := entry 1 [(2, 1, 8)]; let s := busy b (up []); let e := parseSqe b
     s.running = true ∧ e.opcode = 0x0001 ∧ s.ovrRefused (opOf b) e = true ∧ (s.op? 5).map (·.phase) = some .started) ∧
    (opOf []).prog = [] ∧ (memOpcode 0x0001 && (up []).memWaits) = false ∧ (memOpcode 0x0601) = true ∧
    (let s := { (up []).setPort 0 { (up []).port 0 with bound := true } with topaz := { (up []).topaz with queue := [⟨.zirconExtra 0, 2, 0⟩] } }
     s.memWaits = true) ∧
    State.reset.running = false ∧ (opOf [] .waiting).phase ≠ .started ∧ (parseSqe (entry 2 [])).opcode ≠ 0x0001 := by
  and_intros <;> decide +kernel
theorem witness_StagedValues : SMap.get? State.reset.staged (JDE_TEST.EN.key 0) = none := rfl
theorem witness_SpanAddresses : State.reset.self < 4 ∧ 0x10000 + (localEnd - 0x10000) ≤ localEnd := by decide
theorem witness_MemoryInvariant : Memory.wf ({ (withMem 0x30000 [1, 0, 2] (up [])) with pending := [.qclkTick] } : State).mem = true ∧
    nextIs (step { withMem 0x30000 [1, 0, 2] (up []) with pending := [.qclkTick] }) (fun _ => true) = true := by and_intros <;> decide +kernel
theorem witness_OperationCompletes :
    (let o := { opOf (nopEntry 0xFFFF 0 100) (.done 0 (some 0) (some 0)) with qp := 0 }
     let s := { queueOn [] with ops := [(5, o)] }
     s.running = true ∧ s.op? 5 = some o ∧ s.qpInst 0 = 0 ∧ s.regB INST_STATUS.RESET_BUSY (winD 0) = false ∧
     (s.qp 0).aborts = [] ∧ o.members.length = 1 ∧ o.idx = 0 ∧ s.canDma 0 = true ∧ s.reg QP_STATUS.STATE (qpD 0) ≠ 3 ∧ s.isSliceFence 100 = false) ∧
    (let o := { opOf (nopEntry 0xFFFF 0 100) (.done 0xFF none none) with members := [parseSqe (nopEntry 0xFFFF 0 100), parseSqe (nopEntry 0xFFFF 0 100)] }
     2 ≤ o.members.length ∧ o.idx + 1 < o.members.length ∧ 0xFF < 0x0100 ∧ o.cut = false) := by and_intros <;> decide +kernel

theorem witness_QueuePairs : (up []).running = true ∧ (up []).regB QP_CTRL.EN (qpD 63) = false ∧
    (queueOn []).regB QP_CTRL.EN (qpD 0) = true ∧
    (let s := queueOn [(QP_STATUS.FLUSH_BUSY, qpD 0, 1)]; s.qpLive 0 = true ∧ s.regB QP_STATUS.FLUSH_BUSY (qpD 0) = true ∧
      (s.qp 0).flushRead = none) ∧ (({ qpReset with flushRead := some false } : QueuePair).flushRead ≠ none) ∧
    (let s := { queueOn [] with ops := [(5, opOf (nopEntry 100 1 0xFFFF) .waiting), (6, { opOf (nopEntry 0xFFFF 0 0xFFFF) with qp := 1 })] }
     s.qpLive 0 = true ∧ s.qpInst 0 < 16 ∧ s.regB QP_STATUS.FLUSH_BUSY (qpD 0) = false ∧
     (s.qp 0).flushRead = none ∧ laterThan 32 64 (s.reg QP_SQ_HEAD.HEAD (qpD 0)) = true ∧ wrapDist 32 64 (s.reg QP_SQ_HEAD.HEAD (qpD 0)) = 64 ∧ 64 ≤ s.sqSize 0 ∧
     (s.op? 5).map (·.phase) = some .waiting ∧ (s.op? 6).map (·.qp) = some 1) := by and_intros <;> decide +kernel

/-! ## Examples of the spec, worked by hand there -/

/-- The example after R58: 103.6 °C is step 1; at 95.0 °C the cap is removed. -/
theorem test_thermal_example : thermalStep 1036 = 1 ∧ thermalStep 999 = 0 ∧ coolFor 950 1 = true ∧ coolFor 951 1 = false := by decide
/-- R58: 104 °C for 9.9 ms and then 94 °C leaves TS3 for TS2, whose own 10 ms have not passed. -/
theorem test_thermal_exit : let s := { up [(GBL_THERMAL.STEP, 0, 3)] with
      ticks := 40000, power := ⟨true, true, true, true, .none, false, false, [39601, 39601, 1]⟩ }
    nextIs (exec .thermalStepExit s) fun t => t.reg GBL_THERMAL.STEP == 2 := by decide +kernel
/-- The example after Table 4-5: a duty of 30 % signals 192 BU. -/
theorem test_duty_example : dutyBudget 300 = 192 ∧ dutyBudget 100 = 0 ∧ dutyBudget 900 = 768 := by decide
/-- Table 10-13: at 1,100 mm/s step 2 is in force. -/
theorem test_velocity_example : ({ up [] with jade := { (up []).jade with
    vtab := [(500, 0), (1000, 1), (1500, 2), (2000, 3)].flatMap (fun x => leBytes 2 x.1 ++ leBytes 2 x.2)
      ++ (List.replicate 12 (leBytes 2 2000 ++ leBytes 2 3)).flatten } } : State).stepFor 1100 0 = some 2 := by decide +kernel
/-- The encodings of the example after R281. -/
theorem test_rlz_example :
    rlzEncode 1 33 ([0, 0, 0, 5, 0xFD] ++ List.replicate 10 0 ++ [7] ++ List.replicate 16 0) = [3, 2, 5, 0xFD, 10, 1, 7, 0, 0] ∧
    (rlzEncode 1 33 ((List.range 32).map (· + 1))).length = 34 ∧
    (rlzEncode 1 33 ((List.range 32).map (· + 1))).take 3 = [0, 32, 1] := by decide +kernel
/-- The record sizes of the example before Table 12-4: DIM 128 with ROWWISE_ADAGRAD. -/
theorem test_record_example : let s := up [(TD_DIM.DIM, tdD 5, 128), (TD_CTRL.OPTIM, tdD 5, 2), (TD_CTRL.MODULES, tdD 5, 1)]
    (List.range 4).map (s.recSize 5) = [528, 272, 144, 80] := by decide +kernel
/-- The record of the example of chapter 15: DIM 128, SGD, class W8 takes 144 bytes. -/
theorem test_record_sgd : (up [(TD_DIM.DIM, tdD 5, 128), (TD_CTRL.OPTIM, tdD 5, 1)]).recSize 5 2 = 144 := by decide +kernel
/-- The example of Table 13-5: 127 items of 512 bytes in a segment, and PREFIX. -/
theorem test_segment_example : (up [(LY_ITEM.ITEM_BYTES, lyD 2, 496)]).itemsPerSeg 2 = 127 ∧
    prefixes [0, 3, 0, 0, 3, 0, 1, 0] = [0, 0, 3, 3, 3, 6, 6, 7, 7] := by decide +kernel
/-- The example of chapter 16: a record of ten counters takes 192 bytes. -/
theorem test_telemetry_example : recordSize 10 = 192 := by decide
/-- The example of R15: the high word is the one latched with the requester's own low-word read. -/
theorem test_latch_example : let s := up [(AMB_WAIT_NS.NS, 0, 0x1FFFFFFFF)]
    let t := nextOf (exec (.lowWordRead 0 ⟨0, AMB_WAIT_NS.NS.off, 4, 0⟩) s) s
    SMap.get t.hiHold 0 0 = 1 ∧ SMap.get t.hiHold 5 0 = 0 ∧ t.out.getLast? = some (.readData 0 AMB_WAIT_NS.NS.off 0xFFFFFFFF) := by decide +kernel

/-! ## Single steps -/

/-- R160: a fence takes the greatest value signalled, and starts what waits for it (R163). -/
theorem test_fence_signal : let s := { up [(OPL_FENCE_SEL.INDEX, 0, 100), (OPL_FENCE_ARG_LO.ARG, 0, 6)] with ops := [(5, opOf (nopEntry 100 6 0xFFFF) .waiting)] }
    nextIs (exec (.oplFenceSignal ⟨2, []⟩) s) fun t => t.fence 100 == ⟨6, false⟩ && (t.op? 5).map (·.phase) == some .started := by decide +kernel
/-- R383: NOP ends with OK. -/
theorem test_nop : nextIs (exec (.nop 5 io0) (busy (entry 1 []) (up []))) fun t => (t.op? 5).map (·.phase) == some (.done 0 (some 0) (some 0)) := by decide +kernel
/-- R392: COPY moves bytes. -/
theorem test_copy : nextIs (exec (.copy 5 io0) (busy (copyEntry 0) (withMem 0x20000 [1, 2, 3] (up [])))) fun t =>
    t.peek 0x30000 4 == [1, 2, 3, 0] := by decide +kernel
/-- R393: FILL repeats its pattern. -/
theorem test_fill : nextIs (exec (.fill 5 io0) (busy (fillEntry 0) (up []))) fun t => t.peek 0x3003C 5 == [7, 0, 0, 0, 0] := by decide +kernel
/-- R36: an undervoltage takes the module down, and its outputs off. -/
theorem test_power_fail : nextIs (exec .vinUndervoltage (guardIn 2 [])) fun t => !t.power.on && t.reg JDE_STATUS.OUT_A == 0 := by decide +kernel
/-- R90: two periods of 30 % leave the signalled budget as it is below RISE_PERIODS. -/
theorem test_budget_edge : nextIs (exec (.budgetRisingEdge 100000 30000) (up [])) fun t => t.reg TPZ_DUTY.DUTY == 300 := by decide +kernel
/-- R109: before stage 0xF a configuration request is retried. -/
theorem test_config_retry : nextIs (exec (.configRequest 0 .deviceId) ({ stageAt 4 with pcie := ⟨true, true, 0, false, false⟩ })) fun t =>
    t.out.getLast? == some (.cfg 0 true 0) := by decide +kernel
/-- R194: the first write of a bound master claims the channel. -/
theorem test_mailbox : nextIs (exec (.jspDataWrite 0x20 31 15 7) (chan [])) fun t =>
    t.regB JSP_CTRL.CLAIMED (chanD 31) && t.reg JSP_D.DATA (chanD 31 + 60) == 7 := by decide +kernel
/-- R314: an item joins those that wait in its queue. -/
theorem test_queue : nextIs (exec (.hqPush 0 512 (zeros 64) false) (queued 1 false)) fun t => (t.hq 0 512).depth == 2 := by decide +kernel
/-- R353: a read of a line with an uncorrectable error poisons it. -/
theorem test_uncorrectable : ((lineErr [] [(0x800, true)] []).touch .demand 0x800).isPoison 0x800 = true := by decide +kernel
/-- R6: a write that a register takes, in one step. -/
theorem test_register_write : nextIs (exec (.registerWrite 0 0 QTZ_DTIME_RATE.RATE.off (leBytes 4 5)) (up [])) fun t =>
    t.reg QTZ_DTIME_RATE.RATE == 5 := by decide +kernel
end Sys2Proof.Tests
end

/-!
Registers as they are written and read: bits and bytes of numbers, one field's write, the words of the register file, a
write request, an MSI-X entry. They settle O50; a state whose latch is too wide refutes O51. O52 and O58 are settled beside them.
-/

namespace Sys2Proof

/-! ## Bits and bytes of numbers -/

theorem bit_eq_testBit (v i : Nat) : bit v i = v.testBit i := by
  rw [Nat.testBit_eq_decide_div_mod_eq, Bool.eq_iff_iff, bit, beq_iff_eq, decide_eq_true_iff]

/-- A number without the bits that it shares with another, lowest bit and the others. -/
theorem sub_land_mod_div (a b : Nat) : (a - (a &&& b)) % 2 = a % 2 - (a % 2 &&& b % 2) ∧
    (a - (a &&& b)) / 2 = a / 2 - (a / 2 &&& b / 2) := by
  have hm : (a &&& b) % 2 = a % 2 &&& b % 2 := Nat.and_mod_two_pow (n := 1)
  have hd : (a &&& b) / 2 = a / 2 &&& b / 2 := Nat.and_div_two
  have hle : (a &&& b) % 2 ≤ a % 2 := hm ▸ Nat.and_le_left
  have hle' : a &&& b ≤ a := Nat.and_le_left
  rw [← hm, ← hd]
  omega

theorem testBit_sub_land (a b i : Nat) : (a - (a &&& b)).testBit i = (a.testBit i && !b.testBit i) := by
  induction i generalizing a b with
  | zero =>
    rcases Nat.mod_two_eq_zero_or_one a with ha | ha <;> rcases Nat.mod_two_eq_zero_or_one b with hb | hb <;>
      simp [(sub_land_mod_div a b).1, ha, hb]
  | succ i ih => simp only [Nat.testBit_succ, (sub_land_mod_div a b).2, ih]

@[simp] theorem length_leBytes (n v : Nat) : (leBytes n v).length = n := by
  induction n generalizing v with
  | zero => rfl
  | succ n ih => simp [leBytes, ih]

/-- The bytes of a number spell what they have room for. -/
theorem leNat_leBytes (n v : Nat) : leNat (leBytes n v) = v % 256 ^ n := by
  induction n generalizing v with
  | zero => simp [leBytes, leNat, Nat.mod_one]
  | succ n ih =>
    have h : v % 256 ^ (n + 1) = v % 256 + 256 * (v / 256 % 256 ^ n) := by rw [Nat.pow_succ', Nat.mod_mul]
    simp [leBytes, leNat, ih, h]

theorem leBytes_add (m n v : Nat) : leBytes (m + n) v = leBytes m v ++ leBytes n (v / 256 ^ m) := by
  induction m generalizing v with
  | zero => simp [leBytes]
  | succ m ih => rw [Nat.succ_add, leBytes, ih, leBytes, Nat.div_div_eq_div_mul, Nat.pow_succ']; rfl

/-- A field that lies whole within a block. -/
theorem fieldLE_append (p f q : Bytes) : fieldLE (p ++ (f ++ q)) p.length f.length = leNat f := by
  simp [fieldLE, byteSlice]

theorem fieldLE_leBytes {n v : Nat} (h : v < 256 ^ n) : fieldLE (leBytes n v) 0 n = v := by
  simpa [leNat_leBytes, Nat.mod_eq_of_lt h] using fieldLE_append [] (leBytes n v) []

end Sys2Proof

namespace Sys2Proof.Machine

/-! ## One field's write -/

/-- From `s` to `t` nothing changes but the values, in force and staged, of the fields under the keys `ks`. -/
def Fields (ks : List Nat) (s t : State) : Prop :=
  t = { s with regs := t.regs, staged := t.staged } ∧
  (∀ k, k ∉ ks → SMap.get? t.regs k = SMap.get? s.regs k) ∧
  ∀ k, k ∉ ks → SMap.get? t.staged k = SMap.get? s.staged k

namespace Fields

theorem refl (ks : List Nat) (s : State) : Fields ks s s := ⟨rfl, fun _ _ => rfl, fun _ _ => rfl⟩

theorem mono {ks ls : List Nat} {s t : State} (h : Fields ks s t) (hk : ∀ k, k ∈ ks → k ∈ ls) : Fields ls s t :=
  let ⟨he, hr, hs⟩ := h
  ⟨he, fun k hl => hr k fun hm => hl (hk k hm), fun k hl => hs k fun hm => hl (hk k hm)⟩

theorem trans {ks : List Nat} {s t u : State} (h : Fields ks s t) (g : Fields ks t u) : Fields ks s u := by
  obtain ⟨h, hr, hs⟩ := h
  obtain ⟨g, gr, gs⟩ := g
  exact ⟨by rw [g, h], fun k hk => (gr k hk).trans (hr k hk), fun k hk => (gs k hk).trans (hs k hk)⟩

theorem setReg (s : State) (F : Fld) (d v : Nat) : Fields [F.key d] s (s.setReg F d v) :=
  ⟨rfl, fun _ h => State.get?_setReg_ne s v (by simpa using h), fun _ _ => rfl⟩

theorem stage (s : State) (F : Fld) (d v : Nat) : Fields [F.key d] s (s.stage F d v) :=
  ⟨rfl, fun _ _ => rfl, fun _ h => SMap.get?_ins_ne _ _ (by simpa using h)⟩

theorem putField (s : State) (F : Fld) (d v : Nat) (on locked : Bool) :
    Fields [F.key d] s (s.putField F d v on locked).1 := by
  unfold State.putField
  cases s.fieldWrite F d v on locked with
  | keep => exact refl _ _
  | set x => exact setReg _ _ _ _
  | stage x => exact stage _ _ _ _
  | drop => exact refl _ _

end Fields

/-- The states hold the same of field `F`, in force and staged, at displacement `d`. -/
def SameAt (F : Fld) (d : Nat) (s t : State) : Prop :=
  SMap.get? t.regs (F.key d) = SMap.get? s.regs (F.key d) ∧ SMap.get? t.staged (F.key d) = SMap.get? s.staged (F.key d)

theorem SameAt.reads {F : Fld} {d : Nat} {s t : State} (h : SameAt F d s t) :
    t.reg F d = s.reg F d ∧ t.regRead F d = s.regRead F d := by
  have hr := State.reg_congr F d h.1
  exact ⟨hr, by simp only [State.regRead, h.2, hr]⟩

theorem SameAt.trans {F : Fld} {d : Nat} {s t u : State} (h : SameAt F d s t) (g : SameAt F d t u) : SameAt F d s u :=
  ⟨g.1.trans h.1, g.2.trans h.2⟩

theorem Fields.sameAt {ks : List Nat} {s t : State} (h : Fields ks s t) {F : Fld} {d : Nat} (hk : F.key d ∉ ks) :
    SameAt F d s t := ⟨h.2.1 _ hk, h.2.2 _ hk⟩

namespace State

/-- A value that a field refuses depends on no other field. -/
theorem badValue_congr {s t : State} {F : Fld} (d v : Nat) (h : ∀ e, e % 4 = 0 → SameAt F e s t) :
    t.badValue F d v = s.badValue F d v := by
  have hr (e : Nat) (he : e % 4 = 0) : t.reg F e = s.reg F e := (h e he).reads.1
  unfold badValue
  by_cases h1 : F = PDT_INST1.TAG_RESERVE
  · subst h1
    have hk (k : Nat) : t.reserveOf k = s.reserveOf k := hr _ (by omega)
    have hq : (PDT_INST1.TAG_RESERVE == QP_CTRL.INSTANCE) = false := by decide
    simp [hq, reserveSum, hk]
  · by_cases h2 : F = QP_CTRL.INSTANCE
    · subst h2
      have hq (q : Nat) : t.qpInst q = s.qpInst q := hr _ (by simp only [qpD]; omega)
      simp [beq_false_of_ne h1, hq]
    · simp [beq_false_of_ne h1, beq_false_of_ne h2]

/-- What a write does to a field depends on that field alone. -/
theorem putField_congr {s t : State} {F : Fld} {d : Nat} (v : Nat) (on locked : Bool) (hd : d % 4 = 0)
    (h : ∀ e, e % 4 = 0 → SameAt F e s t) : (t.putField F d v on locked).2 = (s.putField F d v on locked).2 ∧
      SameAt F d (s.putField F d v on locked).1 (t.putField F d v on locked).1 := by
  have hw : t.fieldWrite F d v on locked = s.fieldWrite F d v on locked := by
    simp only [fieldWrite, badValue_congr d v h, (h d hd).reads.1]
  unfold putField
  rw [hw]
  cases s.fieldWrite F d v on locked with
  | keep => exact ⟨rfl, h d hd⟩
  | drop => exact ⟨rfl, h d hd⟩
  | stage x => exact ⟨rfl, (h d hd).1, by simp [stage]⟩
  | set x => exact ⟨rfl, by simp only [setReg, SMap.put]; split <;> simp, (h d hd).2⟩

end State

/-! ## Where the words of the register file lie -/

/-- A register and its fields lie at aligned offsets, each field at a low bit of its own. -/
def Reg.laid (r : Reg) : Bool :=
  r.off % 4 == 0 && r.flds.all (fun F => F.off % 4 == 0 && F.lo < 32) && decide ((r.flds.map (·.lo)).Nodup)

theorem Reg.laid_iff (r : Reg) : r.laid = true ↔
    r.off % 4 = 0 ∧ (∀ F ∈ r.flds, F.off % 4 = 0 ∧ F.lo < 32) ∧ (r.flds.map (·.lo)).Nodup := by
  simp [Reg.laid, and_assoc]

theorem blockMap_laid : ∀ b ∈ blockMap, ∀ r ∈ b.2.2.2, r.laid = true := by decide +kernel

theorem Reg.at?_sub {r : Reg} {off d : Nat} (h : r.at? off = some d) : d = off - r.off ∧ r.off ≤ off := by
  unfold Reg.at? at h
  split at h
  · cases h
  · refine ⟨?_, by omega⟩
    dsimp only at h
    split at h <;> split at h <;> simp_all

theorem firstSome_eq_some {α β : Type} {f : α → Option β} {l : List α} {y : β} (h : firstSome f l = some y) :
    ∃ x ∈ l, f x = some y := by
  induction l with
  | nil => cases h
  | cons x l ih =>
    simp only [firstSome] at h
    split at h
    · next z hz => cases h; exact ⟨x, List.mem_cons_self, hz⟩
    · obtain ⟨z, hz, hy⟩ := ih h
      exact ⟨z, List.mem_cons_of_mem _ hz, hy⟩

theorem wordAt_laid {off : Nat} {w : Word32} (h : wordAt off = some w) (ho : off % 4 = 0) :
    w.reg.laid = true ∧ w.d % 4 = 0 := by
  unfold wordAt at h
  split at h
  · cases h
  · next b rs hb =>
    obtain ⟨x, hx, hb⟩ := Option.map_eq_some_iff.1 hb
    obtain ⟨r, hr, hw⟩ := firstSome_eq_some h
    have hl := blockMap_laid x (List.mem_of_find?_eq_some hx) r (by rw [hb]; exact hr)
    obtain ⟨ha, -⟩ := r.laid_iff.1 hl
    split at hw
    · next d hd => cases hw; have := Reg.at?_sub hd; exact ⟨hl, show d % 4 = 0 by omega⟩
    · split at hw
      · split at hw
        · cases hw
        · obtain ⟨d, hd, rfl⟩ := Option.map_eq_some_iff.1 hw
          have := Reg.at?_sub hd
          exact ⟨hl, by dsimp only; omega⟩
      · cases hw

theorem State.homeOff_aligned {s : State} {off o : Nat} (h : s.homeOff off = some o) (ho : off % 4 = 0) : o % 4 = 0 := by
  unfold State.homeOff at h
  split at h
  · cases h; exact ho
  · dsimp only at h
    split at h
    · rw [Option.some.injEq] at h; omega
    · split at h
      · obtain ⟨q, -, rfl⟩ := Option.map_eq_some_iff.1 h
        simp only [qpD]; omega
      · cases h; exact ho

theorem selD_aligned (k : Nat) : selD k % 4 = 0 := by simp only [selD]; omega

theorem State.viewOf_aligned (s : State) (off : Nat) : s.viewOf off % 4 = 0 := by
  unfold State.viewOf
  split
  · exact selD_aligned _
  · split
    · exact selD_aligned _
    · split
      · exact selD_aligned _
      · split
        · exact selD_aligned _
        · split
          · exact selD_aligned _
          · exact Nat.zero_mod 4

/-- Every word that an aligned offset names belongs to a register that lies as it should. -/
theorem State.word?_laid {s : State} {off : Nat} {w : Word32} (h : s.word? off = some w) (ho : off % 4 = 0) :
    w.reg.laid = true ∧ w.d % 4 = 0 := by
  unfold State.word? at h
  split at h
  · cases h
  · next o hh =>
    obtain ⟨w', hw, rfl⟩ := Option.map_eq_some_iff.1 h
    obtain ⟨hl, hd⟩ := wordAt_laid hw (homeOff_aligned hh ho)
    have := s.viewOf_aligned o
    exact ⟨hl, by dsimp only; omega⟩

/-- Fields at different low bits have different keys at all words. -/
theorem Fld.key_ne {F G : Fld} {d e : Nat} (hF : F.off % 4 = 0) (hG : G.off % 4 = 0) (hf : F.lo < 32) (hg : G.lo < 32)
    (hd : d % 4 = 0) (he : e % 4 = 0) (h : F.lo ≠ G.lo) : F.key d ≠ G.key e := by
  simp only [Fld.key]; omega

/-! ## The fields of a word in turn -/

/-- A word's field is left out of a write: INSTANCE, through a window slot (R134). -/
def leftOut (slot : Bool) (F : Fld) : Prop := slot = true ∧ F = QP_CTRL.INSTANCE

namespace State

/-- The write of one of a word's fields, after those before it. -/
def fieldStep (d v : Nat) (on locked slot : Bool) (t : State × Bool) (F : Fld) : State × Bool :=
  if slot && F == QP_CTRL.INSTANCE then t
  else
    let r := t.1.putField F d (bits v F.lo F.w) on locked
    (r.1, t.2 || r.2)

theorem putFields_eq (s : State) (w : Word32) (v : Nat) (slot : Bool) : s.putFields w v slot =
    w.reg.flds.foldl (fieldStep w.d v (s.blockOn w) (s.lockOn w) slot) (s, false) := rfl

variable {d v : Nat} {on locked slot : Bool}

theorem fieldStep_leftOut (t : State × Bool) {F : Fld} (h : leftOut slot F) : fieldStep d v on locked slot t F = t := by
  obtain ⟨rfl, rfl⟩ := h; rfl

theorem fieldStep_taken (t : State × Bool) {F : Fld} (h : ¬ leftOut slot F) : fieldStep d v on locked slot t F =
    ((t.1.putField F d (bits v F.lo F.w) on locked).1,
      t.2 || (t.1.putField F d (bits v F.lo F.w) on locked).2) := by
  have h' : ¬ (slot && F == QP_CTRL.INSTANCE) = true := by simpa [leftOut] using h
  rw [fieldStep, if_neg h']

theorem fieldStep_fields (t : State × Bool) (F : Fld) : Fields [F.key d] t.1 (fieldStep d v on locked slot t F).1 := by
  by_cases h : leftOut slot F
  · rw [fieldStep_leftOut t h]; exact .refl _ _
  · rw [fieldStep_taken t h]; exact .putField ..

/-- What a write does to the fields of a word, each as its own write says: the drops, the values, and the frame. -/
theorem putFields_foldl (Fs : List Fld) (t : State × Bool) (hd : d % 4 = 0)
    (hF : ∀ F ∈ Fs, F.off % 4 = 0 ∧ F.lo < 32) (hn : (Fs.map (·.lo)).Nodup) :
    let r := Fs.foldl (fieldStep d v on locked slot) t
    Fields (Fs.map fun F => F.key d) t.1 r.1 ∧
    (r.2 = true ↔ t.2 = true ∨
      ∃ F ∈ Fs, ¬ leftOut slot F ∧ (t.1.putField F d (bits v F.lo F.w) on locked).2 = true) ∧
    ∀ F ∈ Fs, ¬ leftOut slot F → SameAt F d (t.1.putField F d (bits v F.lo F.w) on locked).1 r.1 := by
  induction Fs generalizing t with
  | nil => exact ⟨.refl _ _, by simp, by simp⟩
  | cons G Fs ih =>
    obtain ⟨hG, hF⟩ := List.forall_mem_cons.1 hF
    obtain ⟨hGn, hn⟩ := List.nodup_cons.1 hn
    have hlo {F : Fld} (h : F ∈ Fs) : F.lo ≠ G.lo := fun e => hGn (List.mem_map.2 ⟨F, h, e⟩)
    have hkey {F : Fld} (h : F ∈ Fs) (e : Nat) (he : e % 4 = 0) : F.key e ≠ G.key d :=
      Fld.key_ne (hF F h).1 hG.1 (hF F h).2 hG.2 he hd (hlo h)
    have step := fieldStep_fields (d := d) (v := v) (on := on) (locked := locked) (slot := slot) t G
    obtain ⟨hfr, hdrop, hval⟩ := ih (fieldStep d v on locked slot t G) hF hn
    have hsame {F : Fld} (h : F ∈ Fs) := putField_congr (s := t.1) (t := (fieldStep d v on locked slot t G).1) (F := F)
      (bits v F.lo F.w) on locked hd fun e he => step.sameAt (by simpa using hkey h e he)
    have hex : (∃ F ∈ Fs, ¬ leftOut slot F ∧
          ((fieldStep d v on locked slot t G).1.putField F d (bits v F.lo F.w) on locked).2 = true) ↔
        ∃ F ∈ Fs, ¬ leftOut slot F ∧ (t.1.putField F d (bits v F.lo F.w) on locked).2 = true :=
      exists_congr fun F => and_congr_right fun h => by rw [(hsame h).1]
    refine ⟨(step.mono (by simp)).trans (hfr.mono fun k h => List.mem_cons_of_mem _ h), ?_, fun F hmem hno => ?_⟩
    · rw [List.foldl_cons, hdrop, hex]
      by_cases h : leftOut slot G
      · simp [fieldStep_leftOut t h, h]
      · simp [fieldStep_taken t h, h, or_assoc]
    · rcases List.mem_cons.1 hmem with rfl | hmem
      · have hrest := hfr.sameAt (F := F) (d := d) fun h => by
          obtain ⟨H, hH, e⟩ := List.mem_map.1 h
          exact hkey hH d hd e
        rw [List.foldl_cons, fieldStep_taken t hno]
        rwa [fieldStep_taken t hno] at hrest
      · exact (hsame hmem).2.trans (hval F hmem hno)

/-- A write of a word, field by field (Table 0-3), with the word's enable and lock as they were. -/
theorem putFields_spec (s : State) (w : Word32) (v : Nat) (slot : Bool) (hl : w.reg.laid = true) (hd : w.d % 4 = 0) :
    let put (F : Fld) := s.putField F w.d (bits v F.lo F.w) (s.blockOn w) (s.lockOn w)
    Fields (w.reg.flds.map fun F => F.key w.d) s (s.putFields w v slot).1 ∧
    ((s.putFields w v slot).2 = true ↔ ∃ F ∈ w.reg.flds, ¬ leftOut slot F ∧ (put F).2 = true) ∧
    ∀ F ∈ w.reg.flds, ¬ leftOut slot F → SameAt F w.d (put F).1 (s.putFields w v slot).1 := by
  obtain ⟨-, hF, hn⟩ := w.reg.laid_iff.1 hl
  have h := putFields_foldl (on := s.blockOn w) (locked := s.lockOn w) (slot := slot) (v := v) w.reg.flds (s, false) hd hF hn
  simpa only [putFields_eq, Bool.false_eq_true, false_or] using h

end State

/-! ## A write request -/

/-- A request of one aligned word, or of one byte of it, touches that word alone. -/
theorem touchedWords_one {off n : Nat} (ho : off % 4 = 0) (h1 : 1 ≤ n) (h4 : n ≤ 4) : touchedWords off n = [off / 4] := by
  have h0 : (off + n - 1) / 4 - off / 4 = 0 := by omega
  simp [touchedWords, h0, show n ≠ 0 by omega]

namespace State

variable {s : State} {off v : Nat}

theorem exec_registerWrite (s : State) (n bar off : Nat) (data : Bytes) (hn : n < 20) :
    exec (.registerWrite n bar off data) s =
      if (if n ≥ 16 then s.ready else s.power.on && s.linked n) then answer s (s.busWrite n bar off data) else .next s := by
  show unitStep _ _ _ _ _ = _
  rw [unitStep, if_pos hn, stepIf]

/-- A request of PF 0 while the host link carries it. -/
theorem exec_registerWrite_pf (bar : Nat) (data : Bytes) (hp : s.power.on = true) (hl : s.linked 0 = true) :
    exec (.registerWrite 0 bar off data) s = answer s (s.busWrite 0 bar off data) := by
  simp [exec_registerWrite, hp, hl]

theorem busWrite_word (data : Bytes) (ho : off % 4 = 0) (hoff : off < 0x10000) (h1 : 1 ≤ data.length) (h4 : data.length ≤ 4) :
    s.busWrite 0 0 off data = s.touchWord 0 off data (off / 4) := by
  simp [busWrite, touchedWords_one ho h1 h4, show off + data.length ≤ 65536 by omega]

/-- A word of PF 0's BAR0 that answers, and that is no head of a queue pair of another function: a write where it is covered whole,
a report where it is covered in part. -/
theorem touchWord_pf (data : Bytes) {w : Word32} (ho : off % 4 = 0) (ha : s.answers off = .yes)
    (hf : s.foreignHead off = false) (hw : s.word? off = some w) :
    (∀ v, coveredWord off data (off / 4) = some v → s.touchWord 0 off data (off / 4) = s.writeWord 0 w v (inSlot off)) ∧
    (coveredWord off data (off / 4) = none → s.touchWord 0 off data (off / 4) = s.dropWord w) := by
  have hr : reqOff 0 (4 * (off / 4)) = off := by simp [reqOff]; omega
  constructor
  · intro v hc; simp [touchWord, hr, ha, hf, hw, hc]
  · intro hc; simp [touchWord, hr, ha, hf, hw, hc]

/-- A reserved word takes nothing (R10). -/
theorem touchWord_reserved (data : Bytes) (ho : off % 4 = 0) (hw : s.word? off = none) :
    s.touchWord 0 off data (off / 4) = s := by
  have hr : reqOff 0 (4 * (off / 4)) = off := by simp [reqOff]; omega
  simp [touchWord, hr, hw]

theorem coveredWord_whole (ho : off % 4 = 0) (hv : v < 2 ^ 32) : coveredWord off (leBytes 4 v) (off / 4) = some v := by
  have h4 : 4 * (off / 4) = off := by omega
  simp [coveredWord, h4, fieldLE_leBytes (n := 4) (v := v) (by omega)]

theorem coveredWord_byte (b : Byte) (ho : off % 4 = 0) : coveredWord off [b] (off / 4) = none := by
  simp [coveredWord]; omega

end State

/-! ## Dropped writes -/

theorem Blk.cfgErr_field {b : Blk} {F : Fld} (h : b.cfgErr = some F) :
    F.w = 1 ∧ F.key 0 ≠ GBL_ERR_SUMMARY.CFG_ERR.key 0 := by
  cases b <;> cases h <;> exact ⟨rfl, by decide⟩

theorem Blk.bitNo_lt (b : Blk) : b.bitNo < GBL_ERR_SUMMARY.CFG_ERR.w := by cases b <;> decide

/-- Bit `i` set in a number that lacks it. -/
theorem bit_set (m i : Nat) : bit (if bit m i then m else m + 2 ^ i) i = true := by
  split
  · assumption
  · next h =>
    rw [bit_eq_testBit] at h ⊢
    rw [Nat.add_comm, Nat.testBit_two_pow_add_eq]
    simpa using h

theorem bit_mod {m i n : Nat} (h : i < n) : bit (m % 2 ^ n) i = bit m i := by
  simp [bit_eq_testBit, Nat.testBit_mod_two_pow, h]

namespace State

/-- A dropped write sets its block's CFG_ERR and the block's bit of the summary (R6). -/
theorem cfgErr_reports (s : State) {b : Blk} {F : Fld} (h : b.cfgErr = some F) :
    (s.cfgErr b).reg F = 1 ∧ bit ((s.cfgErr b).reg GBL_ERR_SUMMARY.CFG_ERR) b.bitNo = true ∧
    Touches [F.key 0, GBL_ERR_SUMMARY.CFG_ERR.key 0] s (s.cfgErr b) := by
  obtain ⟨hw, hk⟩ := Blk.cfgErr_field h
  unfold cfgErr
  simp only [h]
  refine ⟨?_, ?_, ((Touches.setReg s F 0 1).mono (by simp)).trans ((Touches.setReg _ _ 0 _).mono (by simp))⟩
  · rw [reg_setReg_ne _ _ hk, reg_setReg_self, Nat.mod_eq_of_lt (Nat.one_lt_two_pow (by omega))]
  · rw [reg_setReg_self, bit_mod b.bitNo_lt]; exact bit_set _ _

/-- Outside Jasper, a queue pair's own registers and a sensor port's, a dropped word is reported at its block. -/
theorem dropWord_block (s : State) {w : Word32} (hj : w.blk ≠ .jsp) (h : w.blk ∉ [Blk.qp, .gnt]) :
    s.dropWord w = s.cfgErr w.blk := by
  obtain ⟨b, r, d, high⟩ := w
  cases b <;> simp_all [dropWord]

/-! ## An MSI-X entry -/

/-- A word of a request, behind some of its bytes and before others. -/
theorem coveredWord_within {off k : Nat} (v : Nat) (p q : Bytes) (hk : 4 * k = off + p.length) :
    coveredWord off (p ++ (leBytes 4 v ++ q)) k = some (v % 2 ^ 32) := by
  have h := fieldLE_append p (leBytes 4 v) q
  rw [length_leBytes, leNat_leBytes] at h
  rw [coveredWord, if_pos (by simp; omega), hk, Nat.add_sub_cancel_left, h, show (256 : Nat) ^ 4 = 2 ^ 32 from rfl]

@[simp] theorem msixEntry_setMsix_self (s : State) (n v : Nat) (e : MsixEntry) : (s.setMsix n v e).msixEntry n v = e := by
  simp [msixEntry, setMsix]

theorem msixEntry_setMsix_ne (s : State) {n v m u : Nat} (e : MsixEntry) (h : 128 * m + u ≠ 128 * n + v) :
    (s.setMsix n v e).msixEntry m u = s.msixEntry m u := by
  simp [msixEntry, setMsix, SMap.get_put_ne _ _ _ _ h]

/-- What word `i` of entry `k` of PF 0 sets. -/
theorem msixWord_pf (s : State) {k i : Nat} (v : Nat) (hk : k < 128) (hi : i < 4) : s.msixWord 0 (4 * k + i) v =
    let e := s.msixEntry 0 k
    if i = 0 then s.setMsix 0 k { e with addr := e.addr / 2 ^ 32 * 2 ^ 32 + v }
    else if i = 1 then s.setMsix 0 k { e with addr := e.addr % 2 ^ 32 + 2 ^ 32 * v }
    else if i = 2 then s.setMsix 0 k { e with data := v }
    else if bit v 0 then s.setMsix 0 k { e with masked := true } else s.unmask 0 k := by
  have hd : (4 * k + i) / 4 = k := by omega
  have hm : (4 * k + i) % 4 = i := by omega
  have hv : ¬ k ≥ vectors 0 := Nat.not_le.2 hk
  rw [msixWord, hd, hm]
  exact if_neg hv

theorem msixWord_addrLow (s : State) {k : Nat} (v : Nat) (hk : k < 128) : s.msixWord 0 (4 * k) v =
    s.setMsix 0 k { s.msixEntry 0 k with addr := (s.msixEntry 0 k).addr / 2 ^ 32 * 2 ^ 32 + v } :=
  msixWord_pf s (i := 0) v hk (by decide)

theorem msixWord_addrHigh (s : State) {k : Nat} (v : Nat) (hk : k < 128) : s.msixWord 0 (4 * k + 1) v =
    s.setMsix 0 k { s.msixEntry 0 k with addr := (s.msixEntry 0 k).addr % 2 ^ 32 + 2 ^ 32 * v } :=
  msixWord_pf s (i := 1) v hk (by decide)

theorem msixWord_data (s : State) {k : Nat} (v : Nat) (hk : k < 128) :
    s.msixWord 0 (4 * k + 2) v = s.setMsix 0 k { s.msixEntry 0 k with data := v } :=
  msixWord_pf s (i := 2) v hk (by decide)

theorem msixWord_mask (s : State) {k v : Nat} (hk : k < 128) (hv : bit v 0 = true) :
    s.msixWord 0 (4 * k + 3) v = s.setMsix 0 k { s.msixEntry 0 k with masked := true } :=
  (msixWord_pf s (i := 3) v hk (by decide)).trans (if_pos hv)

/-- The four words of an entry, in one request. -/
theorem touchedWords_entry (k : Nat) : touchedWords (16 * k) 16 = [4 * k, 4 * k + 1, 4 * k + 2, 4 * k + 3] := by
  have h : (16 * k + 16 - 1) / 4 - 16 * k / 4 = 3 := by omega
  have h4 : 16 * k / 4 = 4 * k := by omega
  rw [touchedWords, if_neg (by decide), h, h4]
  rfl

/-- A request of sixteen bytes sets an entry of PF 0 whole (R148; the layout is PRESUMED, log entry 32). -/
theorem msixWrite_entry (s : State) {k addr data : Nat} (hk : k < 128) (ha : addr < 2 ^ 64) (hd : data < 2 ^ 32) :
    s.msixWrite 0 (16 * k) (leBytes 8 addr ++ leBytes 4 data ++ leBytes 4 1) =
      (((s.setMsix 0 k { s.msixEntry 0 k with addr := (s.msixEntry 0 k).addr / 2 ^ 32 * 2 ^ 32 + addr % 2 ^ 32 }).setMsix 0 k
        { s.msixEntry 0 k with addr := addr }).setMsix 0 k { s.msixEntry 0 k with addr := addr, data := data }).setMsix 0 k
        { s.msixEntry 0 k with addr := addr, data := data, masked := true } := by
  have hb : leBytes 8 addr ++ leBytes 4 data ++ leBytes 4 1 =
      leBytes 4 addr ++ (leBytes 4 (addr / 2 ^ 32) ++ (leBytes 4 data ++ leBytes 4 1)) := by
    rw [show leBytes 8 addr = leBytes 4 addr ++ leBytes 4 (addr / 2 ^ 32) from leBytes_add 4 4 addr]
    simp only [List.append_assoc]
  have c0 := coveredWord_within (off := 16 * k) (k := 4 * k) addr []
    (leBytes 4 (addr / 2 ^ 32) ++ (leBytes 4 data ++ leBytes 4 1)) (by simp; omega)
  have c1 := coveredWord_within (off := 16 * k) (k := 4 * k + 1) (addr / 2 ^ 32) (leBytes 4 addr)
    (leBytes 4 data ++ leBytes 4 1) (by simp; omega)
  have c2 := coveredWord_within (off := 16 * k) (k := 4 * k + 2) data (leBytes 4 addr ++ leBytes 4 (addr / 2 ^ 32))
    (leBytes 4 1) (by simp; omega)
  have c3 := coveredWord_within (off := 16 * k) (k := 4 * k + 3) 1
    (leBytes 4 addr ++ (leBytes 4 (addr / 2 ^ 32) ++ leBytes 4 data)) [] (by simp; omega)
  simp only [List.append_assoc, List.nil_append, List.append_nil] at c0 c1 c2 c3
  have hlo (x : Nat) : (x / 2 ^ 32 * 2 ^ 32 + addr % 2 ^ 32) % 2 ^ 32 + 2 ^ 32 * (addr / 2 ^ 32 % 2 ^ 32) = addr := by omega
  have hlen : (leBytes 4 addr ++ (leBytes 4 (addr / 2 ^ 32) ++ (leBytes 4 data ++ leBytes 4 1))).length = 16 := by simp
  simp only [msixWrite, hb, hlen, touchedWords_entry, List.foldl_cons, List.foldl_nil,
    c0, c1, c2, c3, msixWord_addrLow _ _ hk, msixWord_addrHigh _ _ hk, msixWord_data _ _ hk,
    msixWord_mask _ hk (show bit (1 % 2 ^ 32) 0 = true by decide), msixEntry_setMsix_self, hlo, Nat.mod_eq_of_lt hd]

/-- From `s` to `t` entry `k` of PF 0 has become `e`, and nothing else has changed. -/
def SetsEntry (k : Nat) (e : MsixEntry) (s t : State) : Prop :=
  t.msixEntry 0 k = e ∧ t = { s with msix := t.msix } ∧ ∀ n j, 128 * n + j ≠ k → t.msixEntry n j = s.msixEntry n j

theorem SetsEntry.setMsix {k : Nat} {e : MsixEntry} {s t : State} (h : SetsEntry k e s t) (e' : MsixEntry) :
    SetsEntry k e' s (t.setMsix 0 k e') := by
  obtain ⟨-, hs, hn⟩ := h
  refine ⟨msixEntry_setMsix_self .., ?_, fun n j hj => ?_⟩
  · rw [hs]; rfl
  · rw [msixEntry_setMsix_ne _ _ (by omega), hn n j hj]

theorem SetsEntry.refl (s : State) (k : Nat) : SetsEntry k (s.msixEntry 0 k) s s := ⟨rfl, rfl, fun _ _ _ => rfl⟩

theorem msixWrite_sets (s : State) {k addr data : Nat} (hk : k < 128) (ha : addr < 2 ^ 64) (hd : data < 2 ^ 32) :
    SetsEntry k { s.msixEntry 0 k with addr := addr, data := data, masked := true } s
      (s.msixWrite 0 (16 * k) (leBytes 8 addr ++ leBytes 4 data ++ leBytes 4 1)) := by
  rw [msixWrite_entry s hk ha hd]
  exact ((((SetsEntry.refl s k).setMsix _).setMsix _).setMsix _).setMsix _

end State

namespace State

/-! ## One field's write, by its access code (Table 0-3) -/

section
variable {s : State} {F : Fld} {d v : Nat} {on locked : Bool}

theorem putField_set {x : Nat} (h : s.fieldWrite F d v on locked = .set x) :
    s.putField F d v on locked = (s.setReg F d x, false) := by rw [putField, h]

theorem putField_keep (h : s.fieldWrite F d v on locked = .keep) : s.putField F d v on locked = (s, false) := by
  rw [putField, h]

theorem putField_drop (h : s.fieldWrite F d v on locked = .drop) : s.putField F d v on locked = (s, true) := by
  rw [putField, h]

/-- A write that takes effect at once: the field reads the value cut to its width, and no other field changes. -/
theorem putField_takes {x : Nat} (h : s.fieldWrite F d v on locked = .set x) :
    (s.putField F d v on locked).1.reg F d = x % 2 ^ F.w ∧ (s.putField F d v on locked).2 = false ∧
    Touches [F.key d] s (s.putField F d v on locked).1 := by
  rw [putField_set h]
  exact ⟨reg_setReg_self .., rfl, Touches.setReg ..⟩

theorem fieldWrite_rw (h : F.acc = .rw) (ha : actedFields.contains F = false) :
    s.fieldWrite F d v on locked = .set v := by simp only [fieldWrite, h, ha, Bool.false_eq_true, if_false]

theorem fieldWrite_rwl (h : F.acc = .rwl) :
    s.fieldWrite F d v on locked = if locked then .keep else .set v := by simp only [fieldWrite, h]

theorem fieldWrite_rwd (h : F.acc = .rwd) : s.fieldWrite F d v on locked =
    if v = s.reg F d then .keep else if on || s.badValue F d v then .drop else .set v := by simp only [fieldWrite, h]

theorem fieldWrite_w1c (h : F.acc = .w1c) :
    s.fieldWrite F d v on locked = .set (s.reg F d - Nat.land (s.reg F d) v) := by simp only [fieldWrite, h]

theorem fieldWrite_w1s (h : F.acc = .w1s) :
    s.fieldWrite F d v on locked = .set (Nat.lor (s.reg F d) v) := by simp only [fieldWrite, h]

theorem fieldWrite_rws (h : F.acc = .rws) : s.fieldWrite F d v on locked = .stage v := by simp only [fieldWrite, h]

theorem fieldWrite_readOnly (h : F.acc ∈ [Acc.ro, .wo, .calc, .sat, .wrap, .mono, .thresh]) :
    s.fieldWrite F d v on locked = .keep := by
  cases ha : F.acc <;> simp_all [fieldWrite]

/-- An RWS write is staged and read back; nothing comes into force. -/
theorem putField_rws (h : F.acc = .rws) :
    let r := s.putField F d v on locked
    r.2 = false ∧ r.1.regRead F d = v % 2 ^ F.w ∧ r.1 = { s with staged := r.1.staged } ∧
    ∀ k, k ≠ F.key d → SMap.get? r.1.staged k = SMap.get? s.staged k := by
  have e : s.putField F d v on locked = (s.stage F d v, false) := by rw [putField, fieldWrite_rws h]
  simp only [e, true_and]
  exact ⟨by simp [regRead, stage], rfl, fun k hk => SMap.get?_ins_ne _ _ hk⟩

/-- Only TAG_RESERVE and INSTANCE refuse a value in any state. -/
theorem badValue_other (h : F ≠ PDT_INST1.TAG_RESERVE ∧ F ≠ QP_CTRL.INSTANCE) : s.badValue F d v = false := by
  simp [badValue, beq_false_of_ne h.1, beq_false_of_ne h.2]

/-- An RWD field keeps a differing value out while its block is enabled, and a value that it refuses at any time (R6). -/
theorem putField_rwd (h : F.acc = .rwd) :
    let r := s.putField F d v on locked
    (v = s.reg F d → r = (s, false)) ∧ (v ≠ s.reg F d → on = true → r = (s, true)) ∧
    (v ≠ s.reg F d → on = false → (s.badValue F d v = true → r = (s, true)) ∧
      (s.badValue F d v = false ∨ F ≠ PDT_INST1.TAG_RESERVE ∧ F ≠ QP_CTRL.INSTANCE →
        r.1.reg F d = v % 2 ^ F.w ∧ r.2 = false ∧ Touches [F.key d] s r.1)) := by
  refine ⟨fun hv => putField_keep ?_, fun hv ho => putField_drop ?_, fun hv ho => ⟨fun hb => putField_drop ?_, fun hb => ?_⟩⟩
  · rw [fieldWrite_rwd h, if_pos hv]
  · simp [fieldWrite_rwd h, hv, ho]
  · simp [fieldWrite_rwd h, hv, hb]
  · have hb : s.badValue F d v = false := hb.elim id badValue_other
    exact putField_takes (by simp [fieldWrite_rwd h, hv, ho, hb])

theorem putField_w1c_bit (h : F.acc = .w1c) {i : Nat} (hi : i < F.w) :
    bit ((s.putField F d v on locked).1.reg F d) i = (bit (s.reg F d) i && !bit v i) := by
  rw [(putField_takes (fieldWrite_w1c h)).1, bit_mod hi]
  simp only [bit_eq_testBit]
  exact testBit_sub_land (s.reg F d) v i

theorem putField_w1s_bit (h : F.acc = .w1s) {i : Nat} (hi : i < F.w) :
    bit ((s.putField F d v on locked).1.reg F d) i = (bit (s.reg F d) i || bit v i) := by
  rw [(putField_takes (fieldWrite_w1s h)).1, bit_mod hi]
  simp only [bit_eq_testBit]
  exact Nat.testBit_or (s.reg F d) v i

end

/-! ## A word's write -/

/-- A command whose effect leaves the queue as it is answers with that effect. -/
theorem answer_self {s t : State} (h : t.pending = s.pending) : answer s t = .next t := by rw [answer, ← h]

/-- What a word outside Jasper does when written whole, after its fields: the report of a drop, the change of a queue pair's
owner, the action, and the copies of a catalogue entry. -/
def wordEffect (s u : State) (drop : Bool) (w : Word32) (v : Nat) : State :=
  let a := if drop then u.dropWord w else u
  let q := w.d / 64
  let b := (if w.has QP_CTRL.INSTANCE && s.qpInst q != a.qpInst q then a.sbChanged [s.qpInst q, a.qpInst q] else a).act 0 w v
  if w.blk == .spn then b.spreadFrom s (w.d / 0x100000) else b

theorem writeWord_eq (s : State) {w : Word32} (v : Nat) (slot : Bool) (hj : w.blk ≠ .jsp) (hh : w.high = false) :
    s.writeWord 0 w v slot = s.wordEffect (s.putFields w v slot).1 (s.putFields w v slot).2 w v := by
  simp [writeWord, wordEffect, hh, beq_false_of_ne hj]

theorem writeWord_high (s : State) {w : Word32} (v : Nat) (slot : Bool) (hj : w.blk ≠ .jsp) (hh : w.high = true) :
    s.writeWord 0 w v slot = s := by
  simp [writeWord, hh, beq_false_of_ne hj]

section
variable {s : State} {off : Nat} (hp : s.power.on = true) (hl : s.linked 0 = true) (ho : off % 4 = 0) (hoff : off < 0x10000)
include hp hl ho hoff

theorem exec_registerWrite_reserved (v : Nat) (hw : s.word? off = none) :
    exec (.registerWrite 0 0 off (leBytes 4 v)) s = .next s := by
  rw [exec_registerWrite_pf _ _ hp hl, busWrite_word _ ho hoff (by simp) (by simp), touchWord_reserved _ ho hw]
  rfl

variable {w : Word32} (ha : s.answers off = .yes) (hf : s.foreignHead off = false) (hw : s.word? off = some w)
include ha hf hw

theorem exec_registerWrite_word {v : Nat} (hv : v < 2 ^ 32) :
    exec (.registerWrite 0 0 off (leBytes 4 v)) s = answer s (s.writeWord 0 w v (inSlot off)) := by
  rw [exec_registerWrite_pf _ _ hp hl, busWrite_word _ ho hoff (by simp) (by simp),
    (touchWord_pf _ ho ha hf hw).1 v (coveredWord_whole ho hv)]

theorem exec_registerWrite_byte (b : Byte) :
    exec (.registerWrite 0 0 off [b]) s = answer s (s.dropWord w) := by
  rw [exec_registerWrite_pf _ _ hp hl, busWrite_word _ ho hoff (by simp) (by simp),
    (touchWord_pf _ ho ha hf hw).2 (coveredWord_byte b ho)]

end

/-- A management core reaches Jasper's registers alone (R192). -/
theorem exec_registerWrite_core (s : State) {n off : Nat} {data : Bytes} (hn : 16 ≤ n) (hn' : n < 20)
    (h : ∀ k ∈ touchedWords off data.length, inJasper k = false) : exec (.registerWrite n 0 off data) s = .next s := by
  have hb : s.busWrite n 0 off data = s := by
    have hnone : (touchedWords off data.length).filter inJasper = [] := List.filter_eq_nil_iff.2 fun k hk => by simp [h k hk]
    simp [busWrite, hn, hnone]
  rw [exec_registerWrite _ _ _ _ _ hn', hb]
  split <;> split <;> rfl

end State

/-! ## Staged values (R7) -/

namespace State

@[simp] theorem get?_staged_stage (s : State) (F : Fld) (d v : Nat) :
    SMap.get? (s.stage F d v).staged (F.key d) = some (v % 2 ^ F.w) := SMap.get?_ins_self ..

/-- A boundary brings the staged value into force, and nothing stays staged. -/
theorem applyStaged_some {s : State} {F : Fld} {d v : Nat} (h : SMap.get? s.staged (F.key d) = some v) :
    s.applyStaged F d = { (s.setReg F d v) with staged := SMap.del s.staged (F.key d) } := by
  simp only [applyStaged, h]

theorem applyStaged_none {s : State} {F : Fld} {d : Nat} (h : SMap.get? s.staged (F.key d) = none) :
    s.applyStaged F d = s := by
  simp only [applyStaged, h]

end State

/-! ## A read request -/

/-- A read of 1 to 8 bytes by a management core, at a moment of the tick under way. -/
theorem exec_lowWordRead_core {s : State} {req : Nat} {a : ReadAccess} (hr : 16 ≤ req) (hr' : req < 20)
    (hp : s.power.on = true) (hlen : 1 ≤ a.len ∧ a.len ≤ 8) (ht : s.inTick a.gclk = true) :
    exec (.lowWordRead req a) s = answer s ((s.atGclk a.gclk).busRead req a.bar a.off a.len) := by
  show unitStep _ _ _ _ _ = _
  rw [unitStep, if_pos hr', stepIf, if_pos (by simp [hp, hr, hlen, ht])]

/-- The module is ready, and management core 0 has a high word latched that no register can hold. -/
def wideLatch : State := { State.reset.setReg GBL_BOOT_STATUS.STAGE 0 0xF with hiHold := [(16, 2 ^ 32)] }

/-- The word of QTZ_DTIME_HI. -/
def dtimeHigh : Word32 := ⟨.qtz, ⟨0x040C, [], .high, [QTZ_DTIME_HI.DTIME]⟩, 0, false⟩

theorem wideLatch_word? : wideLatch.word? 0x40C = some dtimeHigh := by decide +kernel

/-- The read gives the 32 bits that a word of the bus has room for. -/
theorem wideLatch_read : ((wideLatch.atGclk 0).busRead 16 0 0x40C 4).out = wideLatch.out ++ [.readData 16 0x40C 0] := by
  decide +kernel

end Sys2Proof.Machine

namespace Sys2Proof.Proofs
open Sys2Proof.Machine

/-- Settles O50: each field of a word takes its own write, whatever the others take, since their keys differ. -/
theorem registerFields : Obligations.RegisterFields := by
  unfold Obligations.RegisterFields
  refine ⟨fun s F d v on locked => ?_, fun s off v hp hl ho hv => ⟨fun hoff ha hf => ⟨?_, fun w hw hj => ⟨?_, ?_, ?_⟩⟩, ?_, ?_⟩⟩
  · refine ⟨fun h hx => State.putField_takes (State.fieldWrite_rw h hx), State.putField_rws, State.putField_rwd,
      fun h => ⟨fun hk => State.putField_keep ?_, fun hk => State.putField_takes ?_⟩,
      fun h => ⟨State.putField_takes (State.fieldWrite_w1c h), fun i hi _ => State.putField_w1c_bit h hi⟩,
      fun h => ⟨State.putField_takes (State.fieldWrite_w1s h), fun i hi => State.putField_w1s_bit h hi⟩,
      fun h => State.putField_keep (State.fieldWrite_readOnly h)⟩
    · rw [State.fieldWrite_rwl h, if_pos hk]
    · rw [State.fieldWrite_rwl h, if_neg (by simp [hk])]
  · exact State.exec_registerWrite_reserved hp hl ho hoff v
  · intro hh
    rw [State.exec_registerWrite_word hp hl ho hoff ha hf hw hv, State.writeWord_high _ _ _ hj hh]
    rfl
  · intro hh
    obtain ⟨hlaid, hd⟩ := State.word?_laid hw ho
    obtain ⟨⟨hsame, hregs, -⟩, hdrop, hval⟩ := State.putFields_spec s w v (inSlot off) hlaid hd
    refine ⟨_, _, ?_, hdrop, fun F hF hno => (hval F hF hno).reads, hsame, hregs⟩
    rw [State.exec_registerWrite_word hp hl ho hoff ha hf hw hv, State.writeWord_eq _ _ _ hj hh]
    rfl
  · intro F b hh hF hb
    rw [State.exec_registerWrite_byte hp hl ho hoff ha hf hw, State.dropWord_block _ hj hb]
    obtain ⟨hset, hsum, ht⟩ := s.cfgErr_reports hF
    exact ⟨_, State.answer_self (by simp), hset, hsum, ht⟩
  · exact fun n o data hn hn' h => State.exec_registerWrite_core s hn hn' h
  · intro k addr data hk haddr hdata
    have hw : s.busWrite 0 2 (16 * k) (leBytes 8 addr ++ leBytes 4 data ++ leBytes 4 1) =
        s.msixWrite 0 (16 * k) (leBytes 8 addr ++ leBytes 4 data ++ leBytes 4 1) := by
      simp [State.busWrite, show 16 * k + 16 ≤ 2048 by omega]
    obtain ⟨he, hs, hn⟩ := State.msixWrite_sets s hk haddr hdata
    rw [State.exec_registerWrite_pf _ _ hp hl, hw, State.answer_self (by rw [hs])]
    exact ⟨_, rfl, he, hs, hn⟩

/-- Refutes O51: the statement is of every state, also of one whose latch for a requester holds a number of more than 32
bits, of which a read of the high word gives the low 32. (No run reaches such a state: what a low word latches is a word.) -/
theorem not_lowWordReads : ¬ Obligations.LowWordReads := by
  unfold Obligations.LowWordReads
  intro h
  obtain ⟨-, -, -, hword⟩ :=
    h wideLatch 16 0x40C 0 (by decide) rfl (by decide) (by decide) (by decide) (by decide) (by decide)
  obtain ⟨hheld, -⟩ := hword dtimeHigh (by decide +kernel) wideLatch_word? (by decide)
  obtain ⟨t, ⟨hexec, hout⟩, -⟩ := hheld rfl
  have hread := exec_lowWordRead_core (s := wideLatch) (req := 16) (a := ⟨0, 0x40C, 4, 0⟩) (by decide) (by decide) rfl
    (by decide) (by decide)
  cases hread.symm.trans hexec
  have hval : [Out.readData 16 0x40C 0] = [Out.readData 16 0x40C (2 ^ 32)] :=
    List.append_cancel_left (wideLatch_read.symm.trans hout)
  cases hval

/-- Settles O52, by the two cases of the queue. -/
theorem stepTakesFront : Obligations.StepTakesFront := by
  unfold Obligations.StepTakesFront
  exact fun s => ⟨fun c rest h => by simp only [step, h], fun h => by simp only [step, h]⟩

/-- Settles O58: the second value takes the first one's place in `staged`, and the boundary applies what stands there. -/
theorem stagedValues : Obligations.StagedValues := by
  unfold Obligations.StagedValues
  intro s F d a b
  have hb : SMap.get? ((s.stage F d a).stage F d b).staged (F.key d) = some (b % 2 ^ F.w) := State.get?_staged_stage ..
  rw [State.applyStaged_some hb]
  refine ⟨rfl, rfl, ?_, SMap.get?_del_self _ _, fun k hk => ?_, State.applyStaged_none⟩
  · exact (State.reg_setReg_self _ F d _).trans (Nat.mod_mod _ _)
  · exact State.get?_setReg_ne _ _ hk

end Sys2Proof.Proofs

/-!
A scrub burst that changes who owns a line while it runs: what refutes O45.
-/

namespace Sys2Proof.Machine

/-- A scrub burst of a channel that is up, while scrubbing is enabled. -/
theorem exec_scrubBurst_up {s : State} {c : Nat} {us : List Upset} (hc : c < 8) (hr : s.ready = true)
    (hen : s.regB ZRC_CTRL.SCRUB_EN = true) (hup : (s.dom (188 + c)).up = true) :
    exec (.scrubBurst c us) s = answer s ((s.plant us).scrubBurst c).searchDirs := by
  show unitStep _ _ _ _ _ = _
  rw [unitStep, if_pos hc, stepIf, if_pos (by simp [hr, hen, hup])]

/-- A port number beyond the four of Span: its count of frames has the key of the base of table 1's version 2, and its link
state the key of the base of version 0. -/
def strayPort : Nat := 0x7FA5

theorem strayPort_keys : SPAN_P_FRAMES.COUNT.key (spD strayPort) = TD_SEG_BASE_LO.ADDR.key (tdD 1 + 8 * 2) ∧
    SPAN_P_STATUS.STATE.key (spD strayPort) = TD_SEG_BASE_LO.ADDR.key (tdD 1) := by decide

/-- The head of a span, without routes, whose last JOIN is said to have come on `strayPort`. Channel 0 is up and about to
scrub from local offset 0xF000; two of the lines ahead hold an uncorrectable error, 0x3C0 in the catalogue entry of table
240, which module 1 holds a copy of, and 0x400 at local offset 0x10000. Table 1 has its version 2 at 0xD000 to 0xFFFF, its
base register one short of the next page. -/
def strayJoin : State :=
  let s := State.reset.setReg GBL_BOOT_STATUS.STAGE 0 0xF
  let s := s.setReg SPAN_STATUS.STATE 0 2
  let s := (s.setReg TD_CTRL.EN (tdD 240) 1).setReg TD_CTRL.MODULES (tdD 240) 2
  let s := (s.setReg TD_CTRL.MODULES (tdD 1) 1).setReg TD_CTRL.VERSIONS_VALID (tdD 1) 4
  let s := (s.setReg TD_SEG_BASE_LO.ADDR (tdD 1) 2).setReg TD_SEG_BASE_LO.ADDR (tdD 1 + 8 * 2) 0xDFFF
  let s := s.setReg TD_STAGE_BASE_LO.ADDR (tdD 1) 0x20000
  let s := s.setReg ZRC_C_SCRUB_POS.LINES 0 120
  let s := s.setDom 188 { s.dom 188 with st := .on }
  { s with ueLines := [(0x3C0, true), (0x400, true)], node := { s.node with joinFrom := strayPort + 1 } }

/-- No line of the burst is a map table's before it. -/
theorem strayJoin_unowned :
    ∀ i < min 64 (channelLines - 120), (strayJoin.ownerOf (strayJoin.channelLine 0 (120 + i))).1 ≠ 1 := by decide +kernel

theorem strayJoin_noSearch : strayJoin.searches = [] := by decide +kernel

/-- The poison in the catalogue has a frame sent, whose count moves table 1's segment over line 0x400: a search falls due. -/
theorem strayJoin_searches : ((strayJoin.plant []).scrubBurst 0).searchDirs.searches = [0x400] := by decide +kernel

end Sys2Proof.Machine

namespace Sys2Proof.Proofs
open Sys2Proof.Machine

/-- Refutes O45: the statement is of every state, also of one in which a frame is sent on a port that Span does not have.
Its count aliases a table's base, so that a burst can come upon a map table's line where there was none before it. (No run
reaches such a state: a JOIN comes on one of the ports 0 to 3.) -/
theorem not_zirconWorks : ¬ Obligations.ZirconWorks := by
  unfold Obligations.ZirconWorks
  intro h
  have hr : strayJoin.ready = true := by decide +kernel
  have hen : strayJoin.regB ZRC_CTRL.SCRUB_EN = true := by decide +kernel
  have hup : (strayJoin.dom 188).up = true := by decide +kernel
  obtain ⟨-, hscrub, -⟩ := h strayJoin 0 (by decide) rfl
  obtain ⟨t, hexec, hquiet, -⟩ := (hscrub hr hen).1 [] hup
  obtain ⟨-, hsearches, -⟩ := hquiet (fun _ hl => absurd hl List.not_mem_nil) strayJoin_unowned
  rw [exec_scrubBurst_up (by decide) hr hen hup, answer, Host.Outcome.next.injEq] at hexec
  rw [← hexec, strayJoin_noSearch] at hsearches
  dsimp only at hsearches
  rw [strayJoin_searches] at hsearches
  cases hsearches

end Sys2Proof.Proofs

/-!
What a period of the BUDGET input does, by its validity, by loss of signal and by the run it extends (R92, R102, R103).
-/

namespace Sys2Proof.Machine

/-- The registers of Topaz that hold the budget's state lie below Quartz's domain entries and the windows, where events write. -/
theorem not_eventKey_of_lt {k : Nat} (h : k < 8 * 0x6C00) : ¬ eventKey k := by
  rintro (⟨n, rfl⟩ | ⟨n, -, rfl⟩)
  · have : lostKey n = 8 * (0x8028 + 0x800 * n) := rfl
    omega
  · have : QTZ_DOM.CANCEL.key (domD n) = 8 * (0x6C00 + 4 * n) + 28 := rfl
    omega

/-- What events change stays so when Topaz's own state is replaced alike before and after. -/
theorem Tells.withTopaz {ks : List Nat} {s t : State} (h : Tells ks s t) (z : Topaz) :
    Tells ks { s with topaz := z } { t with topaz := z } :=
  ⟨congrArg (fun u : State => { u with topaz := z }) h.1, h.2.1, h.2.2⟩

theorem dutyBudget_le (duty : Nat) : dutyBudget duty ≤ 768 := by
  rw [dutyBudget]; omega

theorem leastOf_append_le (l : List Nat) (c : Nat) : leastOf (l ++ [c]) ≤ c := by
  rw [leastOf, List.foldl_append]
  exact Nat.min_le_right _ _

/-- The smallest candidate of a run fits the register that shows the signalled budget. -/
theorem leastOf_run_lt (l : List Nat) (duty : Nat) : leastOf (l ++ [dutyBudget duty]) < 2 ^ 10 :=
  Nat.lt_of_le_of_lt (Nat.le_trans (leastOf_append_le l _) (dutyBudget_le duty)) (by decide)

theorem duty_le_of_periodValid {period high : Nat} (h : periodValid period high = true) : high * 1000 / period ≤ 950 := by
  simp only [periodValid, Bool.and_eq_true, decide_eq_true_eq] at h
  exact h.2

namespace State

/-! ## Parts of a valid period's effect -/

/-- A valid period is measured: its duty and length are shown, and the count of invalid ones starts again. -/
def measured (s : State) (duty period : Nat) : State :=
  { (s.setReg TPZ_DUTY.DUTY 0 duty).setReg TPZ_DUTY.PERIOD 0 (min (period / 100) 0xFFFF) with
      topaz := { s.topaz with badRun := 0 } }

/-- Loss of signal has ended at the signalled budget `v`. -/
def restored (s : State) (v : Nat) : State :=
  ((s.setSignalled v).setReg TPZ_STATUS.LOS 0 0).pfEvent 0x0203 (some v)

section
variable (s : State) (duty period v : Nat)

@[simp] theorem measured_topaz : (s.measured duty period).topaz = { s.topaz with badRun := 0 } := rfl

theorem reg_measured_duty (h : duty < 2 ^ 10) : (s.measured duty period).reg TPZ_DUTY.DUTY = duty :=
  (reg_setReg_ne (s.setReg TPZ_DUTY.DUTY 0 duty) _ (by decide)).trans
    ((reg_setReg_self s ..).trans (Nat.mod_eq_of_lt h))

theorem reg_measured_period : (s.measured duty period).reg TPZ_DUTY.PERIOD = min (period / 100) 0xFFFF :=
  (reg_setReg_self (s.setReg TPZ_DUTY.DUTY 0 duty) ..).trans
    (Nat.mod_eq_of_lt (Nat.lt_of_le_of_lt (Nat.min_le_right _ _) (by decide)))

theorem reg_measured_ne {F : Fld} {d : Nat} (hd : F.key d ≠ TPZ_DUTY.DUTY.key 0) (hp : F.key d ≠ TPZ_DUTY.PERIOD.key 0) :
    (s.measured duty period).reg F d = s.reg F d :=
  (reg_setReg_ne (s.setReg TPZ_DUTY.DUTY 0 duty) _ hp).trans (reg_setReg_ne s _ hd)

theorem tells_measured (z : Topaz) : Tells [TPZ_DUTY.DUTY.key 0, TPZ_DUTY.PERIOD.key 0]
    { s with topaz := z } { s.measured duty period with topaz := z } :=
  (((Tells.setReg s ..).mono (by simp)).trans ((Tells.setReg ..).mono (by simp))).withTopaz z

@[simp] theorem setSignalled_topaz : (s.setSignalled v).topaz =
    { s.topaz with signalledEver := true, rise := [], recover := [], badRun := 0 } := rfl

theorem reg_setSignalled_self (h : v < 2 ^ 10) : (s.setSignalled v).reg TPZ_STATUS.SIGNALLED = v :=
  (reg_setReg_self s ..).trans (Nat.mod_eq_of_lt h)

theorem tells_setSignalled (z : Topaz) :
    Tells [TPZ_STATUS.SIGNALLED.key 0] { s with topaz := z } { s.setSignalled v with topaz := z } :=
  (Tells.setReg s ..).withTopaz z

@[simp] theorem restored_topaz : (s.restored v).topaz = (s.setSignalled v).topaz := pfEvent_topaz ..

theorem reg_restored_los : (s.restored v).reg TPZ_STATUS.LOS = 0 :=
  (reg_event _ _ _ _ _ (not_eventKey_of_lt (by decide))).trans (reg_setReg_self ..)

theorem reg_restored_signalled (h : v < 2 ^ 10) : (s.restored v).reg TPZ_STATUS.SIGNALLED = v :=
  (reg_event _ _ _ _ _ (not_eventKey_of_lt (by decide))).trans
    ((reg_setReg_ne _ _ (by decide)).trans (s.reg_setSignalled_self v h))

theorem tells_restored (z : Topaz) : Tells [TPZ_STATUS.SIGNALLED.key 0, TPZ_STATUS.LOS.key 0]
    { s with topaz := z } { s.restored v with topaz := z } :=
  ((s.tells_setSignalled v z).mono (by simp)).trans
    (((Tells.setReg (s.setSignalled v) ..).mono (by simp)).trans ((Tells.pfEvent ..).mono (by simp)) |>.withTopaz z)

/-! ## A valid period (R92, R103) -/

/-- What a valid period does once measured; its conditions are read in the state before it. -/
theorem validPeriod_eq : s.validPeriod duty period =
    let m := s.measured duty period
    let c := dutyBudget duty
    if s.regB TPZ_STATUS.LOS then
      if s.risePeriods ≤ s.topaz.recover.length + 1 then m.restored (leastOf (s.topaz.recover ++ [c]))
      else { m with topaz := { m.topaz with recover := s.topaz.recover ++ [c] } }
    else if c < s.reg TPZ_STATUS.SIGNALLED then m.setSignalled c
    else if s.reg TPZ_STATUS.SIGNALLED < c then
      if s.risePeriods ≤ s.topaz.rise.length + 1 then m.setSignalled (leastOf (s.topaz.rise ++ [c]))
      else { m with topaz := { m.topaz with rise := s.topaz.rise ++ [c] } }
    else { m with topaz := { m.topaz with rise := [] } } := by
  have hlos : (s.measured duty period).regB TPZ_STATUS.LOS = s.regB TPZ_STATUS.LOS :=
    congrArg (· != 0) (s.reg_measured_ne duty period (by decide) (by decide))
  have hsig : (s.measured duty period).reg TPZ_STATUS.SIGNALLED = s.reg TPZ_STATUS.SIGNALLED :=
    s.reg_measured_ne duty period (by decide) (by decide)
  have hrise : (s.measured duty period).risePeriods = s.risePeriods :=
    congrArg (max 1) (s.reg_measured_ne duty period (by decide) (by decide))
  have hlen (l : List Nat) : l.length + 1 = (l ++ [dutyBudget duty]).length := (List.length_append (as := l) (bs := [_])).symm
  rw [← hlos, ← hsig, ← hrise, hlen s.topaz.recover, hlen s.topaz.rise]
  rfl

section
variable {s duty} (hlos : s.regB TPZ_STATUS.LOS = false)
include hlos

theorem validPeriod_lower (hc : dutyBudget duty < s.reg TPZ_STATUS.SIGNALLED) :
    s.validPeriod duty period = (s.measured duty period).setSignalled (dutyBudget duty) := by
  simp only [validPeriod_eq, hlos, Bool.false_eq_true, if_false, if_pos hc]

theorem validPeriod_rising (hc : s.reg TPZ_STATUS.SIGNALLED < dutyBudget duty)
    (hn : s.topaz.rise.length + 1 < s.risePeriods) :
    s.validPeriod duty period = { s.measured duty period with
      topaz := { s.topaz with badRun := 0, rise := s.topaz.rise ++ [dutyBudget duty] } } := by
  simp only [validPeriod_eq, hlos, Bool.false_eq_true, if_false, if_neg (Nat.lt_asymm hc), if_pos hc,
    if_neg (Nat.not_le.2 hn), measured_topaz]

theorem validPeriod_risen (hc : s.reg TPZ_STATUS.SIGNALLED < dutyBudget duty)
    (hn : s.risePeriods ≤ s.topaz.rise.length + 1) :
    s.validPeriod duty period =
      (s.measured duty period).setSignalled (leastOf (s.topaz.rise ++ [dutyBudget duty])) := by
  simp only [validPeriod_eq, hlos, Bool.false_eq_true, if_false, if_neg (Nat.lt_asymm hc), if_pos hc, if_pos hn]

end

section
variable {s} (hlos : s.regB TPZ_STATUS.LOS = true)
include hlos

theorem validPeriod_recovering (hn : s.topaz.recover.length + 1 < s.risePeriods) :
    s.validPeriod duty period = { s.measured duty period with
      topaz := { s.topaz with badRun := 0, recover := s.topaz.recover ++ [dutyBudget duty] } } := by
  simp only [validPeriod_eq, hlos, if_true, if_neg (Nat.not_le.2 hn), measured_topaz]

theorem validPeriod_restores (hn : s.risePeriods ≤ s.topaz.recover.length + 1) :
    s.validPeriod duty period =
      (s.measured duty period).restored (leastOf (s.topaz.recover ++ [dutyBudget duty])) := by
  simp only [validPeriod_eq, hlos, if_true, if_pos hn]

end

theorem validPeriod_badRun : (s.validPeriod duty period).topaz.badRun = 0 := by
  rw [validPeriod_eq]; dsimp only
  split
  · split
    · rw [restored_topaz, setSignalled_topaz]
    · rfl
  · split
    · rfl
    · split
      · split <;> rfl
      · rfl

/-- Once measured, a valid period can change the signalled budget and LOS. -/
theorem tells_decided (z : Topaz) : Tells [TPZ_STATUS.SIGNALLED.key 0, TPZ_STATUS.LOS.key 0]
    { s.measured duty period with topaz := z } { s.validPeriod duty period with topaz := z } := by
  rw [validPeriod_eq]; dsimp only
  have hkeep (u : State) : Tells [TPZ_STATUS.SIGNALLED.key 0, TPZ_STATUS.LOS.key 0] u u := (Tells.refl u).mono (by simp)
  split
  · split
    · exact tells_restored ..
    · exact hkeep _
  · split
    · exact (tells_setSignalled ..).mono (by simp)
    · split
      · split
        · exact (tells_setSignalled ..).mono (by simp)
        · exact hkeep _
      · exact hkeep _

/-- What a valid period decides about the signalled budget leaves the other fields of Topaz as measured. -/
theorem reg_validPeriod {F : Fld} {d : Nat} (hk : F.key d ∉ [TPZ_STATUS.SIGNALLED.key 0, TPZ_STATUS.LOS.key 0])
    (hl : F.key d < 8 * 0x6C00) : (s.validPeriod duty period).reg F d = (s.measured duty period).reg F d :=
  (s.tells_decided duty period s.topaz).reg F d hk (not_eventKey_of_lt hl)

theorem reg_validPeriod_duty (h : duty < 2 ^ 10) : (s.validPeriod duty period).reg TPZ_DUTY.DUTY = duty :=
  (s.reg_validPeriod duty period (by decide) (by decide)).trans (s.reg_measured_duty duty period h)

theorem reg_validPeriod_period : (s.validPeriod duty period).reg TPZ_DUTY.PERIOD = min (period / 100) 0xFFFF :=
  (s.reg_validPeriod duty period (by decide) (by decide)).trans (s.reg_measured_period duty period)

theorem tells_validPeriod (z : Topaz) :
    Tells [TPZ_DUTY.DUTY.key 0, TPZ_DUTY.PERIOD.key 0, TPZ_STATUS.SIGNALLED.key 0, TPZ_STATUS.LOS.key 0]
      { s with topaz := z } { s.validPeriod duty period with topaz := z } :=
  ((s.tells_measured duty period z).mono (by simp)).trans ((s.tells_decided duty period z).mono (by simp))

end

/-! ## An invalid period, and loss of signal (R92, R102, R104) -/

/-- Loss of signal is in force: what `declareLos` does before the event. -/
def losSet (s : State) : State :=
  { s.setReg TPZ_STATUS.LOS 0 1 with topaz := { s.topaz with rise := [], recover := [], badRun := 0 } }

theorem declareLos_eq (s : State) : s.declareLos = (s.losSet.pfEvent 0x0202 (some s.losSet.fallback)).rebalance := rfl

theorem reg_losSet (s : State) : s.losSet.reg TPZ_STATUS.LOS = 1 := reg_setReg_self s TPZ_STATUS.LOS 0 1

/-- An invalid period is counted and ends both runs. -/
def invalidCounted (s : State) : State :=
  { s.count TPZ_INVALID_CNT.COUNT with topaz := { s.topaz with rise := [], recover := [], badRun := s.topaz.badRun + 1 } }

theorem tells_invalidCounted (s : State) (z : Topaz) :
    Tells [TPZ_INVALID_CNT.COUNT.key 0] { s with topaz := z } { s.invalidCounted with topaz := z } :=
  (Tells.count s ..).withTopaz z

theorem invalidPeriod_eq (s : State) : s.invalidPeriod =
    if decide (3 ≤ s.topaz.badRun + 1) && !s.regB TPZ_STATUS.LOS then s.invalidCounted.declareLos
    else s.invalidCounted := by
  have hlos : s.invalidCounted.regB TPZ_STATUS.LOS = s.regB TPZ_STATUS.LOS :=
    congrArg (· != 0) (reg_count_ne s _ _ _ _ _ (by decide) (not_eventKey_of_lt (by decide)))
  rw [← hlos, invalidPeriod, count_topaz]
  rfl

theorem invalidPeriod_counts {s : State} (h : s.regB TPZ_STATUS.LOS = true ∨ s.topaz.badRun + 1 < 3) :
    s.invalidPeriod = s.invalidCounted := by
  rw [invalidPeriod_eq]
  rcases h with hlos | hrun
  · rw [hlos, Bool.not_true, Bool.and_false, if_neg Bool.false_ne_true]
  · rw [decide_eq_false (Nat.not_le.2 hrun), Bool.false_and, if_neg Bool.false_ne_true]

theorem invalidPeriod_loses {s : State} (hlos : s.regB TPZ_STATUS.LOS = false) (hrun : 3 ≤ s.topaz.badRun + 1) :
    s.invalidPeriod = s.invalidCounted.declareLos := by
  rw [invalidPeriod_eq, hlos, decide_eq_true hrun]
  exact if_pos rfl

/-- What an invalid period and the loss of signal that it brings do, short of the event. -/
theorem tells_invalidCounted_losSet (s : State) (z : Topaz) : Tells [TPZ_INVALID_CNT.COUNT.key 0, TPZ_STATUS.LOS.key 0]
    { s with topaz := z } { s.invalidCounted.losSet with topaz := z } :=
  ((s.tells_invalidCounted z).mono (by simp)).trans
    (((Tells.setReg s.invalidCounted TPZ_STATUS.LOS 0 1).withTopaz z).mono (by simp))

end State

/-! ## The events of the budget input -/

section
variable {s : State} (hp : s.power.on = true)
include hp

theorem exec_budgetRisingEdge {period high : Nat} (hh : high ≤ period) : exec (.budgetRisingEdge period high) s =
    answer s (if periodValid period high then s.validPeriod (high * 1000 / period) period
      else s.invalidPeriod).evaluate := by
  show stepIf _ _ _ = _
  rw [stepIf, if_pos (by rw [hp, Bool.true_and, decide_eq_true hh])]

theorem exec_budgetRisingEdge_valid {period high : Nat} (hh : high ≤ period) (hv : periodValid period high = true) :
    exec (.budgetRisingEdge period high) s = answer s (s.validPeriod (high * 1000 / period) period).evaluate := by
  rw [exec_budgetRisingEdge hp hh, if_pos hv]

theorem exec_budgetRisingEdge_invalid {period high : Nat} (hh : high ≤ period) (hv : ¬ periodValid period high = true) :
    exec (.budgetRisingEdge period high) s = answer s s.invalidPeriod.evaluate := by
  rw [exec_budgetRisingEdge hp hh, if_neg hv]

theorem exec_budgetEvaluation : exec .budgetEvaluation s = answer s s.evaluate := by
  show stepIf _ _ _ = _
  rw [stepIf, if_pos hp]

theorem exec_budgetLos (hlos : s.regB TPZ_STATUS.LOS = false) : exec .budgetLos s = answer s s.declareLos := by
  show stepIf _ _ _ = _
  rw [stepIf, if_pos (by rw [hp, hlos]; rfl)]

theorem exec_fclkRaiseComplete {c : Nat} (hc : s.topaz.raising = some c) : exec .fclkRaiseComplete s =
    answer s { s.setReg TPZ_STATUS.FCLK_CODE 0 c with topaz := { s.topaz with raising := none } } := by
  show execFclkRaiseComplete s = _
  simp only [execFclkRaiseComplete, hc, stepIf, if_pos hp]

theorem exec_zirconChargeRelease {c : Nat} (hc : c < 8) (hi : s.topaz.items.contains (.zirconExtra c) = true) :
    exec (.zirconChargeRelease c) s = answer s (s.release (.zirconExtra c)) := by
  show unitStep _ _ _ _ _ = _
  rw [unitStep, if_pos hc, stepIf, if_pos (by rw [hp, hi]; rfl)]

end

end Sys2Proof.Machine

namespace Sys2Proof.Proofs
open Sys2Proof.Machine

/-- Settles O11: a period is valid or not, and a valid one is told by loss of signal, its candidate and the length of its
run. -/
theorem budgetInput : Obligations.BudgetInput := by
  unfold Obligations.BudgetInput
  refine ⟨fun s period high hp hh => ?_, fun s hp => ⟨exec_budgetEvaluation hp, fun hlos => ?_, fun c hc hc10 => ?_,
    fun c hc hi => ?_⟩⟩
  · by_cases hv : periodValid period high = true
    · refine ⟨_, exec_budgetRisingEdge_valid hp hh hv, fun _ => ⟨?_, ?_, ?_, fun hlos hc => ?_,
        fun hlos hc => ⟨fun hn => ?_, fun hn => ?_⟩, fun hlos hn => ?_, fun hlos hn => ?_, ?_⟩,
        fun h => absurd (hv.symm.trans h) (by decide), fun h => absurd (hv.symm.trans h) (by decide)⟩
      · exact State.reg_validPeriod_duty _ _ _ (Nat.lt_of_le_of_lt (duty_le_of_periodValid hv) (by decide))
      · exact State.reg_validPeriod_period ..
      · exact State.validPeriod_badRun ..
      · rw [State.validPeriod_lower _ hlos hc]
        exact ⟨State.reg_setSignalled_self _ _ (Nat.lt_of_le_of_lt (dutyBudget_le _) (by decide)), rfl⟩
      · rw [State.validPeriod_rising _ hlos hc hn]
        exact ⟨State.reg_measured_ne s _ _ (by decide) (by decide), rfl⟩
      · rw [State.validPeriod_risen _ hlos hc hn]
        exact ⟨State.reg_setSignalled_self _ _ (leastOf_run_lt ..), rfl⟩
      · rw [State.validPeriod_recovering _ _ hlos hn]
        exact ⟨State.reg_measured_ne s _ _ (by decide) (by decide), rfl⟩
      · rw [State.validPeriod_restores _ _ hlos hn]
        exact ⟨State.reg_restored_los .., State.reg_restored_signalled _ _ (leastOf_run_lt ..)⟩
      · exact s.tells_validPeriod _ period s.topaz
    · refine ⟨_, exec_budgetRisingEdge_invalid hp hh hv, fun h => absurd h hv, fun _ hn => ?_, fun _ hlos hn => ?_⟩
      · rw [State.invalidPeriod_counts hn]
        exact ⟨rfl, s.tells_invalidCounted s.topaz⟩
      · rw [State.invalidPeriod_loses hlos hn]
        exact ⟨s.invalidCounted.losSet, State.reg_losSet _, rfl, s.tells_invalidCounted_losSet s.topaz, State.declareLos_eq _⟩
  · exact ⟨s.losSet, exec_budgetLos hp hlos, State.reg_losSet s, rfl, rfl, (Touches.setReg s TPZ_STATUS.LOS 0 1).2⟩
  · exact ⟨_, exec_fclkRaiseComplete hp hc, (State.reg_setReg_self s ..).trans
      (Nat.mod_eq_of_lt (Nat.lt_of_le_of_lt hc10 (by decide))), rfl, (Touches.setReg s ..).2⟩
  · exact ⟨_, exec_zirconChargeRelease hp hc hi, rfl⟩

end Sys2Proof.Proofs

/-!
What reset leaves, and a stage number too wide for the field that records an overrun: they settle O53 and refute O4.
-/

namespace Sys2Proof.Machine

@[simp] theorem reg_reset (F : Fld) (d : Nat) : State.reset.reg F d = F.rst d := rfl

@[simp] theorem regRead_reset (F : Fld) (d : Nat) : State.reset.regRead F d = F.rst d := rfl

@[simp] theorem byteAt_reset (a : Nat) : State.reset.byteAt a = 0 := rfl

/-- No line is in error, and every domain is as an unlisted one: not FAILED. -/
theorem reset_sound : State.reset.sound := ⟨rfl, rfl, rfl, by decide⟩

namespace State

theorem reg_toStage_ne (s : State) (k : Nat) {F : Fld} {d : Nat} (h : F.key d ≠ GBL_BOOT_STATUS.STAGE.key 0) :
    (s.toStage k).reg F d = s.reg F d := reg_setReg_ne s k h

/-- A module that is not in a warm reset uses the slot that SLOT shows. -/
theorem slotInUse_cold {s : State} (h : s.boot.warm = false) : s.slotInUse = (s.reg GBL_BOOT_STATUS.SLOT, s) := by
  simp [slotInUse, h]

/-- The first overrun of a cold start is recorded in FAIL_CODE, as far as that has room for the stage (R130). -/
theorem reg_stageOverrun_failCode {s : State} (hw : s.boot.warm = false) (ho : s.boot.overrun = false) :
    s.stageOverrun.reg GBL_BOOT_STATUS.FAIL_CODE = s.reg GBL_BOOT_STATUS.STAGE % 2 ^ 8 := by
  simp only [stageOverrun, slotInUse_cold hw, setReg_boot, ho, Bool.false_eq_true, if_false]
  rw [reg_toStage_ne _ _ (by decide)]
  exact reg_setReg_self ..

end State

theorem exec_stageOverrun {s : State} (h : s.starting = true) : exec .stageOverrun s = answer s s.stageOverrun := by
  show stepIf _ _ _ = _
  rw [stepIf, if_pos h]

/-- Start-up at a stage whose number its four bits cannot hold. -/
def wideStage : State := { State.reset with regs := [(GBL_BOOT_STATUS.STAGE.key 0, 256)] }

end Sys2Proof.Machine

namespace Sys2Proof.Proofs
open Sys2Proof.Machine

/-- Settles O53: nothing is listed at reset, so that every field, byte and domain is at its default. -/
theorem resetState : Obligations.ResetState := by
  unfold Obligations.ResetState
  exact ⟨rfl, rfl, rfl, rfl, rfl, rfl, rfl, rfl, rfl, reset_sound, reg_reset, regRead_reset, byteAt_reset⟩

/-- Refutes O4: the statement is of every state, also of one whose STAGE holds 256, which the eight bits of FAIL_CODE
record as 0 when the stage overruns. (No run reaches such a state: STAGE is written cut to its four bits.) -/
theorem not_startUp : ¬ Obligations.StartUp := by
  unfold Obligations.StartUp
  intro h
  obtain ⟨_, t, hexec, hfail, -⟩ := h.2 wideStage rfl rfl (by decide)
  rw [exec_stageOverrun rfl, answer, Host.Outcome.next.injEq] at hexec
  have hcut : t.reg GBL_BOOT_STATUS.FAIL_CODE = 0 := by
    rw [← hexec]
    exact State.reg_stageOverrun_failCode rfl rfl
  exact absurd (hcut.symm.trans hfail) (by decide)

end Sys2Proof.Proofs

/-!
What the loss of a module, a span-leave reset and frames sent leave as it is: this module's number, its state and its epoch, the
members' states, staged values, and how an operation has ended. They serve O42.
-/

namespace Sys2Proof.Machine

theorem SMap.mem_of_get? {α : Type} {m : SMap α} {k : Nat} {v : α} (h : SMap.get? m k = some v) : (k, v) ∈ m := by
  induction m with
  | nil => cases h
  | cons e m ih =>
    rw [SMap.get?] at h
    split at h
    · next hk => cases h; exact hk ▸ List.mem_cons_self
    · exact List.mem_cons_of_mem _ (ih h)

/-- Where indexes rise, each entry is the one that a lookup finds. -/
theorem SMap.get?_of_mem {α : Type} {m : SMap α} (hs : (m.map (·.1)).Pairwise (· < ·)) {e : Nat × α} (h : e ∈ m) :
    SMap.get? m e.1 = some e.2 := by
  induction m with
  | nil => cases h
  | cons f m ih =>
    obtain ⟨hlt, hs⟩ := List.pairwise_cons.1 hs
    rcases List.mem_cons.1 h with rfl | h
    · exact if_pos rfl
    · exact (if_neg (Nat.ne_of_lt (hlt _ (List.mem_map_of_mem h)))).trans (ih hs h)

/-- A lookup after a change of values that leaves every index as it is. -/
theorem SMap.get?_map {α : Type} (m : SMap α) {f : Nat × α → Nat × α} (hf : ∀ e, (f e).1 = e.1) (k : Nat) :
    SMap.get? (m.map f : SMap α) k = (SMap.get? m k).map fun v => (f (k, v)).2 := by
  induction m with
  | nil => rfl
  | cons e m ih =>
    rw [List.map_cons, SMap.get?, SMap.get?, hf]
    by_cases h : e.1 = k
    · subst h; simp
    · simp [h, ih]

/-! ## Operations that have ended -/

/-- The operation's outcome is decided. -/
def OpPhase.isDone : OpPhase → Bool
  | .done .. => true
  | _ => false

/-- Tags rise along the list of operations, so that each names one. -/
def State.Tagged (s : State) : Prop := (s.ops.map (·.1)).Pairwise (· < ·)

/-- From `s` to `t` the operation under `tag` stays in the list, and how it has ended stays as it is. -/
def OpKept (tag : Nat) (s t : State) : Prop :=
  s.Tagged → t.Tagged ∧ ∀ o, s.op? tag = some o →
    ∃ p, t.op? tag = some p ∧ (o.phase.isDone = true → p.phase = o.phase)

/-- Where tags rise, the operation under `tag` has not ended. -/
def State.Unended (s : State) (tag : Nat) : Prop := s.Tagged → ∀ o, s.op? tag = some o → o.phase.isDone = false

theorem State.unended_of_mem {s : State} {e : Nat × Op} (he : e ∈ s.ops) (hp : e.2.phase.isDone = false) :
    s.Unended e.1 := by
  intro hs o ho
  cases (SMap.get?_of_mem hs he).symm.trans ho
  exact hp

/-- An operation that has ended is at no step any more. -/
theorem Op.ofStep_of_done {o : Op} (h : o.phase.isDone = true) (k step : Nat) : o.ofStep k step = false := by
  unfold Op.ofStep
  split
  · rfl
  · cases hp : o.phase <;> simp_all [OpPhase.isDone]

/-- An operation held in the list has not ended. -/
theorem State.held_unended {s : State} {e : Nat × Op} (he : e ∈ s.ops) {w : Nat} {args : List Nat}
    (hp : e.2.phase = .held w args) {tag : Nat} (ht : e.1 = tag) : s.Unended tag :=
  ht ▸ State.unended_of_mem he (by rw [hp]; rfl)

/-- The operation of a migration has not ended. -/
theorem State.phasedOp_unended {s : State} {opcode t x : Nat} (h : s.phasedOp opcode t = some x) : s.Unended x := by
  obtain ⟨e, he, rfl⟩ := Option.map_eq_some_iff.1 h
  have hp := List.find?_some he
  simp only [Bool.and_eq_true, beq_iff_eq] at hp
  exact State.unended_of_mem (List.mem_of_find?_eq_some he) (by rw [hp.1.1]; rfl)

namespace OpKept

variable {tag : Nat} {s t u : State}

theorem refl : OpKept tag s s := fun hs => ⟨hs, fun o ho => ⟨o, ho, fun _ => rfl⟩⟩

theorem trans (h : OpKept tag s t) (g : OpKept tag t u) : OpKept tag s u := by
  intro hs
  obtain ⟨ht, hkept⟩ := h hs
  obtain ⟨hu, gkept⟩ := g ht
  refine ⟨hu, fun o ho => ?_⟩
  obtain ⟨p, hp, hphase⟩ := hkept o ho
  obtain ⟨q, hq, gphase⟩ := gkept p hp
  refine ⟨q, hq, fun hd => ?_⟩
  have hpo := hphase hd
  rw [gphase (hpo ▸ hd), hpo]

theorem ofSame (h : t.ops = s.ops) : OpKept tag s t := by
  intro hs
  refine ⟨show (t.ops.map _).Pairwise _ from h ▸ hs, fun o ho => ⟨o, ?_, fun _ => rfl⟩⟩
  rwa [State.op?, h]

/-- A change of phases that passes over operations that have ended. -/
theorem mapOps {f : Nat × Op → Nat × Op} (h : t.ops = s.ops.map f) (hf : ∀ e, (f e).1 = e.1)
    (hd : ∀ e, e.2.phase.isDone = true → (f e).2.phase = e.2.phase) : OpKept tag s t := by
  intro hs
  constructor
  · rw [State.Tagged, h, List.map_map, show (fun e : Nat × Op => e.1) ∘ f = (fun e => e.1) from funext hf]
    exact hs
  · intro o ho
    refine ⟨(f (tag, o)).2, ?_, hd (tag, o)⟩
    rw [State.op?, h, SMap.get?_map _ hf, show SMap.get? s.ops tag = some o from ho]
    rfl

/-- A new record of an operation that had not ended in `s`. -/
theorem setOp (h : OpKept tag s t) {x : Nat} (hx : x = tag → s.Unended tag) (o : Op) : OpKept tag s (t.setOp x o) := by
  intro hs
  obtain ⟨ht, hkept⟩ := h hs
  refine ⟨List.pairwise_map.2 (SMap.ins_pairwise _ _ _ (List.pairwise_map.1 ht)), fun q hq => ?_⟩
  by_cases hxt : x = tag
  · subst hxt
    refine ⟨o, State.op?_setOp_self .., fun hd => ?_⟩
    rw [hx rfl hs q hq] at hd
    cases hd
  · rw [State.op?_setOp_ne t o (Ne.symm hxt)]
    exact hkept q hq

/-- An outcome decided stays. -/
theorem ended (h : OpKept tag s t) (hs : s.Tagged) {st : Nat} {r d : Option Nat} (he : Ended s tag st r d) :
    Ended t tag st r d := by
  obtain ⟨o, ho, hp⟩ := he
  obtain ⟨p, hp', hphase⟩ := (h hs).2 o ho
  exact ⟨p, hp', (hphase (by rw [hp]; rfl)).trans hp⟩

end OpKept

/-! ## The fields of membership -/

/-- The key of a field of SPAN_STATUS, SPAN_EPOCH or SPAN_MEMBER_STATUS. -/
def memberKey (k : Nat) : Prop := 8 * 0x6804 ≤ k ∧ k < 8 * 0x680C ∨ 8 * 0x6860 ≤ k ∧ k < 8 * 0x6870

theorem not_memberKey_below {F : Fld} {d : Nat} (hlo : F.lo < 32) (h : F.off + d < 0x6800) : ¬ memberKey (F.key d) := by
  simp only [memberKey, Fld.key]; omega

/-- The views behind selectors lie apart, whatever the selector says. -/
theorem not_memberKey_sel {F : Fld} (h : F.off < 0x6800 ∧ F.lo < 32) (k : Nat) : ¬ memberKey (F.key (selD k)) := by
  simp only [memberKey, Fld.key, selD]; omega

theorem not_memberKey_table {F : Fld} (h : F.off < 0x6800 ∧ F.lo < 32) (t : Nat) : ¬ memberKey (F.key (tdD t)) :=
  not_memberKey_sel h t

theorem not_memberKey_portFrames (p : Nat) : ¬ memberKey (SPAN_P_FRAMES.COUNT.key (spD p)) := by
  simp only [memberKey, Fld.key, SPAN_P_FRAMES.COUNT, fld, spD]; omega

/-- A channel's counters lie below Span's registers. -/
theorem not_memberKey_channel {F : Fld} (h : F.off < 0x6700 ∧ F.lo < 32) (line : Nat) :
    ¬ memberKey (F.key (0x20 * channelOf line)) := by
  have : channelOf line < 8 := Nat.mod_lt _ (by decide)
  exact not_memberKey_below h.2 (by omega)

theorem not_eventKey_of_memberKey {k : Nat} (h : memberKey k) : ¬ eventKey k :=
  not_eventKey_of_lt (by simp only [memberKey] at h; omega)

/-- From `s` to `t` the fields of membership and all staged values are as they were, and the operation under `tag` is
kept. -/
structure SpanKept (tag : Nat) (s t : State) : Prop where
  regs : ∀ k, memberKey k → SMap.get? t.regs k = SMap.get? s.regs k
  staged : t.staged = s.staged
  ops : OpKept tag s t

namespace SpanKept

variable {tag : Nat} {s t u : State}

theorem refl : SpanKept tag s s := ⟨fun _ _ => rfl, rfl, .refl⟩

theorem trans (h : SpanKept tag s t) (g : SpanKept tag t u) : SpanKept tag s u :=
  ⟨fun k hk => (g.regs k hk).trans (h.regs k hk), g.staged.trans h.staged, h.ops.trans g.ops⟩

/-- What came before a last part: `trans`, with the state between read off the last part. -/
theorem after (g : SpanKept tag t u) (h : SpanKept tag s t) : SpanKept tag s u := h.trans g

theorem reg (h : SpanKept tag s t) {F : Fld} {d : Nat} (hk : memberKey (F.key d)) : t.reg F d = s.reg F d :=
  State.reg_congr F d (h.regs _ hk)

theorem ofSame (hr : t.regs = s.regs) (hs : t.staged = s.staged) (ho : t.ops = s.ops) : SpanKept tag s t :=
  ⟨fun _ _ => by rw [hr], hs, .ofSame ho⟩

theorem ofTells {ks : List Nat} (h : Tells ks s t) (hk : ∀ k ∈ ks, ¬ memberKey k) : SpanKept tag s t := by
  obtain ⟨hsame, -, hregs⟩ := h
  refine ⟨fun k hm => hregs k (fun hks => hk k hks hm) (not_eventKey_of_memberKey hm), ?_, .ofSame ?_⟩ <;> rw [hsame]

theorem setReg {F : Fld} {d : Nat} (hk : ¬ memberKey (F.key d)) (v : Nat) : SpanKept tag s (s.setReg F d v) :=
  ofTells (.setReg s F d v) (by simpa using hk)

theorem count {F : Fld} {d : Nat} (hk : ¬ memberKey (F.key d)) (n : Nat) : SpanKept tag s (s.count F d n) :=
  ofTells (.count s F d n) (by simpa using hk)

theorem event (n : Nat) (e : Event) : SpanKept tag s (s.event n e) := ofTells (.event s n e) (by simp)

theorem pfEvent (code : Nat) (detail : Option Nat) (arg : Nat) : SpanKept tag s (s.pfEvent code detail arg) :=
  event ..

/-- A run of steps, each of which keeps what the run began with. -/
theorem foldlFrom {α : Type} {f : State → α → State} {l : List α}
    (hf : ∀ u, SpanKept tag s u → ∀ x ∈ l, SpanKept tag s (f u x)) (h : SpanKept tag s t) : SpanKept tag s (l.foldl f t) := by
  induction l generalizing t with
  | nil => exact h
  | cons x l ih =>
    exact ih (fun u hu y hy => hf u hu y (List.mem_cons_of_mem _ hy)) (hf t h x List.mem_cons_self)

theorem foldl {α : Type} {f : State → α → State} {l : List α} (hf : ∀ u, ∀ x ∈ l, SpanKept tag u (f u x)) :
    SpanKept tag s (l.foldl f s) :=
  foldlFrom (fun u hu x hx => hu.trans (hf u x hx)) refl

/-- A part that is done only where a condition says. -/
theorem ite {c : Prop} [Decidable c] (ht : SpanKept tag s t) (hu : SpanKept tag s u) :
    SpanKept tag s (if c then t else u) := by
  split
  · exact ht
  · exact hu

/-! ### Operations -/

theorem setOp (h : SpanKept tag s t) {x : Nat} (hx : x = tag → s.Unended tag) (o : Op) :
    SpanKept tag s (t.setOp x o) :=
  ⟨h.regs, h.staged, h.ops.setOp hx o⟩

theorem finish (h : SpanKept tag s t) {x : Nat} (hx : x = tag → s.Unended tag) (st : Nat) (r d : Option Nat) :
    SpanKept tag s (t.finish x st r d) := by
  unfold State.finish
  split
  · exact h
  · exact h.setOp hx _

/-! ### Frames -/

theorem setLink (p : Nat) (l : SpanLink) : SpanKept tag s (s.setLink p l) := ofSame rfl rfl rfl

theorem putFrame (s : State) (p seq : Nat) (f : SpanFrame) : SpanKept tag s (s.putFrame p seq f) := by
  have sent (l : SpanLink) (o : Out) : SpanKept tag s ((s.setLink p l).emit o) := ofSame rfl rfl rfl
  exact ite (sent _ _) ((sent _ _).trans (count (not_memberKey_portFrames p) 1))

theorem pump (s : State) (p n : Nat) : SpanKept tag s (s.pump p n) := by
  induction n generalizing s with
  | zero => exact refl
  | succ n ih =>
    unfold State.pump; dsimp only
    split
    · exact refl
    · split
      · exact refl
      · split
        · exact refl
        · exact ((setLink p _).trans (putFrame _ p _ _)).trans (ih _)

theorem sendFrame (s : State) (p : Nat) (f : SpanFrame) : SpanKept tag s (s.sendFrame p f) := by
  unfold State.sendFrame
  exact (setLink p _).trans (pump _ p _)

theorem sendOn (s : State) (b : Bool) (f : SpanFrame) : SpanKept tag s (s.sendOn b f) := by
  unfold State.sendOn
  split
  · exact sendFrame ..
  · exact refl

theorem sendTo (s : State) (m prio x : Nat) (b : FrameBody) : SpanKept tag s (s.sendTo m prio x b) := sendOn ..

theorem spreadFrom (s old : State) (k : Nat) : SpanKept tag s (s.spreadFrom old k) :=
  ite refl (foldl fun u _ _ => sendTo u ..)

/-! ### Steps of tables -/

theorem settleBusy (s : State) (k : Nat) : SpanKept tag s (s.settleBusy k) :=
  setReg (not_memberKey_table (by decide) k) _

theorem closeStep (s : State) (k : Nat) : SpanKept tag s (s.closeStep k) := by
  have table {u : State} (F : Fld) (h : F.off < 0x6800 ∧ F.lo < 32) : SpanKept tag u (u.setReg F (tdD k) 0) :=
    setReg (not_memberKey_table h k) 0
  have regs : SpanKept tag s (s.stepRegs k) :=
    (((table TD_CTRL.STEP_OPEN (by decide)).trans (table TD_STAGED.ROWS (by decide))).trans
      (table TD_CONTRIB.COUNT (by decide))).trans (table TD_CONTRIB.OVERFLOW (by decide))
  exact regs.trans (ofSame rfl rfl rfl)

theorem discardStep (s : State) (k st : Nat) : SpanKept tag s (s.discardStep k st) := by
  unfold State.discardStep; dsimp only
  refine ite refl (((closeStep s k).trans (settleBusy _ k)).trans (SpanKept.trans ?_ (spreadFrom _ s k)))
  refine ⟨fun _ _ => rfl, rfl, .mapOps rfl (fun e => ?_) fun e hd => ?_⟩
  · split <;> rfl
  · rw [Op.ofStep_of_done hd]; rfl

/-! ### Memory -/

theorem logPoison (s : State) (l a b c : Nat) : SpanKept tag s (s.logPoison l a b c) :=
  (count (not_memberKey_below (by decide) (by decide)) 1).trans (ofSame rfl rfl rfl)

theorem countCe (s : State) (line : Nat) : SpanKept tag s (s.countCe (channelOf line)) := by
  have counted : SpanKept tag s (s.count ZRC_C_CE_CNT.COUNT (0x20 * channelOf line)) :=
    count (not_memberKey_channel (by decide) line) 1
  have checked (u : State) (c : Nat) : SpanKept tag u (u.checkThresh c) := by
    unfold State.checkThresh; dsimp only
    exact ite (after (pfEvent ..) (ofSame rfl rfl rfl)) refl
  unfold State.countCe; dsimp only
  exact ite counted (counted.trans (checked _ _))

theorem queueWb (s : State) (line : Nat) : SpanKept tag s (s.queueWb line) := ite refl (ofSame rfl rfl rfl)

theorem corrected (s : State) (k : ReadKind) (line : Nat) : SpanKept tag s (s.corrected k line) := by
  have counted := countCe (tag := tag) s line
  have shelf : ¬ memberKey (ZRC_SRAM_CE_CNT.COUNT.key 0) := not_memberKey_below (by decide) (by decide)
  unfold State.corrected
  refine ite (after (count shelf 1) (ofSame rfl rfl rfl)) (ite (ofSame rfl rfl rfl) ?_)
  dsimp only
  split
  · exact ite (counted.trans (ofSame rfl rfl rfl)) counted
  · exact ite (counted.trans (queueWb _ _)) counted

theorem spoilStaging (s : State) (cls k : Nat) : SpanKept tag s (s.spoilStaging cls k) :=
  ite (discardStep ..) (ite ((setReg (not_memberKey_table (by decide) k) 0).trans (spreadFrom ..)) refl)

theorem markPoison (s : State) (line : Nat) : SpanKept tag s (s.markPoison line) := ofSame rfl rfl rfl

theorem uncorrected (s : State) (k : ReadKind) (line : Nat) : SpanKept tag s (s.uncorrected k line) := by
  have marked := markPoison (tag := tag) s line
  unfold State.uncorrected; dsimp only
  have shelf : ¬ memberKey (ZRC_SRAM_UE_CNT.COUNT.key 0) := not_memberKey_below (by decide) (by decide)
  refine ite ?_ ?_
  · exact after (pfEvent ..) (after (logPoison ..) (after (count shelf 1) marked))
  · have logged (a b c : Nat) : SpanKept tag s (if (s.markPoison line).lineAway line then s.markPoison line
        else ((s.markPoison line).count ZRC_C_UE_CNT.COUNT (0x20 * channelOf line)).logPoison line a b c) :=
      ite marked (after (logPoison ..) (after (count (not_memberKey_channel (by decide) line) 1) marked))
    have searched (u : State) (c : Nat) : SpanKept tag u (u.wantSearch k line c) := ite refl (ofSame rfl rfl rfl)
    exact after (spoilStaging ..) (after (searched ..) (after (event ..) (logged ..)))

theorem touch (s : State) (k : ReadKind) (line : Nat) : SpanKept tag s (s.touch k line) :=
  ite refl (ite (uncorrected ..) (ite (corrected ..) refl))

theorem writeLine (s : State) (w : WriteKind) (a : Nat) (data : Bytes) : SpanKept tag s (s.writeLine w a data).1 := by
  have touched := touch (tag := tag) s .demand (a / 64)
  unfold State.writeLine; dsimp only
  split
  · exact ite refl touched
  · split
    · exact ofSame rfl rfl rfl
    · split
      · cases w with
        | plain => exact touched
        | rewrite => exact touched.trans (ofSame rfl rfl rfl)
      · exact touched.trans (ofSame rfl rfl rfl)

theorem writeAs (s : State) (w : WriteKind) (a : Nat) (data : Bytes) : SpanKept tag s (s.writeAs w a data).1 := by
  have key (ls : List Nat) (r : State × Bool) : SpanKept tag r.1 (ls.foldl (fun r l =>
      ((r.1.writeLine w (linePart a data l).1 (linePart a data l).2).1,
        r.2 || (r.1.writeLine w (linePart a data l).1 (linePart a data l).2).2)) r).1 := by
    induction ls generalizing r with
    | nil => exact refl
    | cons l ls ih => exact after (ih _) (writeLine r.1 w _ _)
  exact key _ (s, false)

theorem writeOver (s : State) (a : Nat) (data : Bytes) : SpanKept tag s (s.writeOver a data) :=
  writeAs s .rewrite a data

theorem setEntry (s : State) (t v dm row e : Nat) : SpanKept tag s (s.setEntry t v dm row e) := writeOver ..

theorem emptyHotAll (s : State) (t v : Nat) : SpanKept tag s (s.emptyHotAll t v) :=
  foldl fun _ _ _ => foldl fun _ _ _ => ofSame rfl rfl rfl

/-! ### Migrations -/

theorem migrateOver (s : State) (t : Nat) (g : Migration) : SpanKept tag s (s.migrateOver t g) := by
  have marked : SpanKept tag s ((s.shardRowList t g.shard).foldl (fun u r => u.markMig t g.ver r false) s) :=
    foldl fun u _ _ => ite refl (setEntry u ..)
  exact after (settleBusy ..) (marked.trans (ofSame rfl rfl rfl))

theorem migrateForward (s : State) (t : Nat) (g : Migration) : SpanKept tag s (s.migrateForward t g) :=
  after (migrateOver ..) (foldl fun u _ _ => ite refl (setEntry u ..))

theorem endMigrateOp (s : State) (t st : Nat) (r : Option Nat) : SpanKept tag s (s.endMigrateOp t st r) := by
  unfold State.endMigrateOp
  split
  · next x hx => exact refl.finish (fun hxt => hxt ▸ State.phasedOp_unended hx) ..
  · exact refl

theorem loseMigrations (s : State) (m : Nat) : SpanKept tag s (s.loseMigrations m) :=
  foldl fun u e _ => ite refl (ite
    (after (spreadFrom ..) (after (endMigrateOp ..) (after (event ..) (migrateForward u e.1 e.2))))
    (after (spreadFrom ..) (after (endMigrateOp ..) (migrateOver u e.1 e.2))))

/-! ### Routing queues -/

theorem poolMark (s : State) (m : Nat) : SpanKept tag s (s.poolMark m) := by
  unfold State.poolMark; dsimp only
  exact ite (ofSame rfl rfl rfl) (ite refl (after (pfEvent ..) (ofSame rfl rfl rfl)))

theorem flushHq (s : State) (m q : Nat) : SpanKept tag s (s.flushHq m q) := by
  have counted : SpanKept tag s (if (s.hq m q).open_.isSome then s.count AGT_HQ_DISCARD.COUNT (selD m) else s) :=
    ite (count (not_memberKey_sel (by decide) m) 1) refl
  unfold State.flushHq; dsimp only
  exact after (poolMark ..) (counted.trans (ofSame rfl rfl rfl))

theorem flushModule (s : State) (m : Nat) : SpanKept tag s (s.flushModule m) := foldl fun u _ _ => flushHq u ..

/-! ### Jasper -/

theorem jspReset (s : State) (m : Nat) : SpanKept tag s (s.jspReset m) := by
  refine foldl fun u c hc => ?_
  have hc : c < 32 := List.mem_range.1 hc
  have field (v : State) (F : Fld) (x : Nat) (h : F.off < 0x4000 ∧ F.lo < 32) : SpanKept tag v (v.setReg F (chanD c) x) :=
    setReg (not_memberKey_below h.2 (by simp only [chanD]; omega)) x
  have zeroed : SpanKept tag u (u.jspZero c) := foldl fun _ w hw => setReg (not_memberKey_below (by decide) (by
    have : JSP_D.DATA.off = 0x3000 := rfl
    have := List.mem_range.1 hw
    simp only [chanD]; omega)) 0
  have aborted : SpanKept tag u (((u.jspZero c).setReg JSP_CTRL.FULL (chanD c) 0).setReg JSP_CTRL.ABORTED (chanD c) 1) :=
    (zeroed.trans (field _ _ 0 (by decide))).trans (field _ _ 1 (by decide))
  unfold State.jspResetChan; dsimp only
  exact ite refl (ite (ite (ite (after (event ..) aborted) aborted) refl)
    (ite (zeroed.trans (field _ _ 0 (by decide))) refl))

/-! ### Operations over the span -/

theorem spoilReduce (s : State) (e : Sqe) (m : Nat) : SpanKept tag s (s.spoilReduce e m) :=
  ite refl (foldl fun u _ _ => after (writeAs ..) (ofSame (s := u) rfl rfl rfl))

theorem finishVia (h : SpanKept tag s t) {x : Nat} (hx : x = tag → s.Unended tag) (st : Nat) (r d : Option Nat)
    (ms : List Nat) : SpanKept tag s (t.finishVia x st r d ms) := by
  unfold State.finishVia; dsimp only
  refine ite (h.finish hx ..) (ite (h.finish hx ..) ?_)
  split
  · exact h
  · exact (h.trans (foldl fun u _ _ => sendTo u ..)).setOp hx _

theorem switchEnd (h : SpanKept tag s t) {x : Nat} (hx : x = tag → s.Unended tag) (k old : Nat) :
    SpanKept tag s (t.switchEnd x k old) :=
  after (spreadFrom ..) (after (settleBusy ..) ((h.trans (emptyHotAll ..)).finishVia hx ..))

theorem settleSwitches (s : State) : SpanKept tag s s.settleSwitches := by
  refine foldlFrom (fun u hu e he => ?_) refl
  split
  · next hp => exact ite (hu.switchEnd (State.held_unended he hp) ..) hu
  · exact hu

theorem settleSyncs (s : State) : SpanKept tag s s.settleSyncs := by
  refine foldlFrom (fun u hu e he => ?_) refl
  split
  · next hp => exact ite (hu.finish (State.held_unended he hp) ..) hu
  · exact hu

theorem settleRemote (s : State) : SpanKept tag s s.settleRemote := (settleSwitches s).trans (settleSyncs _)

theorem loseSteps (s : State) (m : Nat) : SpanKept tag s (s.loseSteps m) :=
  foldl fun u k _ => ite (ite (ofSame rfl rfl rfl) (discardStep u k _)) refl

end SpanKept

/-! ## The loss of a module's parts (R344) -/

/-- Before its end an operation's part can spoil what a reduction has written. -/
def State.spoilPart (s : State) (m : Nat) (o : Op) : State :=
  match o.sqe? with
  | some q => s.spoilReduce q m
  | none => s

/-- What the loss of module `m` means for the operation `e`: a step of `loseParts`. -/
def State.losePart (s : State) (m : Nat) (e : Nat × Op) : State :=
  match e.2.phase with
  | .held w args =>
    if w == heldRemote && (args.drop 3).contains m then
      (s.spoilPart m e.2).finish e.1 ERR_SPAN_LOST
    else if w == heldSync && bit (args.headD 0) m then s.finish e.1 ERR_SPAN_LOST (some (args.getD 1 0))
    else s
  | _ => s

theorem State.loseParts_eq (s : State) (m : Nat) : s.loseParts m = s.ops.foldl (fun t e => t.losePart m e) s := rfl

namespace SpanKept

variable {tag : Nat} {s t : State}

theorem spoilPart (s : State) (m : Nat) (o : Op) : SpanKept tag s (s.spoilPart m o) := by
  unfold State.spoilPart
  split
  · exact spoilReduce ..
  · exact refl

theorem losePart (h : SpanKept tag s t) {m : Nat} {e : Nat × Op}
    (he : ∀ w args, e.2.phase = .held w args → e.1 = tag → s.Unended tag) : SpanKept tag s (t.losePart m e) := by
  unfold State.losePart
  split
  · next hp => exact ite ((h.trans (spoilPart ..)).finish (he _ _ hp) ..) (ite (h.finish (he _ _ hp) ..) h)
  · exact h

theorem loseParts (s : State) (m : Nat) : SpanKept tag s (s.loseParts m) :=
  foldlFrom (fun _ hu _ he => hu.losePart fun _ _ hp => State.held_unended he hp) refl

theorem dropWork (s : State) (m : Nat) : SpanKept tag s (s.dropWork m) :=
  after (settleRemote _) (after (flushModule ..) (after (loseMigrations ..) (after (loseSteps ..) (loseParts s m))))

theorem dropMember (s : State) (m : Nat) : SpanKept tag s (s.dropMember m) := after (dropWork ..) (jspReset ..)

end SpanKept

/-- An operation with a part on the lost module ends. -/
theorem State.losePart_ends {s : State} {tag m : Nat} {o q : Op} {args : List Nat} (hs : s.op? tag = some q)
    (hsorted : s.Tagged) (ho : o.phase = .held heldRemote args) (hm : m ∈ args.drop 3) :
    Ended (s.losePart m (tag, o)) tag ERR_SPAN_LOST none none := by
  obtain ⟨p, hp, -⟩ := ((SpanKept.spoilPart (tag := tag) s m o).ops hsorted).2 q hs
  have hc : (heldRemote == heldRemote && (args.drop 3).contains m) = true := by simpa using hm
  have hstep : s.losePart m (tag, o) = (s.spoilPart m o).finish tag ERR_SPAN_LOST := by
    simp only [losePart, ho, hc, if_true]
  rw [hstep, finish]
  simp only [hp]
  exact ⟨_, op?_setOp_self .., rfl⟩

theorem State.loseParts_ends {s : State} {tag m : Nat} {o : Op} {args : List Nat} (hs : s.Tagged)
    (ho : s.op? tag = some o) (hp : o.phase = .held heldRemote args) (hm : m ∈ args.drop 3) :
    Ended (s.loseParts m) tag ERR_SPAN_LOST none none := by
  obtain ⟨l₁, l₂, hl⟩ := List.append_of_mem (SMap.mem_of_get? ho)
  have hrest : ∀ e ∈ l₂, e.1 ≠ tag := by
    rw [Tagged, hl, List.map_append, List.map_cons] at hs
    exact fun e he => Nat.ne_of_gt ((List.pairwise_cons.1 (List.pairwise_append.1 hs).2.1).1 _ (List.mem_map_of_mem he))
  have before : SpanKept tag s (l₁.foldl (fun t e => t.losePart m e) s) :=
    .foldlFrom (fun _ hu e he => hu.losePart fun _ _ hp =>
      State.held_unended (hl ▸ List.mem_append_left _ he) hp) .refl
  have own := before.losePart (m := m) (e := (tag, o)) fun _ _ hp =>
    State.held_unended (hl ▸ List.mem_append_right _ List.mem_cons_self) hp
  rw [loseParts_eq, hl, List.foldl_append, List.foldl_cons]
  generalize l₁.foldl (fun t e => t.losePart m e) s = u at before own
  obtain ⟨hu, hkept⟩ := before.ops hs
  obtain ⟨q, hq, -⟩ := hkept o ho
  have after : SpanKept tag (u.losePart m (tag, o)) (l₂.foldl (fun t e => t.losePart m e) (u.losePart m (tag, o))) :=
    .foldl fun _ e he => SpanKept.refl.losePart fun _ _ _ ht => absurd ht (hrest e he)
  exact after.ops.ended (own.ops hs).1 (losePart_ends hq hu hp hm)

namespace State

theorem jspResetChan_ops (s : State) (m c : Nat) : (s.jspResetChan m c).ops = s.ops := by
  have zeroed (ws : List Nat) (u : State) : (ws.foldl (fun t w => t.setReg JSP_D.DATA (chanD c + 4 * w) 0) u).ops = u.ops := by
    induction ws generalizing u with
    | nil => rfl
    | cons w ws ih => exact ih _
  have hz : (s.jspZero c).ops = s.ops := zeroed _ s
  unfold jspResetChan; dsimp only
  split
  · rfl
  · split
    · split
      · split
        · simp only [event_ops, setReg_ops, hz]
        · simp only [setReg_ops, hz]
      · rfl
    · split
      · simp only [setReg_ops, hz]
      · rfl

theorem jspReset_ops (s : State) (m : Nat) : (s.jspReset m).ops = s.ops := by
  have key (cs : List Nat) (u : State) : (cs.foldl (fun t c => t.jspResetChan m c) u).ops = u.ops := by
    induction cs generalizing u with
    | nil => rfl
    | cons c cs ih => exact (ih _).trans (jspResetChan_ops u m c)
  exact key _ s

/-- An operation with a part on a module that is gone has ended. -/
theorem dropMember_ends {s : State} {tag m : Nat} {o : Op} {args : List Nat} (hs : s.Tagged)
    (ho : s.op? tag = some o) (hp : o.phase = .held heldRemote args) (hm : m ∈ args.drop 3) :
    Ended (s.dropMember m) tag ERR_SPAN_LOST none none := by
  have hops := s.jspReset_ops (0x20 + m)
  have hs' : (s.jspReset (0x20 + m)).Tagged := by rw [Tagged, hops]; exact hs
  have ho' : (s.jspReset (0x20 + m)).op? tag = some o := by rw [op?, hops]; exact ho
  have rest : SpanKept tag ((s.jspReset (0x20 + m)).loseParts m) (s.dropMember m) :=
    SpanKept.after (.settleRemote _) (.after (.flushModule ..) (.after (.loseMigrations ..) (.loseSteps ..)))
  exact rest.ops.ended ((SpanKept.loseParts (tag := tag) _ m).ops hs').1 (loseParts_ends hs' ho' hp hm)

/-! ## A member declared LOST (R349) -/

/-- The head's records once module `m` is LOST: what `markLost` does before the event and the work that ends. -/
def lostAt (s : State) (m reason : Nat) : State :=
  (((s.setReg SPAN_MEMBER_STATUS.STATE (4 * m) memLost).setReg SPAN_MEMBER_STATUS.REASON (4 * m) reason).setReg
    SPAN_MEMBER_STATUS.TIME_SUSPECT (4 * m) 0).nextEpoch

theorem markLost_eq (s : State) (m reason : Nat) : s.markLost m reason =
    ((s.lostAt m reason).pfEvent 0x0603 (some (m + 2 ^ 8 * reason))).dropMember m := rfl

/-- The fields that change when module `m` is declared LOST. -/
def lostKeys (m : Nat) : List Nat :=
  [SPAN_MEMBER_STATUS.STATE.key (4 * m), SPAN_MEMBER_STATUS.REASON.key (4 * m), SPAN_MEMBER_STATUS.TIME_SUSPECT.key (4 * m),
    SPAN_EPOCH.EPOCH.key 0]

theorem touches_lostAt (s : State) (m reason : Nat) : Touches (lostKeys m) s (s.lostAt m reason) := by
  have set (u : State) {F : Fld} {d : Nat} (v : Nat) (h : F.key d ∈ lostKeys m) : Touches (lostKeys m) u (u.setReg F d v) :=
    (Touches.setReg u F d v).mono fun k hk => List.mem_singleton.1 hk ▸ h
  exact (((set s _ (by simp [lostKeys])).trans (set _ _ (by simp [lostKeys]))).trans (set _ _ (by simp [lostKeys]))).trans
    (set _ _ (by simp [lostKeys]))

theorem reg_lostAt_ne (s : State) {m reason : Nat} {F : Fld} {d : Nat} (h : F.key d ∉ lostKeys m) :
    (s.lostAt m reason).reg F d = s.reg F d :=
  reg_congr F d ((s.touches_lostAt m reason).2 _ h)

theorem spanKept_lostAt {tag : Nat} (s : State) (m reason : Nat) :
    SpanKept tag (s.lostAt m reason) (s.markLost m reason) :=
  .after (.dropMember ..) (.pfEvent ..)

theorem opKept_markLost {tag : Nat} (s : State) (m reason : Nat) : OpKept tag s (s.markLost m reason) :=
  (OpKept.ofSame (t := s.lostAt m reason) rfl).trans (s.spanKept_lostAt m reason).ops

end State

theorem memberKey_status {m : Nat} (hm : m < 4) : memberKey (SPAN_MEMBER_STATUS.STATE.key (4 * m)) ∧
    memberKey (SPAN_MEMBER_STATUS.REASON.key (4 * m)) := by
  simp only [memberKey, Fld.key, SPAN_MEMBER_STATUS.STATE, SPAN_MEMBER_STATUS.REASON, fld]; omega

theorem memberKey_span : memberKey (SPAN_STATUS.STATE.key 0) ∧ memberKey (SPAN_STATUS.MODULE.key 0) ∧
    memberKey (SPAN_EPOCH.EPOCH.key 0) := by
  unfold memberKey; decide

/-- The head has declared module `m` LOST for `reason`, and its epoch is the one counted as `e`. -/
structure Lost (t : State) (m reason e : Nat) : Prop where
  state : t.memState m = memLost
  reason : t.reg SPAN_MEMBER_STATUS.REASON (4 * m) = reason
  head : t.isHead = true
  epoch : t.reg SPAN_EPOCH.EPOCH % 2 ^ 32 = e % 2 ^ 32

namespace Lost

variable {s t : State} {m reason e : Nat}

theorem keep {tag : Nat} (h : Lost s m reason e) (hm : m < 4) (g : SpanKept tag s t) : Lost t m reason e where
  state := (g.reg (memberKey_status hm).1).trans h.state
  reason := (g.reg (memberKey_status hm).2).trans h.reason
  head := by
    have := h.head
    rwa [State.isHead, State.spanState, ← g.reg memberKey_span.1] at this
  epoch := by rw [g.reg memberKey_span.2.2]; exact h.epoch

theorem of_lostAt (s : State) {m reason : Nat} (hm : m < 4) (hr : reason < 2 ^ 8) (hh : s.isHead = true) :
    Lost (s.lostAt m reason) m reason (s.reg SPAN_EPOCH.EPOCH + 1) := by
  have apart : ∀ m < 4, SPAN_MEMBER_STATUS.STATE.key (4 * m) ≠ SPAN_MEMBER_STATUS.REASON.key (4 * m) ∧
      SPAN_MEMBER_STATUS.STATE.key (4 * m) ≠ SPAN_MEMBER_STATUS.TIME_SUSPECT.key (4 * m) ∧
      SPAN_MEMBER_STATUS.REASON.key (4 * m) ≠ SPAN_MEMBER_STATUS.TIME_SUSPECT.key (4 * m) ∧
      SPAN_EPOCH.EPOCH.key 0 ∉ [SPAN_MEMBER_STATUS.STATE.key (4 * m), SPAN_MEMBER_STATUS.REASON.key (4 * m),
        SPAN_MEMBER_STATUS.TIME_SUSPECT.key (4 * m)] ∧ SPAN_STATUS.STATE.key 0 ∉ State.lostKeys m := by decide
  obtain ⟨hsr, hst, hrt, hep, hss⟩ := apart m hm
  simp only [List.mem_cons, List.not_mem_nil, or_false, not_or] at hep
  obtain ⟨hes, her, het⟩ := hep
  constructor
  · refine (State.reg_setReg_ne _ _ (Ne.symm hes)).trans ((State.reg_setReg_ne _ _ hst).trans
      ((State.reg_setReg_ne _ _ hsr).trans ((State.reg_setReg_self ..).trans rfl)))
  · exact (State.reg_setReg_ne _ _ (Ne.symm her)).trans ((State.reg_setReg_ne _ _ hrt).trans
      ((State.reg_setReg_self ..).trans (Nat.mod_eq_of_lt hr)))
  · rwa [State.isHead, State.spanState, s.reg_lostAt_ne hss]
  · have hprev : ((((s.setReg SPAN_MEMBER_STATUS.STATE (4 * m) memLost).setReg SPAN_MEMBER_STATUS.REASON (4 * m) reason).setReg
        SPAN_MEMBER_STATUS.TIME_SUSPECT (4 * m) 0).reg SPAN_EPOCH.EPOCH) = s.reg SPAN_EPOCH.EPOCH :=
      (State.reg_setReg_ne _ _ het).trans ((State.reg_setReg_ne _ _ her).trans (State.reg_setReg_ne _ _ hes))
    rw [State.lostAt, State.nextEpoch, State.reg_setReg_self, hprev]
    exact Nat.mod_mod _ _

theorem markLost (s : State) {m reason : Nat} (hm : m < 4) (hr : reason < 2 ^ 8) (hh : s.isHead = true) :
    Lost (s.markLost m reason) m reason (s.reg SPAN_EPOCH.EPOCH + 1) :=
  (of_lostAt s hm hr hh).keep (tag := 0) hm (s.spanKept_lostAt m reason)

/-- Another member lost with it leaves its record, and raises the epoch once more. -/
theorem markLost_other (h : Lost s m reason e) (hm : m < 4) {k r : Nat} (hk : k < 4) (hr : r < 2 ^ 8) (hne : k ≠ m) :
    Lost (s.markLost k r) m reason (e + 1) := by
  have apart : ∀ m < 4, ∀ k < 4, k ≠ m → SPAN_MEMBER_STATUS.STATE.key (4 * m) ∉ State.lostKeys k ∧
      SPAN_MEMBER_STATUS.REASON.key (4 * m) ∉ State.lostKeys k := by decide
  obtain ⟨hs, hreason⟩ := apart m hm k hk hne
  obtain ⟨-, -, hhead, hepoch⟩ := of_lostAt s hk hr h.head
  refine Lost.keep (tag := 0) ⟨?_, ?_, hhead, ?_⟩ hm (s.spanKept_lostAt k r)
  · exact (s.reg_lostAt_ne hs).trans h.state
  · exact (s.reg_lostAt_ne hreason).trans h.reason
  · rw [hepoch, Nat.add_mod, h.epoch, ← Nat.add_mod]

theorem foldl_markLost (h : Lost s m reason e) (hm : m < 4) {l : List Nat} (hl : ∀ k ∈ l, k < 4 ∧ k ≠ m) :
    Lost (l.foldl (fun t k => t.markLost k 2) s) m reason (e + l.length) := by
  induction l generalizing s e with
  | nil => exact h
  | cons k l ih =>
    obtain ⟨hk, hne⟩ := hl k List.mem_cons_self
    have := ih (h.markLost_other (r := 2) hm hk (by decide) hne) fun x hx => hl x (List.mem_cons_of_mem _ hx)
    rwa [List.foldl_cons, List.length_cons, Nat.add_right_comm e, ← Nat.add_assoc] at *

end Lost

namespace State

/-! ## Routes -/

theorem spanKept_ownRoutes {tag : Nat} (s : State) : SpanKept tag s s.ownRoutes := by
  have route : ¬ memberKey (SPAN_ROUTE.ROUTE.key 0) := by unfold memberKey; decide
  have rerouted (u : State) : SpanKept tag u u.reroute :=
    .foldl fun t p _ => .ite .refl ((SpanKept.setLink p _).trans (.foldl fun v f _ => .ite (.sendOn v ..) (.setLink p _)))
  exact (SpanKept.setReg route _).trans (rerouted _)

theorem spanKept_spreadRoutes {tag : Nat} (s : State) (old new : Nat) : SpanKept tag s (s.spreadRoutes old new) :=
  s.spanKept_ownRoutes.trans (.foldl fun u _ _ => .sendOn u ..)

/-! ## The loss of a member (R349) -/

/-- The members that the loss of `m` cuts off. -/
def cutOffBy (s : State) (m reason : Nat) : List Nat :=
  [1, 2, 3].filter fun k => (s.markLost m reason).memAlive k && (s.markLost m reason).hops 0 k ≥ 4

theorem loseMember_eq (s : State) (m reason : Nat) : s.loseMember m reason =
    ((s.cutOffBy m reason).foldl (fun t k => t.markLost k 2) (s.markLost m reason)).spreadRoutes
      (s.reg SPAN_EPOCH.EPOCH) := rfl

theorem cutOffBy_other {s : State} {m reason e : Nat} (h : Lost (s.markLost m reason) m reason e) (h1 : 1 ≤ m) {k : Nat}
    (hk : k ∈ s.cutOffBy m reason) : k < 4 ∧ k ≠ m := by
  obtain ⟨hmem, hcut⟩ := List.mem_filter.1 hk
  refine ⟨?_, ?_⟩
  · have : ∀ k ∈ [1, 2, 3], k < 4 := by decide
    exact this k hmem
  · rintro rfl
    simp [memAlive, h.state, memLost, memJoining, memActive, memQuarantine] at hcut
    omega

theorem opKept_foldl_markLost {tag : Nat} (l : List Nat) (s : State) :
    OpKept tag s (l.foldl (fun t k => t.markLost k 2) s) := by
  induction l generalizing s with
  | nil => exact .refl
  | cons k l ih =>
    rw [List.foldl_cons]
    exact (opKept_markLost s k 2).trans (ih (s.markLost k 2))

/-- The loss of a member of the span: its record, the epoch, and the end of operations with parts on it. -/
theorem loseMember_spec {s : State} {m reason : Nat} (hs : s.Tagged) (hin : s.memIn m = true) (hr : reason < 2 ^ 8) :
    (s.loseMember m reason).memState m = memLost ∧
    (s.loseMember m reason).reg SPAN_MEMBER_STATUS.REASON (4 * m) = reason ∧ (s.loseMember m reason).isHead = true ∧
    (s.loseMember m reason).reg SPAN_EPOCH.EPOCH ≠ s.reg SPAN_EPOCH.EPOCH ∧
    ∀ tag o args, s.op? tag = some o → o.phase = .held heldRemote args → m ∈ args.drop 3 →
      Ended (s.loseMember m reason) tag ERR_SPAN_LOST none none := by
  simp only [memIn, Bool.and_eq_true, decide_eq_true_eq] at hin
  obtain ⟨⟨⟨hhead, h1⟩, h3⟩, -⟩ := hin
  have hm : m < 4 := by omega
  have hlost := Lost.markLost s hm hr hhead
  have hcut (k : Nat) (hk : k ∈ s.cutOffBy m reason) := cutOffBy_other hlost h1 hk
  have hlen : (s.cutOffBy m reason).length ≤ 3 := List.length_filter_le ..
  have hall := (hlost.foldl_markLost hm hcut).keep (tag := 0) hm (spanKept_spreadRoutes _ (s.reg SPAN_EPOCH.EPOCH) 0)
  rw [← loseMember_eq] at hall
  refine ⟨hall.state, hall.reason, hall.head, fun h => ?_, fun tag o args ho hp hmem => ?_⟩
  · have := hall.epoch
    rw [h] at this
    omega
  · have first : Ended (s.markLost m reason) tag ERR_SPAN_LOST none none := by
      rw [markLost_eq]
      have hops : ((s.lostAt m reason).pfEvent 0x0603 (some (m + 2 ^ 8 * reason))).ops = s.ops := pfEvent_ops ..
      exact dropMember_ends (by rw [Tagged, hops]; exact hs) (by rw [op?, hops]; exact ho) hp hmem
    have hs1 := ((s.opKept_markLost (tag := tag) m reason) hs).1
    have others := opKept_foldl_markLost (tag := tag) (s.cutOffBy m reason) (s.markLost m reason)
    rw [loseMember_eq]
    have spread := spanKept_spreadRoutes (tag := tag) ((s.cutOffBy m reason).foldl (fun t k => t.markLost k 2) (s.markLost m reason))
      (s.reg SPAN_EPOCH.EPOCH) 0
    exact (others.trans spread.ops).ended hs1 first

end State

end Sys2Proof.Machine

/-!
Joining and leaving a span, hold and the head's commands: what each leaves of the module's state, number and epoch. They settle
O42.
-/

namespace Sys2Proof.Machine

namespace State

/-! ## Staged values at a boundary -/

theorem reg_applyStaged_ne (s : State) {F G : Fld} {d e : Nat} (h : G.key e ≠ F.key d) :
    (s.applyStaged F d).reg G e = s.reg G e := by
  unfold applyStaged
  split
  · rfl
  · exact s.reg_setReg_ne _ h

theorem get?_staged_applyStaged_self (s : State) (F : Fld) (d : Nat) :
    SMap.get? (s.applyStaged F d).staged (F.key d) = none := by
  unfold applyStaged
  split
  · assumption
  · exact SMap.get?_del_self ..

theorem get?_staged_applyStaged_none {s : State} {k : Nat} (h : SMap.get? s.staged k = none) (F : Fld) (d : Nat) :
    SMap.get? (s.applyStaged F d).staged k = none := by
  by_cases hk : k = F.key d
  · rw [hk, get?_staged_applyStaged_self]
  · unfold applyStaged
    split
    · exact h
    · exact (SMap.get?_del_ne _ hk).trans h

/-- A mode boundary with no value staged and no operation held for it changes nothing. -/
theorem applyMode_idle {s : State} {n : Nat} (hs : s.modeStaged n = false) (hh : s.anyHeld heldMode [n] = false) :
    s.applyMode n = s := by
  simp only [modeStaged, Bool.or_eq_false_iff, Option.isSome_eq_false_iff, Option.isNone_iff_eq_none] at hs
  rw [applyMode, applyStaged_none hs.1, applyStaged_none hs.2, modeDone]
  have hops : (s.ops.map fun e => if e.2.phase == .held heldMode [n] then
      (e.1, { e.2 with phase := .done OK (some (s.modeResult n)) none }) else e) = s.ops := by
    refine (List.map_congr_left fun e he => if_neg ?_).trans (List.map_id _)
    exact List.any_eq_false.1 hh e he
  exact congrArg (fun o => { s with ops := o }) hops

/-! ## FORM (R340) -/

/-- The staged digest is in force. -/
def digestTaken (s : State) : State := (s.applyStaged SPAN_DIGEST_LO.DIGEST).applyStaged SPAN_DIGEST_HI.DIGEST

/-- The head of a span that is formed, before what the members of before have to do with ends. -/
def formed (s : State) : State :=
  [1, 2, 3].foldl (fun t m => (t.setReg SPAN_MEMBER_STATUS.STATE (4 * m) memAbsent).setReg
    SPAN_MEMBER_STATUS.TIME_SUSPECT (4 * m) 0) (s.digestTaken.setSpan stHead).nextEpoch

theorem ctrlForm_head {s : State} (h : s.reg SPAN_CTRL.ROLE = roleHead) :
    s.ctrlForm = (([1, 2, 3].filter s.digestTaken.memIn).foldl dropMember s.formed).ownRoutes := by
  simp only [ctrlForm, h]
  rfl

theorem ctrlForm_dropped {s : State} (h : s.reg SPAN_CTRL.ROLE ≠ roleHead) : s.ctrlForm = s.cfgErr .span := by
  simp only [ctrlForm, bne_iff_ne, ne_eq, h, not_false_eq_true, if_true]

theorem spanKept_ctrlForm {s : State} (h : s.reg SPAN_CTRL.ROLE = roleHead) : SpanKept 0 s.formed s.ctrlForm := by
  rw [ctrlForm_head h]
  exact SpanKept.trans (.foldl fun u m _ => .dropMember u m) (spanKept_ownRoutes _)

theorem formed_fields (s : State) : s.formed.spanState = stHead ∧
    s.formed.reg SPAN_EPOCH.EPOCH = (s.reg SPAN_EPOCH.EPOCH + 1) % 2 ^ 32 ∧
    ∀ m ∈ [1, 2, 3], s.formed.memState m = memAbsent := by
  have hep : (s.digestTaken.setSpan stHead).reg SPAN_EPOCH.EPOCH = s.reg SPAN_EPOCH.EPOCH := by
    rw [setSpan, reg_setReg_ne _ _ (by decide), digestTaken, reg_applyStaged_ne _ (by decide),
      reg_applyStaged_ne _ (by decide)]
  simp only [formed, List.foldl_cons, List.foldl_nil]
  refine ⟨?_, ?_, ?_⟩
  · simp (disch := decide) only [spanState, reg_setReg_ne, nextEpoch, setSpan, reg_setReg_self]
    rfl
  · simp (disch := decide) only [reg_setReg_ne, nextEpoch, reg_setReg_self, hep]
    rfl
  · simp (disch := decide) only [List.forall_mem_cons, memState, reg_setReg_ne, reg_setReg_self]
    exact ⟨rfl, rfl, rfl, by simp⟩

theorem get?_staged_formed (s : State) : SMap.get? s.formed.staged (SPAN_DIGEST_LO.DIGEST.key 0) = none := by
  simp only [formed, List.foldl_cons, List.foldl_nil, setReg_staged, nextEpoch, setSpan, digestTaken]
  exact get?_staged_applyStaged_none (s.get?_staged_applyStaged_self _ _) _ _

/-! ## Leaving a span -/

/-- The work over the span has ended: what a span-leave reset does before the membership fields. -/
def workLeft (s : State) : State :=
  let s := (List.range 256).foldl (fun t k =>
    if t.regB TD_CTRL.STEP_OPEN (tdD k) && t.sharedTable k then t.discardStep k ABORT_RESET else t) s
  let s := ([0, 1, 2, 3].filter (· != s.self)).foldl State.loseParts s
  (s.flushModule s.self).settleRemote

/-- The membership fields of a module that has left. -/
def memberLeft (s : State) (next : Nat) : State :=
  let u := ((s.setSpan next).setReg SPAN_ROUTE.ROUTE 0 0).setReg SPAN_STATUS.TIME_SUSPECT 0 0
  { u with node := { u.node with acked := false, badRun := 0, goodRun := 0 } }

theorem spanLeave_eq (s : State) (next : Nat) : s.spanLeave next =
    let u := (s.jspReset (0x20 + s.self)).workLeft.memberLeft next
    if next = stHold then u else u.renumber 0 := by
  simp only [spanLeave, leaveSpan, workLeft, memberLeft]

theorem spanKept_workLeft {tag : Nat} (s : State) : SpanKept tag s s.workLeft := by
  have steps (u : State) : SpanKept tag u ((List.range 256).foldl (fun t k =>
      if t.regB TD_CTRL.STEP_OPEN (tdD k) && t.sharedTable k then t.discardStep k ABORT_RESET else t) u) :=
    .foldl fun u k _ => .ite (.discardStep ..) .refl
  exact .after (.settleRemote _) (.after (.flushModule ..) (.after (.foldl fun u m _ => .loseParts u m) (steps s)))

theorem memberLeft_fields (s : State) {next : Nat} (h : next < 8) : (s.memberLeft next).spanState = next ∧
    (s.memberLeft next).self = s.self ∧ (s.memberLeft next).reg SPAN_ROUTE.ROUTE = 0 := by
  have fields (F : Fld) (d : Nat) : (s.memberLeft next).reg F d =
      (((s.setSpan next).setReg SPAN_ROUTE.ROUTE 0 0).setReg SPAN_STATUS.TIME_SUSPECT 0 0).reg F d := rfl
  refine ⟨?_, ?_, ?_⟩
  · rw [spanState, fields, reg_setReg_ne _ _ (by decide), reg_setReg_ne _ _ (by decide), setSpan, reg_setReg_self]
    exact Nat.mod_eq_of_lt h
  · rw [self, fields, reg_setReg_ne _ _ (by decide), reg_setReg_ne _ _ (by decide), setSpan,
      reg_setReg_ne _ _ (by decide)]
    rfl
  · rw [fields, reg_setReg_ne _ _ (by decide), reg_setReg_self]
    rfl

theorem self_renumber (s : State) {b : Nat} (h : b < 4) : (s.renumber b).self = b := by
  unfold renumber; dsimp only
  split
  · assumption
  · exact (s.reg_setReg_self ..).trans (Nat.mod_eq_of_lt h)

theorem reg_renumber_ne (s : State) (b : Nat) {F : Fld} {d : Nat} (h : F.key d ≠ SPAN_STATUS.MODULE.key 0) :
    (s.renumber b).reg F d = s.reg F d := by
  unfold renumber; dsimp only
  split
  · rfl
  · exact s.reg_setReg_ne b h

@[simp] theorem renumber_node (s : State) (b : Nat) : (s.renumber b).node = s.node := by
  unfold renumber; dsimp only; split <;> rfl

/-- A module that has left a span stands alone, as module 0 and without routes. -/
theorem spanLeave_alone (s : State) : (s.spanLeave stAlone).spanState = stAlone ∧ (s.spanLeave stAlone).self = 0 ∧
    (s.spanLeave stAlone).reg SPAN_ROUTE.ROUTE = 0 ∧ (s.spanLeave stAlone).node.acked = false := by
  obtain ⟨hstate, -, hroute⟩ := (s.jspReset (0x20 + s.self)).workLeft.memberLeft_fields (next := stAlone) (by decide)
  rw [spanLeave_eq]; dsimp only
  rw [if_neg (by decide), renumber_node]
  exact ⟨(reg_renumber_ne _ _ (by decide)).trans hstate, self_renumber _ (by decide),
    (reg_renumber_ne _ _ (by decide)).trans hroute, rfl⟩

/-- A module in HOLD keeps its number. -/
theorem spanLeave_hold (s : State) : (s.spanLeave stHold).spanState = stHold ∧ (s.spanLeave stHold).self = s.self := by
  obtain ⟨hstate, hself, -⟩ := (s.jspReset (0x20 + s.self)).workLeft.memberLeft_fields (next := stHold) (by decide)
  have kept := (SpanKept.jspReset (tag := 0) s (0x20 + s.self)).trans (spanKept_workLeft _)
  rw [spanLeave_eq]; dsimp only
  rw [if_pos rfl]
  exact ⟨hstate, hself.trans (kept.reg memberKey_span.2.1)⟩

/-! ## Joining -/

theorem takeAckOfJoin_joining {s : State} (h : s.spanState = stJoining) (m e : Nat) (ok : Bool) (r : List Nat) :
    s.takeAckOfJoin m e ok r =
      ({ (((s.renumber m).setReg SPAN_ROUTE.ROUTE 0 (routeWord r)).setReg SPAN_EPOCH.EPOCH 0 e) with
        node := { s.node with acked := ok, expired := false } } : State).setSpan
        (if ok then stJoining else stQuarantine) := by
  have hc : ((s.spanState == stActive || s.spanState == stHold) && e != s.reg SPAN_EPOCH.EPOCH) = false := by
    rw [h]; rfl
  have hj : (s.spanState == stJoining || s.spanState == stQuarantine || s.spanState == stHold) = true := by
    rw [h]; rfl
  have hn : ((s.renumber m).setReg SPAN_ROUTE.ROUTE 0 (routeWord r)).node = s.node := s.renumber_node m
  simp only [takeAckOfJoin, hc, hj, Bool.false_eq_true, if_false, if_true, hn]

theorem routeWord_lt (r : List Nat) : routeWord r < 2 ^ 16 := by
  have h (m : Nat) : r.getD m 0 % 16 < 16 := Nat.mod_lt _ (by decide)
  have h0 := h 0
  have h1 := h 1
  have h2 := h 2
  have h3 := h 3
  simp only [routeWord, show List.range 4 = [0, 1, 2, 3] from rfl, List.map_cons, List.map_nil, List.sum_cons, List.sum_nil]
  omega

theorem takeAckOfJoin_fields {s : State} (h : s.spanState = stJoining) {m e : Nat} (ok : Bool) (r : List Nat) (hm : m < 4)
    (he : e < 2 ^ 32) : (s.takeAckOfJoin m e ok r).self = m ∧ (s.takeAckOfJoin m e ok r).reg SPAN_EPOCH.EPOCH = e ∧
    (s.takeAckOfJoin m e ok r).reg SPAN_ROUTE.ROUTE = routeWord r ∧ (s.takeAckOfJoin m e ok r).node.acked = ok ∧
    (s.takeAckOfJoin m e ok r).spanState = if ok then stJoining else stQuarantine := by
  rw [takeAckOfJoin_joining h, setSpan]
  have fields (F : Fld) (d : Nat) (u : State) (n : SpanNode) : ({ u with node := n } : State).reg F d = u.reg F d := rfl
  refine ⟨?_, ?_, ?_, rfl, ?_⟩
  · rw [self, reg_setReg_ne _ _ (by decide), fields, reg_setReg_ne _ _ (by decide), reg_setReg_ne _ _ (by decide)]
    exact s.self_renumber hm
  · rw [reg_setReg_ne _ _ (by decide), fields, reg_setReg_self]
    exact Nat.mod_eq_of_lt he
  · rw [reg_setReg_ne _ _ (by decide), fields, reg_setReg_ne _ _ (by decide), reg_setReg_self]
    exact Nat.mod_eq_of_lt (routeWord_lt r)
  · rw [spanState, reg_setReg_self]
    cases ok <;> rfl

/-! ## A JOIN at the head (R337 to R340) -/

/-- The newcomer gets copies of its tables' entries. -/
def catalogueSent (s : State) (m : Nat) : State :=
  ((List.range 256).filter fun t => (s.tMods t).contains m).foldl
    (fun u t => u.sendTo m 0 0 (.ctrl (.catalogue t (u.catalogueEntry t)))) s

/-- The newcomer gets the commit records that it has not applied. -/
def recordsSent (s : State) (m : Nat) : State :=
  (s.records.filter (·.1 == m)).foldl (fun u r => u.sendTo m 0 0 (.ctrl (.commitRecord r.2.1 r.2.2)))
    { s with records := s.records.filter (·.1 != m) }

theorem admitModule_eq (s : State) (m : Nat) : s.admitModule m =
    let u := (s.setReg SPAN_MEMBER_STATUS.STATE (4 * m) memJoining).nextEpoch
    let v := (((u.spreadRoutes (s.reg SPAN_EPOCH.EPOCH) m).joinAck m true).catalogueSent m).recordsSent m
    v.sendTo m 0 0 (.ctrl (.routes (v.reg SPAN_EPOCH.EPOCH) (v.routesFor m))) := by
  simp only [admitModule, catalogueSent, recordsSent]

theorem spanKept_catalogueSent {tag : Nat} (s : State) (m : Nat) : SpanKept tag s (s.catalogueSent m) :=
  .foldl fun u _ _ => .sendTo u ..

theorem spanKept_recordsSent {tag : Nat} (s : State) (m : Nat) : SpanKept tag s (s.recordsSent m) :=
  .after (.foldl fun u _ _ => .sendTo u ..) (.ofSame rfl rfl rfl)

/-- What the newcomer's admission sends changes no field of membership. -/
theorem admitModule_fields (s : State) {m : Nat} (hm : m < 4) : (s.admitModule m).memState m = memJoining ∧
    (s.admitModule m).reg SPAN_EPOCH.EPOCH = (s.reg SPAN_EPOCH.EPOCH + 1) % 2 ^ 32 := by
  have apart : ∀ m < 4, SPAN_MEMBER_STATUS.STATE.key (4 * m) ≠ SPAN_EPOCH.EPOCH.key 0 := by decide
  have sent : SpanKept 0 (s.setReg SPAN_MEMBER_STATUS.STATE (4 * m) memJoining).nextEpoch (s.admitModule m) := by
    rw [admitModule_eq]
    exact .after (.sendTo ..) (.after (spanKept_recordsSent ..) (.after (spanKept_catalogueSent ..)
      (.after (.sendTo ..) (spanKept_spreadRoutes ..))))
  refine ⟨(sent.reg (memberKey_status hm).1).trans ?_, (sent.reg memberKey_span.2.2).trans ?_⟩
  · rw [nextEpoch, reg_setReg_ne _ _ (apart m hm), reg_setReg_self]
    rfl
  · rw [nextEpoch, reg_setReg_self, reg_setReg_ne _ _ (apart m hm).symm]
    rfl

theorem quarantine_fields (s : State) {m : Nat} (digest version : Nat) (hm : m < 4) :
    (s.quarantine m digest version).memState m = memQuarantine ∧
    (s.quarantine m digest version).reg SPAN_EPOCH.EPOCH = s.reg SPAN_EPOCH.EPOCH := by
  have apart : ∀ m < 4, SPAN_MEMBER_STATUS.STATE.key (4 * m) ≠ SPAN_EPOCH.EPOCH.key 0 := by decide
  have sent : SpanKept 0 (s.setReg SPAN_MEMBER_STATUS.STATE (4 * m) memQuarantine) (s.quarantine m digest version) := by
    unfold quarantine; dsimp only
    exact .after (.sendTo ..) (.after (.pfEvent ..) (spanKept_spreadRoutes ..))
  refine ⟨(sent.reg (memberKey_status hm).1).trans ?_, (sent.reg memberKey_span.2.2).trans ?_⟩
  · rw [reg_setReg_self]
    rfl
  · exact s.reg_setReg_ne _ (apart m hm).symm

/-- The head keeps the peers that a newcomer reports. -/
def withPeers (s : State) (m : Nat) (peers : List Nat) : State :=
  { s with node := { s.node with adj := SMap.put s.node.adj m peers [] } }

section
variable {s : State} {j : Hello}

theorem judgeJoin_unlisted (h : j.spanId ≠ s.reg SPAN_ID.ID ∨ s.listed j.serial = none) :
    s.judgeJoin j = s.pfEvent 0x0613 (some 1) j.serial := by
  unfold judgeJoin
  by_cases hid : j.spanId = s.reg SPAN_ID.ID
  · rw [if_neg (by simpa using hid), h.resolve_left (not_not_intro hid)]
    rfl
  · rw [if_pos (by simpa using hid)]
    rfl

variable {m : Nat} (hid : j.spanId = s.reg SPAN_ID.ID) (hl : s.listed j.serial = some m)
include hid hl

theorem judgeJoin_twice (h : s.memState m = memActive ∨ s.memState m = memJoining) :
    s.judgeJoin j = s.pfEvent 0x0613 (some 2) j.serial := by
  have hc : (s.memState m == memActive || s.memState m == memJoining) = true := by simpa using h
  unfold judgeJoin
  rw [if_neg (by simpa using hid), hl]
  dsimp only
  rw [if_pos hc]
  rfl

theorem judgeJoin_decides (ha : s.memState m ≠ memActive) (hj : s.memState m ≠ memJoining) (hst : s.modeStaged 12 = false)
    (hh : s.anyHeld heldMode [12] = false) (hmode : s.regB MODE_F.MODE 48 = false)
    (hho : (s.handoffs.any fun x => x.func == 12 && x.args.headD 4 == m) = false) :
    s.judgeJoin j = (s.withPeers m j.peers).decideJoin m j.digest j.version := by
  have hc : (s.memState m == memActive || s.memState m == memJoining) = false := by simp [ha, hj]
  have hidle : (s.withPeers m j.peers).applyMode 12 = s.withPeers m j.peers := applyMode_idle hst hh
  have hmode' : ¬ (s.withPeers m j.peers).regB MODE_F.MODE 48 = true := by
    rw [show (s.withPeers m j.peers).regB MODE_F.MODE 48 = s.regB MODE_F.MODE 48 from rfl, hmode]
    decide
  unfold judgeJoin
  rw [if_neg (by simpa using hid), hl]
  dsimp only
  rw [if_neg (by rw [hc]; decide), if_neg (by rw [hho]; decide)]
  change (if ((s.withPeers m j.peers).applyMode 12).regB MODE_F.MODE 48 = true then _ else
    ((s.withPeers m j.peers).applyMode 12).decideJoin m j.digest j.version) = _
  rw [hidle, if_neg hmode']

end

theorem decideJoin_same {s : State} {digest version : Nat} (m : Nat) (hd : digest = s.digest)
    (hv : version = s.fwVersion) : s.decideJoin m digest version = s.admitModule m := by
  simp [decideJoin, differs, hd, hv, b2n]

theorem decideJoin_differs {s : State} {digest version : Nat} (m : Nat)
    (h : digest ≠ s.digest ∨ version ≠ s.fwVersion) : s.decideJoin m digest version = s.quarantine m digest version := by
  rw [decideJoin, if_neg]
  rcases h with h | h <;> simp [differs, h, b2n]

theorem listed_mem {s : State} {serial m : Nat} (h : s.listed serial = some m) : m ∈ [1, 2, 3] :=
  List.mem_of_find?_eq_some h

/-! ## Frames in order -/

/-- A frame in order on VC0 of port `p` is accepted. -/
def accepted (s : State) (p : Nat) (h : FrameHdr) : State :=
  (s.setLink p { s.link p with rxSeq := ((s.link p).rxSeq + 1) % 4096, nakked := false,
                               owed := (s.link p).owed.modify 0 (· + 1) }).takeAck p h

theorem rx_accepted {s : State} {p : Nat} {h : FrameHdr} (hp : p < 4) (hr : s.ready = true) (hu : s.portUp p = true)
    (hq : h.seq % 4096 = (s.link p).rxSeq) (k : State → State) :
    s.rx p h (some 0) k = answer s ((k (s.accepted p h)).payBack p) := by
  rw [rx, unitStep, if_pos hp, stepIf, if_pos (by rw [hr, hu]; rfl)]
  simp only [receive, hq, beq_self_eq_true, if_true]
  rfl

/-! ## Hold (R347) -/

theorem hold_fields (s : State) : s.hold.spanState = stHold ∧ s.hold.self = s.self ∧ s.hold.node.expired = false ∧
    s.hold.mem = s.mem ∧ s.hold.ops = s.ops := by
  have told : SpanKept 0 (s.setSpan stHold) s.hold := .after (.pfEvent ..) (.ofSame rfl rfl rfl)
  refine ⟨(told.reg memberKey_span.1).trans ?_, (told.reg memberKey_span.2.1).trans ?_, ?_, pfEvent_mem .., pfEvent_ops ..⟩
  · rw [setSpan, reg_setReg_self]
    rfl
  · exact s.reg_setReg_ne _ (by decide)
  · rw [hold, pfEvent_node]

/-- The module in HOLD whose time is over. -/
def holdOver (s : State) : State :=
  ({ s.spanLeave stHold with node := { (s.spanLeave stHold).node with expired := true } } : State).pfEvent 0x0605 (some 0)

theorem holdOver_fields (s : State) :
    s.holdOver.spanState = stHold ∧ s.holdOver.self = s.self ∧ s.holdOver.node.expired = true := by
  have expired (u : State) (n : SpanNode) : SpanKept 0 u { u with node := n } := .ofSame rfl rfl rfl
  have told : SpanKept 0 (s.spanLeave stHold) s.holdOver := .after (.pfEvent ..) (expired _ _)
  obtain ⟨hstate, hself⟩ := s.spanLeave_hold
  refine ⟨(told.reg memberKey_span.1).trans hstate, (told.reg memberKey_span.2.1).trans hself, ?_⟩
  rw [holdOver, pfEvent_node]

/-! ## The digest (R339) -/

/-- The 64-bit digest is staged in its two words. -/
def stageDigest (s : State) (val : Nat) : State :=
  (s.stage SPAN_DIGEST_LO.DIGEST 0 val).stage SPAN_DIGEST_HI.DIGEST 0 (val / 2 ^ 32)

theorem regRead_stageDigest (s : State) {val : Nat} (h : val < 2 ^ 64) :
    (s.stageDigest val).regRead SPAN_DIGEST_LO.DIGEST = val % 2 ^ 32 ∧
    (s.stageDigest val).regRead SPAN_DIGEST_HI.DIGEST = val / 2 ^ 32 := by
  have hlo : SMap.get? (s.stageDigest val).staged (SPAN_DIGEST_LO.DIGEST.key 0) = some (val % 2 ^ 32) :=
    (SMap.get?_ins_ne _ _ (by decide)).trans (s.get?_staged_stage ..)
  have hhi : SMap.get? (s.stageDigest val).staged (SPAN_DIGEST_HI.DIGEST.key 0) = some (val / 2 ^ 32 % 2 ^ 32) :=
    get?_staged_stage ..
  refine ⟨?_, ?_⟩
  · rw [regRead, hlo]
    rfl
  · rw [regRead, hhi]
    exact Nat.mod_eq_of_lt (by omega)

end State

/-! ## The commands -/

section
variable {s : State} (hr : s.ready = true)
include hr

theorem exec_memberLost {m : Nat} (hm : m < 4) (hin : s.memIn m = true) :
    exec (.memberLost m) s = answer s (s.loseMember m 1) := by
  show unitStep _ _ _ _ _ = _
  rw [unitStep, if_pos hm, stepIf, if_pos (by rw [hr, hin]; rfl)]

theorem exec_remoteTimeout {tag m : Nat} {o : Op} {args : List Nat} (hm : m < 4) (hin : s.memIn m = true)
    (ho : s.op? tag = some o) (hp : o.phase = .held heldRemote args) (hw : m ∈ args.drop 3) :
    exec (.remoteTimeout tag m) s = answer s (s.loseMember m 3) := by
  show execRemoteTimeout tag m s = _
  have hc : (heldRemote == heldRemote && (args.drop 3).contains m) = true := by simpa using hw
  simp only [execRemoteTimeout, ho, hp, hc, hr, hin, unitStep, if_pos hm, stepIf, Bool.and_true, if_true]

theorem exec_spanLeaveReset (hin : s.inSpan = true) : exec .spanLeaveReset s = answer s (s.spanLeave stAlone) := by
  show stepIf _ _ _ = _
  rw [stepIf, if_pos (by rw [hr, hin]; rfl)]

theorem exec_headLost (h : s.spanState = stActive) : exec .headLost s = answer s s.hold := by
  show stepIf _ _ _ = _
  rw [stepIf, if_pos (by rw [hr, h]; rfl)]

theorem exec_holdExpired (h : s.spanState = stHold) (he : s.node.expired = false) :
    exec .holdExpired s = answer s s.holdOver := by
  show stepIf _ _ _ = _
  rw [stepIf, if_pos (by rw [hr, h, he]; rfl)]
  rfl

theorem exec_joinTransmit (h : s.spanState = stJoining) (ha : s.node.acked = false) (hen : s.regB SPAN_CTRL.EN = true)
    (hrole : s.reg SPAN_CTRL.ROLE = roleMember) : exec .joinTransmit s = answer s s.sendJoin := by
  show stepIf _ _ _ = _
  rw [stepIf, if_pos (by rw [hr, hen, hrole, h, ha]; rfl)]

variable {p : Nat} {h : FrameHdr} (hp : p < 4) (hu : s.portUp p = true) (hq : h.seq % 4096 = (s.link p).rxSeq)
include hp hu hq

theorem exec_leave (he : (s.accepted p h).epochOk h = true) (hd : h.dst = (s.accepted p h).self)
    (hin : (s.accepted p h).memIn h.src = true) :
    exec (.leave p h) s = answer s (((s.accepted p h).loseMember h.src 4).payBack p) := by
  show State.rx _ _ _ _ _ = _
  rw [State.rx_accepted hp hr hu hq, State.deliverFrame, if_neg (by rw [he]; decide), if_pos (by rw [hd, beq_self_eq_true]),
    if_pos hin]

theorem exec_join_head (j : Hello) (hh : (s.accepted p h).isHead = true) :
    exec (.join p h j) s = answer s (((s.accepted p h).judgeJoin j).payBack p) := by
  show State.rx _ _ _ _ _ = _
  rw [State.rx_accepted hp hr hu hq, if_pos hh]

theorem exec_joinAck_own {m e : Nat} {ok : Bool} {r : List Nat} (hm : m < 4)
    (hn : (s.accepted p h).numbered = false ∨ (s.accepted p h).self = m) :
    exec (.joinAck p h m e ok r) s = answer s (((s.accepted p h).takeAckOfJoin m e ok r).payBack p) := by
  have hc : (decide (m < 4) && (!(s.accepted p h).numbered || (s.accepted p h).self == m)) = true := by
    rcases hn with hn | hn <;> simp [hm, hn]
  show State.rx _ _ _ _ _ = _
  rw [State.rx_accepted hp hr hu hq, if_pos hc]

end

section
variable {s : State} (hr : s.running = true)
include hr

theorem exec_spanForm : exec .spanForm s = answer s s.ctrlForm := by
  show stepIf _ _ _ = _
  rw [stepIf, if_pos hr]

theorem exec_spanRemove {m : Nat} (hm : m < 4) (hrole : s.reg SPAN_CTRL.ROLE = roleHead)
    (hin : (s.setReg SPAN_CTRL.REMOVE_MOD 0 m).memIn m = true) :
    exec (.spanRemove m) s = answer s ((s.setReg SPAN_CTRL.REMOVE_MOD 0 m).loseMember m 5) := by
  have hrole' : (s.setReg SPAN_CTRL.REMOVE_MOD 0 m).reg SPAN_CTRL.ROLE = roleHead :=
    (s.reg_setReg_ne m (by decide)).trans hrole
  show unitStep _ _ _ _ _ = _
  rw [unitStep, if_pos hm, stepIf, if_pos hr, State.ctrlRemove, hrole', if_neg (by decide), if_pos hin]

theorem exec_spanCtrlLeave (hin : s.inSpan = true) (hrole : s.reg SPAN_CTRL.ROLE = roleMember) :
    exec .spanCtrlLeave s = answer s ((s.sendTo 0 0 0 .leave).spanLeave stAlone) := by
  show stepIf _ _ _ = _
  rw [stepIf, if_pos hr, State.ctrlLeave, hrole, if_neg (by decide), if_pos hin]

theorem exec_spanDigestWrite (val : Nat) :
    exec (.spanDigestWrite val) s = answer s (if s.spanState = stQuarantine then (s.stageDigest val).sendJoin
      else s.stageDigest val) := by
  show stepIf _ _ _ = _
  rw [stepIf, if_pos hr]
  by_cases h : s.spanState = stQuarantine
  · have h' : ((s.stageDigest val).spanState == stQuarantine) = true := beq_iff_eq.2 h
    rw [if_pos h]
    exact congrArg (answer s) (if_pos h')
  · have h' : ¬ ((s.stageDigest val).spanState == stQuarantine) = true := fun x => h (beq_iff_eq.1 x)
    rw [if_neg h]
    exact congrArg (answer s) (if_neg h')

end

/-- REMOVE_MOD is no field of membership. -/
theorem State.memIn_setReg_removeMod (s : State) (m v : Nat) :
    (s.setReg SPAN_CTRL.REMOVE_MOD 0 v).memIn m = s.memIn m := by
  have apart : ∀ k < 4, SPAN_MEMBER_STATUS.STATE.key (4 * k) ≠ SPAN_CTRL.REMOVE_MOD.key 0 := by decide
  have head : (s.setReg SPAN_CTRL.REMOVE_MOD 0 v).isHead = s.isHead :=
    congrArg (· == stHead) (s.reg_setReg_ne v (by decide))
  have alive : m ≤ 3 → (s.setReg SPAN_CTRL.REMOVE_MOD 0 v).memAlive m = s.memAlive m := by
    intro hm
    have : (s.setReg SPAN_CTRL.REMOVE_MOD 0 v).memState m = s.memState m := s.reg_setReg_ne v (apart m (by omega))
    rw [memAlive, memAlive, this]
  by_cases hm : m ≤ 3
  · rw [memIn, memIn, head, alive hm]
  · simp [memIn, hm]

/-! ## What the commands leave -/

/-- What an effect leaves, whatever the queue, the command's answer leaves. -/
theorem exec_leaves {c : Instr} {s u : State} {P : State → Prop} (hexec : exec c s = answer s u)
    (hp : ∀ t q, u = t → P { t with pending := q }) : ∃ t, exec c s = .next t ∧ P t :=
  ⟨_, hexec, hp u _ rfl⟩

/-- From `s` to `t` the head has lost member `m` for `reason`, and with it every operation that had a part there. -/
def LosesMember (s t : State) (m reason : Nat) : Prop :=
  t.memState m = memLost ∧ t.reg SPAN_MEMBER_STATUS.REASON (4 * m) = reason ∧ t.isHead = true ∧
  t.reg SPAN_EPOCH.EPOCH ≠ s.reg SPAN_EPOCH.EPOCH ∧
  ∀ tag o args, s.op? tag = some o → o.phase = .held heldRemote args → m ∈ args.drop 3 →
    Ended t tag ERR_SPAN_LOST none none

/-- The queue of commands is no part of what a loss changes. -/
theorem LosesMember.withPending {s t : State} {m reason : Nat} (h : LosesMember s t m reason) (q : List Instr) :
    LosesMember s { t with pending := q } m reason := h

section
variable {s : State} (hready : s.ready = true)

theorem spanForm_head (hrun : s.running = true) (hrole : s.reg SPAN_CTRL.ROLE = roleHead) :
    ∃ t, exec .spanForm s = .next t ∧ t.spanState = stHead ∧
      t.reg SPAN_EPOCH.EPOCH = (s.reg SPAN_EPOCH.EPOCH + 1) % 2 ^ 32 ∧ (∀ m, m ∈ [1, 2, 3] → t.memState m = memAbsent) ∧
      SMap.get? t.staged (SPAN_DIGEST_LO.DIGEST.key 0) = none := by
  have hm4 : ∀ m ∈ [1, 2, 3], m < 4 := by decide
  have kept := State.spanKept_ctrlForm hrole
  obtain ⟨hstate, hepoch, habsent⟩ := s.formed_fields
  have hstaged : SMap.get? s.ctrlForm.staged (SPAN_DIGEST_LO.DIGEST.key 0) = none := by
    rw [kept.staged, s.get?_staged_formed]
  refine exec_leaves (exec_spanForm hrun) fun t q ht => ?_
  rw [ht] at kept hstaged
  exact ⟨(kept.reg memberKey_span.1).trans hstate, (kept.reg memberKey_span.2.2).trans hepoch,
    fun m hm => (kept.reg (memberKey_status (hm4 m hm)).1).trans (habsent m hm), hstaged⟩

theorem spanForm_dropped (hrun : s.running = true) (hrole : s.reg SPAN_CTRL.ROLE ≠ roleHead) :
    ∃ t, exec .spanForm s = .next t ∧ t.reg SPAN_STATUS.CFG_ERR = 1 ∧
      Touches [SPAN_STATUS.CFG_ERR.key 0, GBL_ERR_SUMMARY.CFG_ERR.key 0] s t := by
  obtain ⟨hset, -, htouch⟩ := s.cfgErr_reports (b := .span) rfl
  rw [exec_spanForm hrun, State.ctrlForm_dropped hrole]
  exact ⟨_, State.answer_self (by rw [htouch.1]), hset, htouch⟩

section
variable (htags : s.Tagged) {m : Nat} (hm : m < 4) (hin : s.memIn m = true)
include htags hm hin

include hready in
theorem memberLost_loses : ∃ t, exec (.memberLost m) s = .next t ∧ LosesMember s t m 1 := by
  have hlost : LosesMember s (s.loseMember m 1) m 1 := State.loseMember_spec htags hin (by decide)
  exact ⟨_, exec_memberLost hready hm hin, hlost.withPending _⟩

theorem spanRemove_loses (hrun : s.running = true) (hrole : s.reg SPAN_CTRL.ROLE = roleHead) :
    ∃ t, exec (.spanRemove m) s = .next t ∧ LosesMember s t m 5 := by
  have hin' : (s.setReg SPAN_CTRL.REMOVE_MOD 0 m).memIn m = true := by rw [s.memIn_setReg_removeMod, hin]
  obtain ⟨hstate, hreason, hhead, hne, hends⟩ := State.loseMember_spec (reason := 5)
    (s := s.setReg SPAN_CTRL.REMOVE_MOD 0 m) htags hin' (by decide)
  rw [s.reg_setReg_ne m (show SPAN_EPOCH.EPOCH.key 0 ≠ SPAN_CTRL.REMOVE_MOD.key 0 by decide)] at hne
  have hlost : LosesMember s ((s.setReg SPAN_CTRL.REMOVE_MOD 0 m).loseMember m 5) m 5 :=
    ⟨hstate, hreason, hhead, hne, hends⟩
  exact ⟨_, exec_spanRemove hrun hm hrole hin', hlost.withPending _⟩

include hready in
theorem remoteTimeout_loses {tag : Nat} {o : Op} {args : List Nat} (ho : s.op? tag = some o)
    (hp : o.phase = .held heldRemote args) (hw : m ∈ args.drop 3) :
    ∃ t, exec (.remoteTimeout tag m) s = .next t ∧ LosesMember s t m 3 := by
  have hlost : LosesMember s (s.loseMember m 3) m 3 := State.loseMember_spec htags hin (by decide)
  exact ⟨_, exec_remoteTimeout hready hm hin ho hp hw, hlost.withPending _⟩

end

include hready in
theorem spanLeaveReset_leaves (hin : s.inSpan = true) : ∃ t, exec .spanLeaveReset s = .next t ∧ t.spanState = stAlone ∧
    t.self = 0 ∧ t.reg SPAN_ROUTE.ROUTE = 0 ∧ t.node.acked = false := by
  refine exec_leaves (exec_spanLeaveReset hready hin) fun t q ht => ?_
  have halone := s.spanLeave_alone
  rw [ht] at halone
  exact halone

theorem spanCtrlLeave_leaves (hrun : s.running = true) (hin : s.inSpan = true) (hrole : s.reg SPAN_CTRL.ROLE = roleMember) :
    ∃ t, exec .spanCtrlLeave s = .next t ∧ t.spanState = stAlone ∧ t.self = 0 := by
  refine exec_leaves (exec_spanCtrlLeave hrun hin hrole) fun t q ht => ?_
  obtain ⟨hstate, hself, -⟩ := (s.sendTo 0 0 0 .leave).spanLeave_alone
  rw [ht] at hstate hself
  exact ⟨hstate, hself⟩

include hready in
theorem headLost_holds (hact : s.spanState = stActive) : ∃ t, exec .headLost s = .next t ∧ t.spanState = stHold ∧
    t.self = s.self ∧ t.node.expired = false ∧ t.mem = s.mem ∧ t.ops = s.ops := by
  refine exec_leaves (exec_headLost hready hact) fun t q ht => ?_
  have hheld := s.hold_fields
  rw [ht] at hheld
  exact hheld

include hready in
theorem holdExpired_holds (hhold : s.spanState = stHold) (hexp : s.node.expired = false) :
    ∃ t, exec .holdExpired s = .next t ∧ t.spanState = stHold ∧ t.self = s.self ∧ t.node.expired = true := by
  refine exec_leaves (exec_holdExpired hready hhold hexp) fun t q ht => ?_
  have hover := s.holdOver_fields
  rw [ht] at hover
  exact hover

theorem spanDigestWrite_stages (hrun : s.running = true) {val : Nat} (hval : val < 2 ^ 64) :
    ∃ u : State, u.regRead SPAN_DIGEST_LO.DIGEST = val % 2 ^ 32 ∧ u.regRead SPAN_DIGEST_HI.DIGEST = val / 2 ^ 32 ∧
      u = { s with staged := u.staged } ∧ (s.spanState ≠ stQuarantine → exec (.spanDigestWrite val) s = .next u) ∧
      (s.spanState = stQuarantine → exec (.spanDigestWrite val) s = .next { u.sendJoin with pending := s.pending }) := by
  obtain ⟨hlo, hhi⟩ := s.regRead_stageDigest hval
  refine ⟨s.stageDigest val, hlo, hhi, rfl, fun h => ?_, fun h => ?_⟩
  · rw [exec_spanDigestWrite hrun, if_neg h]
    exact State.answer_self rfl
  · rw [exec_spanDigestWrite hrun, if_pos h, answer]

/-- What the head leaves after the JOIN of a module that no reason keeps out (R338 to R340). -/
theorem judgeJoin_fields {j : Hello} {m : Nat} (hid : j.spanId = s.reg SPAN_ID.ID) (hl : s.listed j.serial = some m)
    (ha : s.memState m ≠ memActive) (hj : s.memState m ≠ memJoining) (hst : s.modeStaged 12 = false)
    (hh : s.anyHeld heldMode [12] = false) (hmode : s.regB MODE_F.MODE 48 = false)
    (hho : (s.handoffs.any fun x => x.func == 12 && x.args.headD 4 == m) = false) :
    (j.digest = s.digest → j.version = s.fwVersion → (s.judgeJoin j).memState m = memJoining ∧
      (s.judgeJoin j).reg SPAN_EPOCH.EPOCH = (s.reg SPAN_EPOCH.EPOCH + 1) % 2 ^ 32) ∧
    (j.digest ≠ s.digest ∨ j.version ≠ s.fwVersion → (s.judgeJoin j).memState m = memQuarantine ∧
      (s.judgeJoin j).reg SPAN_EPOCH.EPOCH = s.reg SPAN_EPOCH.EPOCH) := by
  have hm4 : ∀ m ∈ [1, 2, 3], m < 4 := by decide
  rw [State.judgeJoin_decides hid hl ha hj hst hh hmode hho]
  refine ⟨fun hd hv => ?_, fun hne => ?_⟩
  · rw [State.decideJoin_same (s := s.withPeers m j.peers) m hd hv]
    exact (s.withPeers m j.peers).admitModule_fields (hm4 m (State.listed_mem hl))
  · rw [State.decideJoin_differs (s := s.withPeers m j.peers) m hne]
    exact (s.withPeers m j.peers).quarantine_fields _ _ (hm4 m (State.listed_mem hl))

end

end Sys2Proof.Machine

namespace Sys2Proof.Proofs
open Sys2Proof.Machine

/-- Settles O42: the work that ends with a module and the frames sent leave the fields of membership alone, so that each
command leaves there what it writes itself; and how an operation has ended stays. -/
theorem spanMembership : Obligations.SpanMembership := by
  unfold Obligations.SpanMembership
  intro s hready hrun htags
  have hm4 : ∀ m ∈ [1, 2, 3], m < 4 := by decide
  refine ⟨spanForm_head hrun, spanForm_dropped hrun, fun m hm hin => ?_, spanLeaveReset_leaves hready,
    spanCtrlLeave_leaves hrun, headLost_holds hready, holdExpired_holds hready, exec_joinTransmit hready,
    fun _ => spanDigestWrite_stages hrun, fun p h j hp hu hq => ⟨?_, ?_⟩, fun j _ => ⟨State.judgeJoin_unlisted, ?_⟩, ?_⟩
  · intro lost _
    refine ⟨memberLost_loses hready htags (hm4 m hm) hin, spanRemove_loses htags (hm4 m hm) hin hrun,
      fun tag o args => remoteTimeout_loses hready htags (hm4 m hm) hin, ?_⟩
    rintro p h hp hu hq rfl
    exact exec_leave hready hp hu hq
  · exact exec_join_head hready hp hu hq j
  · exact fun m e ok r => exec_joinAck_own hready hp hu hq
  · exact fun m hid hl => ⟨State.judgeJoin_twice hid hl, judgeJoin_fields hid hl⟩
  · exact fun m e ok r hm he hj => State.takeAckOfJoin_fields hj ok r hm he

end Sys2Proof.Proofs

/-!
Fences: what a signal, a mark and its clearing leave, and which operations that wait go on or end; the signals of one cycle;
the control operators. They settle O27.
-/

namespace Sys2Proof.Machine

/-! ## An operation that waits on a fence (R162, R163) -/

section
variable {f : Nat} {v : Fence} {o : Op} {e : Sqe} (he : o.sqe? = some e)
include he

theorem wake?_other (h : o.phase ≠ .waiting ∨ e.waitFence ≠ f) : wake? f v o = o := by
  unfold wake?
  split
  · next hp he' =>
    cases he.symm.trans he'
    rw [if_pos (bne_iff_ne.2 (h.resolve_left (absurd hp)))]
  · rfl

theorem wake?_error (hp : o.phase = .waiting) (hf : e.waitFence = f) (hv : v.error = true) (hi : e.ignoreErr = false) :
    wake? f v o = { o with phase := .done ABORT_FENCE_ERROR (some f) none } := by
  simp [wake?, hp, he, hf, hv, hi]

theorem wake?_value (hp : o.phase = .waiting) (hf : e.waitFence = f) (hv : v.error = false ∨ e.ignoreErr = true) :
    wake? f v o = if e.waitValue ≤ v.value then { o with phase := .started, startValue := v.value } else o := by
  have hgo : ¬ (v.error && !e.ignoreErr) = true := by rcases hv with h | h <;> simp [h]
  simp only [wake?, hp, he, hf, bne_self_eq_false, Bool.false_eq_true, if_false, if_neg hgo, ge_iff_le]

end

/-- What events change stays so when fences and operations are replaced alike before and after. -/
theorem Tells.withWaits {ks : List Nat} {s t : State} (h : Tells ks s t) (fs : SMap Fence) (os : SMap Op) :
    Tells ks { s with fences := fs, ops := os } { t with fences := fs, ops := os } :=
  ⟨congrArg (fun u : State => { u with fences := fs, ops := os }) h.1, h.2.1, h.2.2⟩

/-- From `s` to `t` the operations that wait on fence `f` have started, or ended, by its value and mark in `t`. -/
def WaitsSettled (f : Nat) (s t : State) : Prop := ∀ tag o e, s.op? tag = some o → o.sqe? = some e →
  (o.phase ≠ .waiting ∨ e.waitFence ≠ f → t.op? tag = some o) ∧
  (o.phase = .waiting → e.waitFence = f → (t.fence f).error = true → e.ignoreErr = false →
    t.op? tag = some { o with phase := .done ABORT_FENCE_ERROR (some f) none }) ∧
  (o.phase = .waiting → e.waitFence = f → (t.fence f).error = false ∨ e.ignoreErr = true →
    t.op? tag = some (if e.waitValue ≤ (t.fence f).value
      then { o with phase := .started, startValue := (t.fence f).value } else o))

namespace State

/-! ## A fence set -/

@[simp] theorem fence_fenceSet_self (s : State) (f : Nat) (v : Fence) : (s.fenceSet f v).fence f = v :=
  fence_setFence_self s f v

theorem fence_fenceSet_ne (s : State) {f g : Nat} (v : Fence) (h : g ≠ f) : (s.fenceSet f v).fence g = s.fence g :=
  fence_setFence_ne s v h

/-- Setting a fence changes fences and operations alone. -/
theorem fenceSet_apart (s : State) (f : Nat) (v : Fence) (fs : SMap Fence) (os : SMap Op) :
    { s.fenceSet f v with fences := fs, ops := os } = { s with fences := fs, ops := os } := rfl

theorem op?_fenceSet (s : State) (f : Nat) (v : Fence) (tag : Nat) :
    (s.fenceSet f v).op? tag = (s.op? tag).map (wake? f v) :=
  SMap.get?_map s.ops (f := fun x => (x.1, wake? f v x.2)) (fun _ => rfl) tag

theorem waitsSettled_fenceSet {s u : State} (hops : u.ops = s.ops) (f : Nat) (v : Fence) :
    WaitsSettled f s (u.fenceSet f v) := by
  intro tag o e ho he
  have hwoken : (u.fenceSet f v).op? tag = some (wake? f v o) := by
    rw [op?_fenceSet, op?, hops, ← op?, ho, Option.map_some]
  rw [hwoken, fence_fenceSet_self]
  exact ⟨fun h => congrArg some (wake?_other he h), fun hp hf hv hi => congrArg some (wake?_error he hp hf hv hi),
    fun hp hf hv => congrArg some (wake?_value he hp hf hv)⟩

/-! ## Signals, marks and their clearing (R160, R163, R164) -/

/-- The state with a signal's regress counted, where it is one. -/
def regressed (s : State) (f v : Nat) : State := if v < (s.fence f).value then s.count OPL_REGRESS_CNT.COUNT else s

theorem signal_eq (s : State) (f v : Nat) (err : Bool) : s.signal f v err =
    (s.regressed f v).fenceSet f ⟨max (s.fence f).value v, (s.fence f).error || err⟩ := rfl

theorem tells_regressed (s : State) (f v : Nat) : Tells [OPL_REGRESS_CNT.COUNT.key 0] s (s.regressed f v) := by
  unfold regressed; split
  · exact .count ..
  · exact (Tells.refl s).mono (by simp)

theorem regressed_fences (s : State) (f v : Nat) : (s.regressed f v).fences = s.fences := by
  rw [(s.tells_regressed f v).1]

theorem regressed_ops (s : State) (f v : Nat) : (s.regressed f v).ops = s.ops := by
  rw [(s.tells_regressed f v).1]

theorem regressed_pending (s : State) (f v : Nat) : (s.regressed f v).pending = s.pending := by
  rw [(s.tells_regressed f v).1]

/-- Fences and operations apart, a signal changes what counting its regress changes. -/
theorem tells_signal (s : State) (f v : Nat) (err : Bool) (fs : SMap Fence) (os : SMap Op) :
    Tells [OPL_REGRESS_CNT.COUNT.key 0] { s with fences := fs, ops := os }
      { s.signal f v err with fences := fs, ops := os } := by
  rw [signal_eq, fenceSet_apart]
  exact (s.tells_regressed f v).withWaits fs os

theorem fence_signal (s : State) (f v : Nat) (err : Bool) (g : Nat) : (s.signal f v err).fence g =
    if g = f then ⟨max (s.fence f).value v, (s.fence f).error || err⟩ else s.fence g := by
  rw [signal_eq]
  split
  · next h => rw [h, fence_fenceSet_self]
  · next h => rw [fence_fenceSet_ne _ _ h, fence, regressed_fences, ← fence]

theorem fence_fenceErr (s : State) (f g : Nat) :
    (s.fenceErr f).fence g = if g = f then { s.fence f with error := true } else s.fence g := by
  unfold fenceErr
  split
  · next h => rw [h, fence_fenceSet_self]
  · next h => exact fence_fenceSet_ne _ _ h

theorem fence_fenceClear (s : State) (f g : Nat) :
    (s.fenceClear f).fence g = if g = f then { s.fence f with error := false } else s.fence g := by
  unfold fenceClear
  split
  · next h => rw [h, fence_setFence_self]
  · next h => exact fence_setFence_ne _ _ h

/-- A signal from a source other than Garnet, to a fence that is not a slice fence (R165). -/
theorem signalBy_eq {s : State} {f : Nat} (hf : f ≠ noFence) (hs : s.isSliceFence f = false) (v : Nat) (err : Bool) :
    s.signalBy f v err = s.signal f v err := by
  rw [signalBy, if_neg (by simp [hf, hs])]

/-- A saturating counter's own count (Table 0-4). -/
theorem reg_count_sat (s : State) {F : Fld} (d n : Nat) (hF : F.acc = .sat) (hk : ¬ eventKey (F.key d)) :
    (s.count F d n).reg F d = min (s.reg F d + n) (2 ^ F.w - 1) := by
  have hbump : (s.bump F d n).1.reg F d = min (s.reg F d + n) (2 ^ F.w - 1) := by
    have hlt : min (s.reg F d + n) (2 ^ F.w - 1) < 2 ^ F.w :=
      Nat.lt_of_le_of_lt (Nat.min_le_right _ _) (Nat.sub_lt (Nat.two_pow_pos _) Nat.one_pos)
    have hset := reg_setReg_self s F d (min (s.reg F d + n) (2 ^ F.w - 1))
    rw [Nat.mod_eq_of_lt hlt] at hset
    simp only [bump, hF]
    split
    · exact hset
    · exact hset
  unfold count; dsimp only
  split
  · rw [(Tells.satEvent _ F d).reg F d List.not_mem_nil hk, hbump]
  · exact hbump

/-! ## Writes of OPL_FENCE_CTRL (R178) -/

/-- The argument that OPL_FENCE_ARG holds. -/
def fenceArg (s : State) : Nat := s.reg64 OPL_FENCE_ARG_LO.ARG OPL_FENCE_ARG_HI.ARG

section
variable (s : State) {v : Nat}

theorem fenceCtrl_signal (h1 : bit v 1 = true) (h2 : bit v 2 = false) (h3 : bit v 3 = false) :
    s.fenceCtrl v [] = s.signalBy (s.reg OPL_FENCE_SEL.INDEX) s.fenceArg false := by
  simp [fenceCtrl, fenceArg, h1, h2, h3, b2n]

theorem fenceCtrl_setErr (h1 : bit v 1 = false) (h2 : bit v 2 = true) (h3 : bit v 3 = false) :
    s.fenceCtrl v [] = s.fenceErr (s.reg OPL_FENCE_SEL.INDEX) := by
  simp [fenceCtrl, h1, h2, h3, b2n]

theorem fenceCtrl_clearErr (h1 : bit v 1 = false) (h2 : bit v 2 = false) (h3 : bit v 3 = true) :
    s.fenceCtrl v [] = s.fenceClear (s.reg OPL_FENCE_SEL.INDEX) := by
  simp [fenceCtrl, h1, h2, h3, b2n]

theorem fenceCtrl_two (h1 : bit v 1 = true) (h : bit v 2 = true ∨ bit v 3 = true) :
    s.fenceCtrl v [] = s.cfgErr .opl := by
  have hn : b2n (bit v 1) + b2n (bit v 2) + b2n (bit v 3) > 1 := by
    rcases h with h | h <;> simp only [h1, h, b2n, if_true] <;> omega
  simp [fenceCtrl, hn]

end

section
variable {s : State} {v : Nat} (hr : s.running = true)
include hr

theorem exec_oplFenceSignal (h : bit v 1 = true) : exec (.oplFenceSignal ⟨v, []⟩) s = answer s (s.fenceCtrl v []) := by
  show stepIf _ _ _ = _
  rw [stepIf, if_pos (by rw [hr, h]; rfl)]

theorem exec_oplFenceSetErr (h : bit v 2 = true) : exec (.oplFenceSetErr ⟨v, []⟩) s = answer s (s.fenceCtrl v []) := by
  show stepIf _ _ _ = _
  rw [stepIf, if_pos (by rw [hr, h]; rfl)]

theorem exec_oplFenceClearErr (h : bit v 3 = true) : exec (.oplFenceClearErr ⟨v, []⟩) s = answer s (s.fenceCtrl v []) := by
  show stepIf _ _ _ = _
  rw [stepIf, if_pos (by rw [hr, h]; rfl)]

end

/-- A write that asks for the signal alone signals the selected fence and settles the waits on it; a regress is counted. -/
theorem oplFenceSignal_signals {s : State} {v : Nat} (hr : s.running = true) (h1 : bit v 1 = true) (h2 : bit v 2 = false)
    (h3 : bit v 3 = false) (hf : s.reg OPL_FENCE_SEL.INDEX ≠ noFence)
    (hs : s.isSliceFence (s.reg OPL_FENCE_SEL.INDEX) = false) :
    let f := s.reg OPL_FENCE_SEL.INDEX
    let old := s.fence f
    ∃ t, exec (.oplFenceSignal ⟨v, []⟩) s = .next t ∧ t.fence f = ⟨max old.value s.fenceArg, old.error⟩ ∧
      WaitsSettled f s t ∧ (∀ g, g ≠ f → t.fence g = s.fence g) ∧
      (old.value ≤ s.fenceArg → t = { s with fences := t.fences, ops := t.ops }) ∧
      (s.fenceArg < old.value → t.reg OPL_REGRESS_CNT.COUNT = min (s.reg OPL_REGRESS_CNT.COUNT + 1) (2 ^ 32 - 1) ∧
        Tells [OPL_REGRESS_CNT.COUNT.key 0] s { t with fences := s.fences, ops := s.ops }) := by
  intro f old
  have heq : s.fenceCtrl v [] = s.signal f s.fenceArg false := by rw [s.fenceCtrl_signal h1 h2 h3, signalBy_eq hf hs]
  refine ⟨s.signal f s.fenceArg false, ?_, ?_, ?_, fun g hg => ?_, fun hle => ?_, fun hlt => ⟨?_, ?_⟩⟩
  · rw [exec_oplFenceSignal hr h1, heq]
    exact answer_self (s.regressed_pending f _)
  · rw [fence_signal, if_pos rfl, Bool.or_false]
  · exact waitsSettled_fenceSet (s.regressed_ops f _) f _
  · rw [fence_signal, if_neg hg]
  · rw [signal_eq, regressed, if_neg (Nat.not_lt.2 hle)]; rfl
  · have hcount : s.regressed f s.fenceArg = s.count OPL_REGRESS_CNT.COUNT := if_pos hlt
    rw [signal_eq, hcount]
    exact s.reg_count_sat 0 1 rfl (not_eventKey_of_lt (by decide))
  · exact s.tells_signal f s.fenceArg false s.fences s.ops

/-! ## Updates of one cycle (R173, Table 7-4) -/

theorem fence_foldl_fenceErr (ups : List (Nat × Nat × Bool)) (s : State) (g : Nat) :
    (ups.foldl (fun t u => t.fenceErr u.1) s).fence g =
      { s.fence g with error := (s.fence g).error || ups.any fun u => u.1 == g } := by
  induction ups generalizing s with
  | nil => simp
  | cons u ups ih =>
    rw [List.foldl_cons, ih, fence_fenceErr, List.any_cons]
    by_cases h : g = u.1
    · simp [h]
    · simp [h, beq_false_of_ne (Ne.symm h)]

theorem fence_foldl_signal (ups : List (Nat × Nat × Bool)) (s : State) (g : Nat) :
    (ups.foldl (fun t u => t.signal u.1 u.2.1 false) s).fence g =
      { s.fence g with value := (ups.filter (·.1 == g)).foldl (fun m u => max m u.2.1) (s.fence g).value } := by
  induction ups generalizing s with
  | nil => rfl
  | cons u ups ih =>
    rw [List.foldl_cons, ih, fence_signal]
    by_cases h : g = u.1
    · subst h; simp
    · simp [h, Ne.symm h]

end State

theorem insertBy_perm {α : Type} (f : α → Nat) (x : α) (l : List α) : (insertBy f x l).Perm (x :: l) := by
  induction l with
  | nil => exact .refl _
  | cons y l ih =>
    rw [insertBy]; split
    · exact .refl _
    · exact (ih.cons y).trans (.swap x y l)

theorem sortBy_perm {α : Type} (f : α → Nat) (l : List α) : (sortBy f l).Perm l := by
  have h (acc : List α) : (l.foldl (fun acc x => insertBy f x acc) acc).Perm (l ++ acc) := by
    induction l generalizing acc with
    | nil => exact .refl _
    | cons x l ih => exact (ih _).trans (((insertBy_perm f x acc).append_left l).trans List.perm_middle)
  simpa [sortBy] using h []

/-- The errors come first and the values in ascending order, but what a fence holds at the end depends on no order. -/
theorem State.fence_sameCycle (s : State) (ups : List (Nat × Nat × Bool)) (g : Nat) : (s.sameCycle ups).fence g =
    ⟨(ups.filter (·.1 == g)).foldl (fun m u => max m u.2.1) (s.fence g).value,
      (s.fence g).error || ups.any fun u => u.1 == g && u.2.2⟩ := by
  have hperm : ((sortBy (·.2.1) ups).filter (·.1 == g)).Perm (ups.filter (·.1 == g)) := (sortBy_perm ..).filter _
  unfold State.sameCycle; dsimp only
  rw [fence_foldl_signal, fence_foldl_fenceErr, List.any_filter,
    hperm.foldl_eq' (fun a _ b _ m => Nat.max_right_comm m a.2.1 b.2.1)]
  simp only [Bool.and_comm]

/-! ## The end of an operation -/

namespace State

section
variable {s : State} {tag : Nat} {o : Op}

theorem finish_eq (ho : s.op? tag = some o) (st : Nat) (r d : Option Nat) :
    s.finish tag st r d = s.setOp tag { o with phase := .done st r d } := by
  simp only [finish, ho]

theorem ended_finish (ho : s.op? tag = some o) (st : Nat) (r d : Option Nat) : Ended (s.finish tag st r d) tag st r d :=
  ⟨_, by rw [finish_eq ho, op?_setOp_self], rfl⟩

theorem muteOp_eq (ho : s.op? tag = some o) : s.muteOp tag = s.setOp tag (o.mapSqe mute) := by
  simp only [muteOp, ho]

/-- An operation whose signal has been given ends, and nothing changes but the operations. -/
theorem finish_muteOp (ho : s.op? tag = some o) (st : Nat) (r d : Option Nat) :
    ∃ os, (s.muteOp tag).finish tag st r d = { s with ops := os } ∧ Ended { s with ops := os } tag st r d := by
  have hmuted : (s.muteOp tag).op? tag = some (o.mapSqe mute) := by rw [muteOp_eq ho, op?_setOp_self]
  have heq : (s.muteOp tag).finish tag st r d = { s with ops := ((s.muteOp tag).finish tag st r d).ops } := by
    rw [finish_eq hmuted, muteOp_eq ho]; rfl
  exact ⟨_, heq, heq ▸ ended_finish hmuted st r d⟩

/-- An operator that runs, and whose issuer and fields are good, has its effect. -/
theorem runOp_runs {code : Nat} {e : Sqe} (h : Runs s tag code o e) {issuer : Op → Sqe → Bool}
    {fields : Op → Sqe → Option Nat} (hi : issuer o e = true) (hf : fields o e = none) (k : Op → Sqe → State) :
    s.runOp tag code issuer fields k = k o e := by
  obtain ⟨hrun, ho, he, hp, hstop, hcode, hovr, hmem⟩ := h
  simp [runOp, ho, he, hrun, hp, hstop, hcode, hovr, hmem, hi, hf]

end

/-! ## NOP, FENCE_WAIT and FENCE_SIGNAL (R383 to R385) -/

section
variable {s : State} {tag : Nat} {o : Op} {e : Sqe} (io : OpIo)

/-- An answer that ends the operation under `tag` changes nothing but the operations. -/
theorem answer_finish (ho : s.op? tag = some o) (st : Nat) (r d : Option Nat) :
    ∃ t, answer s (s.finish tag st r d) = .next t ∧ Ended t tag st r d ∧ t = { s with ops := t.ops } :=
  ⟨_, answer_self (by rw [finish_eq ho, setOp_pending]), ended_finish ho st r d, by rw [finish_eq ho]; rfl⟩

theorem exec_nop (h : Runs s tag 0x0001 o e) (hz : e.rsv [(32, 32)] = true) :
    exec (.nop tag io) s = answer s (s.finish tag OK (some 0) (some 0)) :=
  congrArg (answer s) (runOp_runs h rfl (by rw [hz]; rfl) _)

theorem exec_fenceWait (h : Runs s tag 0x0003 o e) (hz : e.rsv [(32, 32)] = true) :
    exec (.fenceWait tag io) s = answer s (s.finish tag OK (some (o.startValue % 2 ^ 32))) :=
  congrArg (answer s) (runOp_runs h rfl (by rw [hz]; rfl) _)

theorem exec_fenceSignal (h : Runs s tag 0x0002 o e) (hm : e.fld 32 1 < 3) (hz : e.rsv [(33, 31)] = true)
    (hf : e.fld 32 1 = 0 ∨ e.signalFence ≠ noFence) :
    exec (.fenceSignal tag io) s = answer s (s.fenceSignalOp tag e) :=
  congrArg (answer s) (runOp_runs h rfl (by simp [hm, hz, hf, orDescriptor]) _)

/-- FENCE_SIGNAL's fence before its signal: its mark cleared, where the operand asks for that. -/
def markCleared (s : State) (e : Sqe) : State := if bit (e.fld 32 1) 0 then s.fenceClear e.signalFence else s

/-- FENCE_SIGNAL's effect on its fence. -/
def fenceSignalled (s : State) (e : Sqe) : State :=
  (s.markCleared e).signal e.signalFence e.signalValue (bit (e.fld 32 1) 1)

theorem markCleared_same (s : State) (e : Sqe) : s.markCleared e = { s with fences := (s.markCleared e).fences } := by
  unfold markCleared; split <;> rfl

theorem markCleared_apart (s : State) (e : Sqe) (fs : SMap Fence) (os : SMap Op) :
    { s.markCleared e with fences := fs, ops := os } = { s with fences := fs, ops := os } := by
  rw [markCleared_same]

theorem fence_markCleared (s : State) (e : Sqe) (g : Nat) : (s.markCleared e).fence g =
    if g = e.signalFence then { s.fence g with error := (s.fence g).error && !bit (e.fld 32 1) 0 } else s.fence g := by
  unfold markCleared
  split
  · next h =>
    rw [fence_fenceClear]
    split
    · next hg => simp [h, hg]
    · rfl
  · next h => simp [h]

theorem fenceSignalOp_eq (tag : Nat) (hf : e.signalFence ≠ noFence) (hs : s.isSliceFence e.signalFence = false) :
    s.fenceSignalOp tag e = ((s.fenceSignalled e).muteOp tag).finish tag OK
      (some (((s.fenceSignalled e).fence e.signalFence).value % 2 ^ 32)) := by
  have hs' : (s.markCleared e).isSliceFence e.signalFence = false := by rw [markCleared_same]; exact hs
  unfold fenceSignalOp; dsimp only
  rw [if_neg hf, ← markCleared, signalBy_eq hf hs']
  rfl

/-- The larger value; the mark goes where the operand clears it and comes where it sets it. -/
theorem fence_fenceSignalled (s : State) (hm : e.fld 32 1 < 3) : (s.fenceSignalled e).fence e.signalFence =
    ⟨max (s.fence e.signalFence).value e.signalValue,
      ((s.fence e.signalFence).error && e.fld 32 1 != 1) || e.fld 32 1 == 2⟩ := by
  have hbits : (!bit (e.fld 32 1) 0) = (e.fld 32 1 != 1) ∧ bit (e.fld 32 1) 1 = (e.fld 32 1 == 2) := by
    generalize e.fld 32 1 = m at hm
    revert m; decide
  rw [fenceSignalled, fence_signal, if_pos rfl, fence_markCleared, if_pos rfl, hbits.1, hbits.2]

theorem fence_fenceSignalled_ne (s : State) {g : Nat} (hg : g ≠ e.signalFence) :
    (s.fenceSignalled e).fence g = s.fence g := by
  rw [fenceSignalled, fence_signal, if_neg hg, fence_markCleared, if_neg hg]

theorem tells_fenceSignalled (s : State) (e : Sqe) : Tells [OPL_REGRESS_CNT.COUNT.key 0] s
    { s.fenceSignalled e with fences := s.fences, ops := s.ops } := by
  have h := (s.markCleared e).tells_signal e.signalFence e.signalValue (bit (e.fld 32 1) 1) s.fences s.ops
  rwa [markCleared_apart] at h

/-- An operation that waits on nothing stays as it is. -/
theorem op?_fenceSignalled {p : Sqe} (ho : s.op? tag = some o) (hp : o.sqe? = some p) (hw : o.phase ≠ .waiting) :
    (s.fenceSignalled e).op? tag = some o := by
  have hops : ((s.markCleared e).regressed e.signalFence e.signalValue).ops = s.ops := by
    rw [regressed_ops, markCleared_same]
  rw [fenceSignalled, signal_eq]
  exact (waitsSettled_fenceSet hops _ _ tag o p ho hp).1 (.inl hw)

end

end State

theorem State.fenceSignal_signals {s : State} {tag : Nat} {o : Op} {e : Sqe} (io : OpIo) (h : Runs s tag 0x0002 o e)
    (hm : e.fld 32 1 < 3) (hz : e.rsv [(33, 31)] = true) (hf : e.signalFence ≠ noFence)
    (hs : s.isSliceFence e.signalFence = false) :
    let old := s.fence e.signalFence
    ∃ t, exec (.fenceSignal tag io) s = .next t ∧
      t.fence e.signalFence = ⟨max old.value e.signalValue, (old.error && e.fld 32 1 != 1) || e.fld 32 1 == 2⟩ ∧
      Ended t tag OK (some (max old.value e.signalValue % 2 ^ 32)) none ∧
      (∀ g, g ≠ e.signalFence → t.fence g = s.fence g) ∧
      Tells [OPL_REGRESS_CNT.COUNT.key 0] s { t with fences := s.fences, ops := s.ops } := by
  intro old
  have hexec := State.exec_fenceSignal io h hm hz (.inr hf)
  obtain ⟨-, ho, he, hp, -⟩ := h
  have hop := State.op?_fenceSignalled (e := e) ho he (by rw [hp]; decide)
  have hfence := s.fence_fenceSignalled hm
  have htells := s.tells_fenceSignalled e
  have hpending := congrArg State.pending htells.1
  obtain ⟨os, heq, hended⟩ := State.finish_muteOp hop OK (some (max old.value e.signalValue % 2 ^ 32)) none
  rw [State.fenceSignalOp_eq tag hf hs, hfence, heq] at hexec
  exact ⟨_, hexec.trans (State.answer_self hpending), hfence, hended,
    fun g hg => s.fence_fenceSignalled_ne hg, htells⟩

end Sys2Proof.Machine

namespace Sys2Proof.Proofs
open Sys2Proof.Machine

/-- Settles O27: every update of a fence is one `fenceSet` or `setFence`, which tells what the fence holds and, by `wake?`,
what the operations that wait on it do. -/
theorem fencesAndControl : Obligations.FencesAndControl := by
  unfold Obligations.FencesAndControl
  refine ⟨fun s v hr => ⟨State.oplFenceSignal_signals hr, fun h1 h2 h3 => ?_, fun h1 h2 h3 => ?_, fun h1 h => ?_,
    fun ups g => ?_⟩, fun s tag io o e => ⟨fun h hz => ?_, fun h hz => ?_, fun h hm hz hf => ?_, State.fenceSignal_signals io⟩⟩
  · rw [State.exec_oplFenceSetErr hr h2, s.fenceCtrl_setErr h1 h2 h3]
    exact ⟨_, State.answer_self rfl, State.fence_fenceSet_self .., State.waitsSettled_fenceSet rfl _ _, rfl⟩
  · rw [State.exec_oplFenceClearErr hr h3, s.fenceCtrl_clearErr h1 h2 h3]
    exact ⟨_, State.answer_self rfl, State.fence_setFence_self .., rfl⟩
  · obtain ⟨hset, hsum, htouch⟩ := s.cfgErr_reports (b := .opl) rfl
    rw [State.exec_oplFenceSignal hr h1, s.fenceCtrl_two h1 h]
    exact ⟨_, State.answer_self (by rw [htouch.1]), hset, hsum, htouch⟩
  · dsimp only
    rw [s.fence_sameCycle ups g]
    exact ⟨rfl, rfl⟩
  · rw [State.exec_nop io h hz]
    exact State.answer_finish h.2.1 ..
  · rw [State.exec_fenceWait io h hz]
    exact State.answer_finish h.2.1 ..
  · have heff : s.fenceSignalOp tag e = s.finish tag OK := if_pos hf
    rw [State.exec_fenceSignal io h (by omega) hz (.inl hm), heff]
    exact State.answer_finish h.2.1 ..

end Sys2Proof.Proofs
